-- ==== Sys2Proof/Word.lean ====
section
/-!
DEFINITION. The word types of the shared memory (R170: 32-bit little-endian words over bytes).
-/

namespace Sys2Proof

/-- One byte of the shared memory. -/
abbrev Byte := BitVec 8

/-- One 32-bit word, the unit of every access to the shared memory (R170). -/
abbrev Word := BitVec 32

end Sys2Proof
end

