-- ==== Sys2Proof/Syntax.lean ====
section
/-!
DEFINITION. The commands of the PB24: one constructor of `Instr` for each row of the table of events,
with what the outside world brings along with the event.
-/

namespace Sys2Proof

/-- The ten station windows of R7. -/
inductive Window where
  | launch | pocket | load | gauge | mill | spineGlue | sideGlue | cover | nip | deliver
deriving DecidableEq, Repr

/-- The reading of a pocket's sheet detector (chapter 4, section 4.2). -/
inductive SheetReading where
  | noSheet | one | double
deriving DecidableEq, Repr

/-- The two cover magazines (R120). -/
inductive Magazine where
  | a | b
deriving DecidableEq, Repr

/-- What can fall on one value of the phase counter: the start or the end of a window (R7) and the four valve
phase points (R116). -/
inductive PhaseEvent where
  | opens (w : Window)
  | closes (w : Window)
  | spineOpen | spineClose | sideOpen | sideClose
deriving DecidableEq, Repr

/-- What the sensors would read at an event of the phase counter, and, where several events fall on one count and
the spec gives them no order, which are taken first (assumption log, entries 6 and 7). -/
structure CountInputs where
  /-- the 16 sheet detectors, read at a POCKET end (R63) -/
  sheets : Vector SheetReading 16
  /-- the code of a cover fed at a COVER start, `none` for NOREAD (R122) -/
  cover : Option Word
  /-- events to be taken first among those of one count -/
  order : List PhaseEvent
deriving DecidableEq, Repr

/-- The input levels a power-on reset finds (R155, R120). -/
structure InputLevels where
  estop : Bool
  guardOpen : Bool
  emptyA : Bool
  emptyB : Bool
deriving DecidableEq, Repr

/-- The header words that belong to the host's side of the attention line (R177). -/
inductive AttentionWord where
  | enables
  | seen (cause : Fin 8)
deriving DecidableEq, Repr

/-- The commands, one constructor for each row of the table. `dt` is the time in µs since the command before
(assumption log, entry 1). -/
inductive Instr where
  | powerOnReset (dt : Nat) (levels : InputLevels)
  | controllerReset (dt : Nat)
  | forwardEncoderCount (dt : Nat) (io : CountInputs)
  | reverseEncoderCount (dt : Nat)
  | indexMark (dt : Nat) (io : CountInputs)
  | pocketCodeReport (dt : Nat) (pocket : Fin 16) (code : Word)
  | pocketReloaded (dt : Nat) (pocket : Fin 16)
  | gluePumpPulse (dt : Nat)
  | fetchAttemptEnd (dt : Nat) (lags : List Nat)
  | fetchWaitExpiry (dt : Nat)
  | fetchTimeout (dt : Nat)
  | conversionComplete (dt : Nat) (result : Option (BitVec 10))
  | temperatureTimerExpiry (dt : Nat)
  | heaterPeriodStart (dt : Nat)
  | heaterOnTimeEnd (dt : Nat)
  | millMotionComplete (dt : Nat)
  | spindleLoadPulse (dt : Nat)
  | scorerMotionComplete (dt : Nat)
  | magazineSensorChange (dt : Nat) (magazine : Magazine) (empty : Bool)
  | setTimeExpiry (dt : Nat) (place : Fin 12)
  | knifePositioningReport (dt : Nat)
  | positioningLimitExpiry (dt : Nat)
  | cutTimerExpiry (dt : Nat) (beamAtTop : Bool)
  | cutCompleteInput (dt : Nat)
  | emergencyStopInput (dt : Nat) (active : Bool) (abortFirst : Bool)
  | guardInput (dt : Nat) (opened : Bool) (abortFirst : Bool)
  | startKeyPress (dt : Nat)
  | startKeyRelease (dt : Nat)
  | stableTimerExpiry (dt : Nat)
  | restTimerExpiry (dt : Nat)
  | scheduleNotice (dt : Nat) (value : Word)
  | loadConfig (dt : Nat)
  | loadConfigReadEnd (dt : Nat) (lags : List Nat)
  | warm (dt : Nat)
  | start (dt : Nat)
  | runOut (dt : Nat)
  | resume (dt : Nat)
  | clearClamp (dt : Nat) (arg1 : Word)
  | purgeCache (dt : Nat)
  | setCursor (dt : Nat) (arg1 : Word)
  | setback (dt : Nat)
  | cool (dt : Nat)
  | halt (dt : Nat)
  | unknownCommand (dt : Nat) (code : Word)
  | attentionWrite (dt : Nat) (word : AttentionWord) (value : Word)
  | hostWordWrite (dt : Nat) (addr : Nat) (value : Word)
deriving DecidableEq, Repr

end Sys2Proof
end

