-- ==== Sys2Proof/Decode.lean ====
section
/-!
DEFINITION. The reading of a command from the table's bits. No row of the table gives bits (every row's "fields" is
empty and none has a "fixed"), so no word spells a command (assumption log, entry 24).
-/

namespace Sys2Proof

/-- The command that a word spells by the table's bits: none, for no row has any. -/
def decodeTableWord (_nbits _w : Nat) : Option Instr := none

end Sys2Proof
end

