-- ==== Sys2Proof/Config.lean ====
section
/-!
DEFINITION. The settings of R176, and the free values: what the spec leaves without a
value, as constants without a body.
-/

namespace Sys2Proof

/-- A window's start and end value (R7). -/
structure Span where
  first : Nat
  last : Nat
deriving DecidableEq, Repr

/-- The fields of the configuration record, index 1 to 34 of R176. -/
structure Settings where
  pitch : Nat
  speed : Nat
  startCycle : Nat
  wLaunch : Span
  wPocket : Span
  wLoad : Span
  wGauge : Span
  wMill : Span
  wSpineGlue : Span
  wSideGlue : Span
  wCover : Span
  wNip : Span
  wDeliver : Span
  leadSpine : Nat
  leadSide : Nat
  valveLead : Nat
  gaugeZero : Nat
  gaugeSpan : Nat
  workingSet : Nat
  band : Nat
  setbackSet : Nat
  gain : Nat
  stableTime : Nat
  idleLimit : Nat
  setbackDelay : Nat
  coldDelay : Nat
  openTime : Nat
  highMark : Nat
  twoUp : Bool
  stackLimit : Nat
  cutTime : Nat
  missLimit : Nat
  millCal : Nat
  wearLimit : Nat
deriving DecidableEq, Repr

namespace Config

/-- FREE VALUE (assumption log, entry 13): the term leaves × caliper × compression of a signature whose stock place
is absent. R43 says that no cached job has such a signature. First argument the leaves, second the stock code. -/
opaque absentStock : Nat → Nat → Nat

/-- FREE VALUE (assumption log, entry 37): the caliper a stock copy holds when the word read lies outside the caliper's
range. R43 says only that the copy holds the mark not defined. The argument is what the word held. -/
opaque strayCaliper : Nat → Nat

/-- FREE VALUE (assumption log, entry 37): the compression a stock copy holds when the word read lies outside the
compression's range. The argument is what the word held. -/
opaque strayCompression : Nat → Nat

/-- FREE VALUE (assumption log, entry 43): whether the magazine of a job record reads as B when its field holds neither 0
nor 1, which R42 does not validate for a job of cover mode NONE. The argument is what the field holds. -/
opaque strayMagazine : Nat → Bool

/-- FREE VALUE (assumption log, entry 14): the 32-bit word written for a detail value or a thickness that 32 bits
cannot hold. R103 says that no such value arises. -/
opaque cutShort : Nat → Word

end Config

end Sys2Proof
end

