-- ==== Sys2Proof/Machine/Defaults.lean ====
section
/-!
DEFINITION. The windows among the settings, and the built-in defaults (R7, R176).
-/

namespace Sys2Proof

/-- The window of a station (R7, R176 index 4 to 13). -/
def Settings.window (c : Settings) : Window → Span
  | .launch => c.wLaunch
  | .pocket => c.wPocket
  | .load => c.wLoad
  | .gauge => c.wGauge
  | .mill => c.wMill
  | .spineGlue => c.wSpineGlue
  | .sideGlue => c.wSideGlue
  | .cover => c.wCover
  | .nip => c.wNip
  | .deliver => c.wDeliver

/-- The built-in defaults (R7, R176). -/
def Settings.defaults : Settings where
  pitch := 500000
  speed := 5000
  startCycle := 1200000
  wLaunch := ⟨200, 600⟩
  wPocket := ⟨800, 1600⟩
  wLoad := ⟨2000, 2600⟩
  wGauge := ⟨1000, 1400⟩
  wMill := ⟨600, 3400⟩
  wSpineGlue := ⟨1100, 3100⟩
  wSideGlue := ⟨1100, 3100⟩
  wCover := ⟨1500, 2500⟩
  wNip := ⟨2800, 3600⟩
  wDeliver := ⟨3000, 3800⟩
  leadSpine := 1200
  leadSide := 1200
  valveLead := 3000
  gaugeZero := 12
  gaugeSpan := 64000
  workingSet := 1700
  band := 80
  setbackSet := 1200
  gain := 64
  stableTime := 30
  idleLimit := 20
  setbackDelay := 600
  coldDelay := 3600
  openTime := 8000
  highMark := 9
  twoUp := true
  stackLimit := 60000
  cutTime := 450
  missLimit := 3
  millCal := 48000
  wearLimit := 1400

end Sys2Proof
end

