-- ==== Sys2Proof/Machine/Memory.lean ====
section
/-!
DEFINITION. The shared memory of R170: 64 KiB of bytes, held as a list of cells in one canonical form, reached in
little-endian 32-bit words.
-/

namespace Sys2Proof.Machine

/-- The shared memory: (address, byte) pairs, addresses strictly rising, no pair with the byte an unlisted address
reads as. -/
abbrev Memory := List Host.Cell

/-- What an unlisted address reads as: zero, the contents R180 gives at a power-on reset. -/
def Memory.unlisted : Byte := 0

/-- The size of the shared memory in bytes (R170). -/
def Memory.size : Nat := 0x10000

/-- The byte at an address. -/
def Memory.read : Memory → Nat → Byte
  | [], _ => Memory.unlisted
  | (k, v) :: m, a => if k = a then v else Memory.read m a

/-- The memory without any cell of an address. -/
def Memory.erase : Memory → Nat → Memory
  | [], _ => []
  | (k, v) :: m, a => if k = a then Memory.erase m a else (k, v) :: Memory.erase m a

/-- The memory with a cell put before the first one of a higher address. -/
def Memory.place : Memory → Nat → Byte → Memory
  | [], a, b => [(a, b)]
  | (k, v) :: m, a, b => if a < k then (a, b) :: (k, v) :: m else (k, v) :: Memory.place m a b

/-- A byte write, keeping the canonical form. -/
def Memory.write (m : Memory) (a : Nat) (b : Byte) : Memory :=
  if b = Memory.unlisted then m.erase a else (m.erase a).place a b

/-- The canonical form from a lowest address on. -/
def Memory.wfFrom : Nat → Memory → Bool
  | _, [] => true
  | lo, (k, v) :: m => decide (lo ≤ k) && decide (k < Memory.size) && decide (v ≠ Memory.unlisted) && Memory.wfFrom (k + 1) m

/-- The canonical form: addresses strictly rising, inside the 64 KiB, no cell equal to an unlisted one. -/
def Memory.wf (m : Memory) : Bool := Memory.wfFrom 0 m

/-- The little-endian word at a byte address (00, section 5.3). -/
def Memory.readWord (m : Memory) (a : Nat) : Word :=
  (m.read (a + 3) ++ m.read (a + 2) ++ m.read (a + 1) ++ m.read a : BitVec (8 + 8 + 8 + 8))

/-- Byte `i` of a word, byte 0 being bits 0 to 7 (11, section 11.2). -/
def wordByte (w : Word) (i : Nat) : Byte := w.extractLsb' (8 * i) 8

/-- A word write, least significant byte at the lowest address. -/
def Memory.writeWord (m : Memory) (a : Nat) (w : Word) : Memory :=
  (((m.write a (wordByte w 0)).write (a + 1) (wordByte w 1)).write (a + 2) (wordByte w 2)).write (a + 3) (wordByte w 3)

/-- Word writes in the order of a list. -/
def Memory.writeWords (m : Memory) (l : List (Nat × Word)) : Memory :=
  l.foldl (fun m p => m.writeWord p.1 p.2) m

/-- The word whose bytes are given, byte 0 first. -/
def packBytes (b0 b1 b2 b3 : Byte) : Word := (b3 ++ b2 ++ b1 ++ b0 : BitVec (8 + 8 + 8 + 8))

end Sys2Proof.Machine
end

