-- ==== Sys2Proof/Machine/Units.lean ====
section
/-!
DEFINITION. The state of each block of the card (00, section 3), as the chapters list it.
-/

namespace Sys2Proof.Machine

/-! ### Names -/

/-- The line modes (chapter 10, section 10.1). -/
inductive LineMode where
  | cold | warming | ready | running | emptying | setback | halted
deriving DecidableEq, Repr

/-- The hold reasons (chapter 2, section 2.3). -/
inductive HoldReason where
  | launched | notRunning | noRoom | noWork | cacheMiss | cacheLocked | pocketStarved | magazineEmpty | glueTemp
  | cellUnknown
deriving DecidableEq, Repr

/-- The cover modes (R42). -/
inductive CoverMode where
  | noCover | title | personal
deriving DecidableEq, Repr

/-- The spoil codes 1 to 20 (R145). -/
inductive SpoilCode where
  | sigMissing | sigDouble | sigWrong | sigNoread | unformatted | thickMismatch | gaugeFail | millLate | glueTemp
  | glueStarved | coverMissing | coverMismatch | coverNoread | coverShort | scoreLate | haltSpoil | inched | removed
  | queueFull | trimAbort
deriving DecidableEq, Repr

/-- The halt causes as a set (R155, R161). -/
structure Causes where
  estop : Bool
  guardOpen : Bool
  jam : Bool
  trimmer : Bool
  coverSequence : Bool
  overheat : Bool
  hostHalt : Bool
deriving DecidableEq, Repr

/-- The names of the halt causes (R161). -/
inductive Cause where
  | estop | guardOpen | jam | trimmer | coverSequence | overheat | hostHalt
deriving DecidableEq, Repr

/-- The end reasons of a ticket (chapter 9, section 9.3). -/
inductive EndReason where
  | noReason | cancelled | short | badJob | badQty | reset
deriving DecidableEq, Repr

/-! ### Job and stock records (chapter 3) -/

/-- A signature entry of a job record (chapter 3, section 3.1). `code` is the expected code, title part in the upper
half. -/
structure SigEntry where
  pocket : Nat
  leaves : Nat
  stock : Nat
  uncoded : Bool
  code : Word
deriving DecidableEq, Repr

/-- A job record as its words are read (R42; layout in chapter 11). Cover mode and magazine are kept as read, since a
record is judged after it is read. -/
structure JobRecord where
  defined : Bool
  editCount : Word
  titleCode : Nat
  sigCount : Nat
  sigs : List SigEntry
  coverMode : Nat
  magazine : Nat
  coverTitle : Nat
  coverWidth : Nat
  allowance : Nat
  designSpine : Nat
  driftLimit : Nat
  hinge : Nat
  height : Nat
  width : Nat
  millDepth : Nat
  finalHeight : Nat
  finalWidth : Nat
  headTrim : Nat
  tolerance : Nat
  glueMargin : Nat
  flowFactor : Nat
  setTime : Nat
  twoUp : Bool
  tolerateNoread : Bool
deriving DecidableEq, Repr

/-- A stock copy (R43). -/
structure StockCopy where
  defined : Bool
  caliper : Nat
  compression : Nat
deriving DecidableEq, Repr

/-- The state of a cache entry (chapter 3, section 3.3). -/
inductive EntryState where
  | empty | filling | filled
deriving DecidableEq, Repr

/-- A cache entry (chapter 3, section 3.3). -/
structure CacheEntry where
  state : EntryState
  job : Option Nat
  copy : Option JobRecord
  locks : Nat
  used : Bool
  stale : Bool
deriving DecidableEq, Repr

/-- A fetch in progress (R45, R46): READING when `waitUntil` is `none`, else WAITING. `writes` is the model's own:
the words the host has written since the attempt began, newest first, each with what it held before. -/
structure Fetch where
  job : Nat
  target : Fin 16
  startedAt : Nat
  waitUntil : Option Nat
  writes : List (Nat × Word)
deriving DecidableEq, Repr

/-- The Job cache (chapter 3). -/
structure JobCache where
  entries : Vector CacheEntry 16
  stock : Vector (Option StockCopy) 64
  fetch : Option Fetch
deriving DecidableEq, Repr

/-! ### The book record -/

/-- The kind of a launch (R30). -/
inductive BookKind where
  | first | remake
deriving DecidableEq, Repr

/-- The format state of a book (R30, R48, R49). -/
inductive FormatState where
  | present | pending | failed
deriving DecidableEq, Repr

/-- A detection point (R144). -/
structure DetectionPoint where
  onCarousel : Bool
  position : Nat
deriving DecidableEq, Repr

/-- A spoil mark (R144). -/
structure SpoilMark where
  code : SpoilCode
  point : DetectionPoint
  detail : Word
  noRead : Bool
deriving DecidableEq, Repr

/-- The warning set (R147). -/
structure Warnings where
  glueHeavy : Bool
  glueClipped : Bool
  spineDrift : Bool
deriving DecidableEq, Repr

/-- The values formed at launch or at the fetch completion (R88). -/
structure LaunchFormat where
  mode : CoverMode
  magazine : Magazine
  coverTitle : Nat
  personal : Word
  tExp : Nat
deriving DecidableEq, Repr

/-- The four tool positions of the scorer (R97, R121), signed as R97 says. -/
structure ScoreSet where
  h1 : Int
  s1 : Int
  s2 : Int
  h2 : Int
deriving DecidableEq, Repr

/-- The three knife positions (R100, R130). -/
structure KnifeSet where
  front : Nat
  head : Nat
  foot : Nat
deriving DecidableEq, Repr

/-- The cover part of the format (R96, R97). -/
structure CoverFormat where
  spine : Nat
  scores : ScoreSet
deriving DecidableEq, Repr

/-- The values formed at the GAUGE end (R87, R92). -/
structure GaugeFormat where
  tMeas : Nat
  cover : Option CoverFormat
  spineOpen : Nat
  spineClose : Nat
  sideOpen : Nat
  sideClose : Nat
  expectedFlow : Nat
  knives : KnifeSet
  millDepth : Nat
  setTime : Nat
  twoUp : Bool
deriving DecidableEq, Repr

/-- A book record (R30, R58, R75, R87, R144, R147). -/
structure Book where
  serial : Word
  ticket : Nat
  job : Nat
  kind : BookKind
  format : FormatState
  entry : Option (Fin 16)
  mask : BitVec 16
  spoil : Option SpoilMark
  warnings : Warnings
  clamp : Option Nat
  glued : Bool
  covered : Bool
  nipped : Bool
  atLaunch : Option LaunchFormat
  conversions : Option Nat
  gauged : Option GaugeFormat
deriving DecidableEq, Repr

/-- The computed mark of R87: the GAUGE end has formed the book's values. -/
def Book.computed (b : Book) : Bool := b.gauged.isSome

/-- The content of a chain cell or a clamp (R57, R73). -/
inductive Slot where
  | empty
  | unknown
  | holding (b : Book)
deriving DecidableEq, Repr

/-! ### Phase unit and stations (chapter 1) -/

/-- The Phase unit (R1 to R11). -/
structure PhaseUnit where
  counter : Nat
  sinceIndex : Nat
  cycleCount : Word
  synced : Bool
  startTaken : List Window
  endTaken : List Window
  lastIndexAt : Nat
  lastCycle : Nat
  startMark : Bool
  comp : Nat
  jam : Bool
deriving DecidableEq, Repr

/-- Which stations are engaged (R12) and which of them serve the book at their position (R77, R78). -/
structure Stations where
  engaged : List Window
  serving : List Window
deriving DecidableEq, Repr

/-! ### Schedule unit (chapter 2) -/

/-- The stage of a held ticket (R20). -/
inductive HeldStage where
  | active | draining
deriving DecidableEq, Repr

/-- The stop mark (R20). -/
inductive StopMark where
  | noStop | cancelled | badJob
deriving DecidableEq, Repr

/-- An entry of the held-ticket table (R20). -/
structure HeldTicket where
  index : Nat
  job : Nat
  qty : Nat
  remakeLimit : Nat
  personal : Word
  mode : CoverMode
  stage : HeldStage
  launched : Nat
  made : Nat
  spoiled : Nat
  remade : Nat
  short : Nat
  lastDefect : Nat
  firstSerial : Word
  lastSerial : Word
  stop : StopMark
deriving DecidableEq, Repr

/-- The Schedule unit (chapter 2). -/
structure Schedule where
  held : List HeldTicket
  cursor : Nat
  remakes : List Nat
  nextSerial : Word
  hold : HoldReason
deriving DecidableEq, Repr

/-! ### Gathering and carousel (chapters 4 and 5) -/

/-- A pocket (chapter 4, section 4.2); `feed` is the serial of the book being fed, the clutch output being engaged
while it is present; `code` is the code taken, `none` for NOREAD. -/
structure Pocket where
  starved : Bool
  misses : Nat
  feed : Option Word
  code : Option Word
deriving DecidableEq, Repr

/-- The Gathering unit: cells by chain position, pockets 1 to 16 at index 0 to 15. -/
structure Gathering where
  cells : Vector Slot 18
  pockets : Vector Pocket 16
deriving DecidableEq, Repr

/-- The clamp standing at a carousel position (R73). -/
structure ClampPlace where
  number : Nat
  slot : Slot
deriving DecidableEq, Repr

/-- The two positions of reject gate 1 (chapter 5, section 5.4). -/
inductive Gate1 where
  | toReject | toConveyor
deriving DecidableEq, Repr

/-- The Carousel unit: clamps by carousel position. `lastDrop` is the model's own: where gate 1 stood when a clamp was
last opened. -/
structure Carousel where
  places : Vector ClampPlace 24
  gate1 : Gate1
  lastDrop : Option Gate1
deriving DecidableEq, Repr

/-! ### Format unit (chapter 6) -/

/-- What the converter is doing (R89). -/
inductive Converting where
  | idle | gauge | temp
deriving DecidableEq, Repr

/-- The converter (R89). `endsAt` is the time at which the conversion in progress ends. -/
structure Converter where
  doing : Converting
  outstanding : Nat
  tempWaiting : Bool
  kept : Bool
  endsAt : Nat
deriving DecidableEq, Repr

/-- A gauge sequence (R91). -/
structure GaugeSeq where
  m : Nat
  sum : Nat
deriving DecidableEq, Repr

/-- The Format unit; the gauge head is closed while a sequence is open. -/
structure FormatUnit where
  converter : Converter
  gauge : Option GaugeSeq
deriving DecidableEq, Repr

/-! ### Spine stations (chapter 7) -/

/-- A drive that is commanded to a target and reports the end of a motion (R104, R121, R130): `setting` is `none` for
UNKNOWN, the motion state is MOVING while `target` is present. -/
structure Drive (α : Type) where
  setting : Option α
  target : Option α
  next : Option α
deriving DecidableEq, Repr

/-- The miller (R104, R108, R109) with its pending changeover (R16). `wear` is the wear history, oldest first. -/
structure Miller where
  drive : Drive Nat
  integrating : Bool
  load : Nat
  wear : List Nat
  armed : Bool
  pending : Bool
deriving DecidableEq, Repr

/-- The glue pot (R110 to R114). `conversionAt` is the next expiry of the 100 ms timer, `periodStart` the start of the
heater period in progress. -/
structure GluePot where
  temp : Option Nat
  inBand : Bool
  computed : Nat
  applied : Nat
  overheat : Bool
  heaterOn : Bool
  conversionAt : Nat
  periodStart : Nat
deriving DecidableEq, Repr

/-- A glue valve's station (R115, R118); the phases are `none` when there is no point still to be taken. -/
structure Valve where
  openAt : Option Nat
  closeAt : Option Nat
  isOpen : Bool
  opened : Bool
  flow : Nat
  emptyLine : Bool
deriving DecidableEq, Repr

/-- The two glue stations. -/
structure GlueStations where
  spine : Valve
  side : Valve
deriving DecidableEq, Repr

/-- A cover drawn and standing in the cover station (R122). -/
structure FedCover where
  magazine : Magazine
  code : Option Word
  scored : Bool
deriving DecidableEq, Repr

/-- The cover station (R120 to R124), its pending changeover (R16), and the nip (R125). -/
structure CoverStation where
  emptyA : Bool
  emptyB : Bool
  scorer : Drive ScoreSet
  pending : Bool
  fed : Option FedCover
  nipClosed : Bool
deriving DecidableEq, Repr

/-! ### Delivery and trimmer (chapter 8) -/

/-- An entry of the cooling queue (R127). -/
structure QueueEntry where
  book : Book
  arrival : Nat
  eligible : Bool
deriving DecidableEq, Repr

/-- The trimmer's states (R131). -/
inductive TrimPhase where
  | idle | positioning | cutting | fault
deriving DecidableEq, Repr

/-- The trimmer's fault reasons (R131). -/
inductive TrimReason where
  | noFault | positioning | stroke
deriving DecidableEq, Repr

/-- The two positions of reject gate 2 (R142). -/
inductive Gate2 where
  | toReject | toTrimmer
deriving DecidableEq, Repr

/-- The infeed stop (R142): standing open, closed, or opened for the books of a take. -/
inductive InfeedStop where
  | standingOpen | closed | openFor (books : Nat)
deriving DecidableEq, Repr

/-- The two outfeeds (R138). -/
inductive Outfeed where
  | stacker | inspection
deriving DecidableEq, Repr

/-- The Delivery and trimmer unit (R127, R130, R131, R142). -/
structure Trimmer where
  queue : List QueueEntry
  phase : TrimPhase
  books : List Book
  target : Option KnifeSet
  limitAt : Option Nat
  cutAt : Option Nat
  reason : TrimReason
  knives : Drive KnifeSet
  gate2 : Gate2
  infeed : InfeedStop
  outfeed : Option Outfeed
deriving DecidableEq, Repr

/-! ### Line control (chapter 10) and backplane port (chapter 11) -/

/-- The main drive (R156, R158). -/
inductive MainDrive where
  | stopped | running | inching
deriving DecidableEq, Repr

/-- Line control (R155). `reference` is the speed reference given to the drive, in cycles per hour, while it runs (R156,
R169; 00, section 2). -/
structure LineControl where
  mode : LineMode
  causes : Causes
  haltStart : Option Nat
  runWhenReady : Bool
  stableAt : Option Nat
  idle : Nat
  restAt : Option Nat
  drive : MainDrive
  reference : Option Nat
deriving DecidableEq, Repr

/-- The backplane port (R172, R175, R177 to R179). `reading` is present while LOAD_CONFIG reads its record; its list
is the model's own: the words the host has written since the reading began. -/
structure Port where
  taken : Bool
  reading : Option (List (Nat × Word))
  counts : Vector Word 8
  attention : Bool
  snapSeq : Word
deriving DecidableEq, Repr

/-- The configuration in force and its source (R174). -/
structure Configuration where
  settings : Settings
  loaded : Bool
deriving DecidableEq, Repr

/-- The input pins whose levels a reset or the start key reads (00, section 2). -/
structure Pins where
  estop : Bool
  guardOpen : Bool
  emptyA : Bool
  emptyB : Bool
  startKey : Bool
deriving DecidableEq, Repr

end Sys2Proof.Machine
end

