-- ==== Sys2Proof/Machine/ResetValues.lean ====
section
/-!
DEFINITION. The value each block has right after a reset, and the header a reset writes (R180). A value the spec does
not give is named in the assumption log, entry 12.
-/

namespace Sys2Proof.Machine

/-- The compensation of R11: floor(lead × 4,096 / T), at most 1,024. -/
def compFor (lead t : Nat) : Nat :=
  if t = 0 then (if lead = 0 then 0 else 1024) else min 1024 (lead * 4096 / t)

/-- R1, R5, R6, R8, R10, R11. `now` is the time of the reset. -/
def PhaseUnit.atReset (now : Nat) : PhaseUnit where
  counter := 0
  sinceIndex := 65
  cycleCount := 0
  synced := false
  startTaken := []
  endTaken := []
  lastIndexAt := now
  lastCycle := 1200000
  startMark := true
  comp := compFor 3000 1200000
  jam := false

/-- R12. -/
def Stations.atReset : Stations := ⟨[], []⟩

/-- R20, R22, R23, R30, R33, R38. -/
def Schedule.atReset : Schedule where
  held := []
  cursor := 0
  remakes := []
  nextSerial := 1
  hold := .notRunning

/-- An EMPTY cache entry (R56). -/
def CacheEntry.emptyEntry : CacheEntry := ⟨.empty, none, none, 0, false, false⟩

/-- R56. -/
def JobCache.atReset : JobCache := ⟨Vector.replicate 16 CacheEntry.emptyEntry, Vector.replicate 64 none, none⟩

/-- R57, R60. -/
def Gathering.atReset : Gathering := ⟨Vector.replicate 18 .unknown, Vector.replicate 16 ⟨false, 0, none, none⟩⟩

/-- R73, R81: clamp n at position n, UNKNOWN on the working side. -/
def Carousel.atReset : Carousel where
  places := Vector.ofFn fun i : Fin 24 => ⟨i.val, if i.val ≤ 17 then .unknown else .empty⟩
  gate1 := .toReject
  lastDrop := none

/-- R89, R102. -/
def FormatUnit.atReset : FormatUnit := ⟨⟨.idle, 0, false, false, 0⟩, none⟩

/-- A drive after a reset: setting UNKNOWN, IDLE, no targets (R104, R121, R130). -/
def Drive.atReset {α : Type} : Drive α := ⟨none, none, none⟩

/-- R16, R104, R109. -/
def Miller.atReset : Miller where
  drive := Drive.atReset
  integrating := false
  load := 0
  wear := []
  armed := true
  pending := false

/-- R110, R111, R113, R114: the timers run from the reset. -/
def GluePot.atReset (now : Nat) : GluePot where
  temp := none
  inBand := false
  computed := 0
  applied := 0
  overheat := false
  heaterOn := false
  conversionAt := now + 100000
  periodStart := now

/-- A valve at rest (R115). -/
def Valve.atRest : Valve := ⟨none, none, false, false, 0, false⟩

/-- R115. -/
def GlueStations.atReset : GlueStations := ⟨Valve.atRest, Valve.atRest⟩

/-- R16, R120, R121, R125: the magazines as their sensors read. -/
def CoverStation.atReset (pins : Pins) : CoverStation where
  emptyA := pins.emptyA
  emptyB := pins.emptyB
  scorer := Drive.atReset
  pending := false
  fed := none
  nipClosed := false

/-- R127, R130, R131, R142. -/
def Trimmer.atReset : Trimmer where
  queue := []
  phase := .idle
  books := []
  target := none
  limitAt := none
  cutAt := none
  reason := .noFault
  knives := Drive.atReset
  gate2 := .toReject
  infeed := .standingOpen
  outfeed := none

/-- The halt causes after a reset: ESTOP and GUARD as their inputs read (R155). -/
def Causes.atReset (pins : Pins) : Causes := ⟨pins.estop, pins.guardOpen, false, false, false, false, false⟩

/-- R155. -/
def LineControl.atReset (pins : Pins) : LineControl where
  mode := .cold
  causes := Causes.atReset pins
  haltStart := none
  runWhenReady := false
  stableAt := none
  idle := 0
  restAt := none
  drive := .stopped
  reference := none

/-- R172, R177, R178, R179 (the snapshot written at the reset leaves its sequence word at 2). -/
def Port.atReset : Port where
  taken := false
  reading := none
  counts := Vector.replicate 8 0
  attention := false
  snapSeq := 2

/-- R174. -/
def Configuration.atReset : Configuration := ⟨Settings.defaults, false⟩

/-- The word of a set of flags, bit 0 first. -/
def flagWord (l : List Bool) : Word := l.foldr (fun b w => (w <<< 1) ||| (if b then 1 else 0)) 0

/-- The set of halt causes as a word (11, section 11.2): ESTOP bit 0 to HOST_HALT bit 6. -/
def Causes.word (c : Causes) : Word :=
  flagWord [c.estop, c.guardOpen, c.jam, c.trimmer, c.coverSequence, c.overheat, c.hostHalt]

/-! The header words of 11, section 11.2. -/
namespace Header
def partCode : Nat := 0x000
def revision : Nat := 0x004
def layoutVersion : Nat := 0x008
def source : Nat := 0x00C
def mode : Nat := 0x010
def causes : Nat := 0x014
def wakeEnables : Nat := 0x018
def scheduleNotice : Nat := 0x01C
def commandState : Nat := 0x020
def commandCode : Nat := 0x024
def arg1 : Nat := 0x028
def arg2 : Nat := 0x02C
def result : Nat := 0x030
def resultDetail : Nat := 0x034
def attentionEnables : Nat := 0x040
def count (c : Nat) : Nat := 0x044 + 4 * c
def seen (c : Nat) : Nat := 0x064 + 4 * c
def nextSerial : Nat := 0x090
def cursor : Nat := 0x094
def remakeLength : Nat := 0x098
def occupancy : Nat := 0x09C
def hold : Nat := 0x0A0
def snapSeq : Nat := 0x0C0
def cycleCount : Nat := 0x0C4
def lastCycle : Nat := 0x0C8
def inFlight : Nat := 0x0CC
def queue : Nat := 0x0D0
def trimmer : Nat := 0x0D4
def temperature : Nat := 0x0D8
def duty : Nat := 0x0DC
def starved : Nat := 0x0E0
def magazines : Nat := 0x0E4
def wear : Nat := 0x0E8
end Header

/-- The header as a reset writes it (R180). -/
def resetHeader (pins : Pins) : List (Nat × Word) :=
  [(Header.partCode, 24), (Header.revision, 1), (Header.layoutVersion, 1), (Header.source, 0), (Header.mode, 0),
   (Header.causes, (Causes.atReset pins).word), (Header.wakeEnables, 0), (Header.scheduleNotice, 0),
   (Header.commandState, 0), (Header.commandCode, 0), (Header.arg1, 0), (Header.arg2, 0), (Header.result, 0),
   (Header.resultDetail, 0), (Header.attentionEnables, 0)] ++
  (List.range 8).map (fun c => (Header.count c, 0)) ++
  (List.range 8).map (fun c => (Header.seen c, 0)) ++
  [(Header.nextSerial, 1), (Header.cursor, 0), (Header.remakeLength, 0), (Header.occupancy, 0), (Header.hold, 1),
   (Header.snapSeq, 1), (Header.cycleCount, 0), (Header.lastCycle, 1200000), (Header.inFlight, 0), (Header.queue, 0),
   (Header.trimmer, 0), (Header.temperature, 0xFFFFFFFF), (Header.duty, 0), (Header.starved, 0),
   (Header.magazines, flagWord [pins.emptyA, pins.emptyB]), (Header.wear, 0), (Header.snapSeq, 2)]

end Sys2Proof.Machine
end

