-- ==== Sys2Proof/Machine/State.lean ====
section
/-!
DEFINITION. The state of the card as plain data, the reasons a step can stop, and the state after a reset.
-/

namespace Sys2Proof.Machine

/-- Why a step stops. Both are raised only for an address that names no word of the shared memory, so no event of the
outside world meets one: safe. -/
inductive Fault where
  /-- raised by HOST_WORD_WRITE: the address lies outside the 64 KiB of R170; safe -/
  | noSuchAddress
  /-- raised by HOST_WORD_WRITE: the address is no word's, and both sides reach the memory in words (R170); safe -/
  | notAWord
deriving DecidableEq, Repr

/-- Why a command has no meaning. -/
inductive Refusal where
  /-- raised by `exec` for a row that has no meaning yet; safe. No row is. -/
  | notModelled (mnemonic : String)
deriving DecidableEq, Repr

/-- The state of the PB24 (INVENTORY.md, "State"). `now` is the time in µs (assumption log, entry 1), `pending` the
commands waiting, first in, first out. -/
structure State where
  now : Nat
  phase : PhaseUnit
  stations : Stations
  sched : Schedule
  cache : JobCache
  gathering : Gathering
  carousel : Carousel
  format : FormatUnit
  miller : Miller
  pot : GluePot
  glue : GlueStations
  cover : CoverStation
  trim : Trimmer
  line : LineControl
  port : Port
  config : Configuration
  pins : Pins
  mem : Memory
  pending : List Instr
deriving DecidableEq, Repr

/-- The card right after a reset at time `now` with the given input levels, shared memory and waiting commands: every
block at its reset value (chapters 1 to 11), the header written over the memory (R180). -/
def State.afterReset (now : Nat) (pins : Pins) (mem : Memory) (pending : List Instr) : State where
  now := now
  phase := PhaseUnit.atReset now
  stations := Stations.atReset
  sched := Schedule.atReset
  cache := JobCache.atReset
  gathering := Gathering.atReset
  carousel := Carousel.atReset
  format := FormatUnit.atReset
  miller := Miller.atReset
  pot := GluePot.atReset now
  glue := GlueStations.atReset
  cover := CoverStation.atReset pins
  trim := Trimmer.atReset
  line := LineControl.atReset pins
  port := Port.atReset
  config := Configuration.atReset
  pins := pins
  mem := mem.writeWords (resetHeader pins)
  pending := pending

/-- The machine after a power-on reset (R180) whose inputs read: no emergency stop, guard closed, magazines not empty,
start key released (assumption log, entry 11). -/
def State.reset : State := State.afterReset 0 ⟨false, false, false, false, false⟩ [] []

end Sys2Proof.Machine
end

