-- ==== Sys2Proof/Machine/Update.lean ====
section
/-!
DEFINITION. The named updates of the state, one for each block: every effect of the card is written with them.
-/

namespace Sys2Proof.Machine

/-- Time passes: `dt` µs (assumption log, entry 1). -/
def State.elapse (dt : Nat) (s : State) : State := { s with now := s.now + dt }

def State.updPhase (f : PhaseUnit → PhaseUnit) (s : State) : State := { s with phase := f s.phase }

def State.updStations (f : Stations → Stations) (s : State) : State := { s with stations := f s.stations }

def State.updSched (f : Schedule → Schedule) (s : State) : State := { s with sched := f s.sched }

def State.updCache (f : JobCache → JobCache) (s : State) : State := { s with cache := f s.cache }

def State.updGathering (f : Gathering → Gathering) (s : State) : State := { s with gathering := f s.gathering }

def State.updCarousel (f : Carousel → Carousel) (s : State) : State := { s with carousel := f s.carousel }

def State.updFormat (f : FormatUnit → FormatUnit) (s : State) : State := { s with format := f s.format }

def State.updMiller (f : Miller → Miller) (s : State) : State := { s with miller := f s.miller }

def State.updPot (f : GluePot → GluePot) (s : State) : State := { s with pot := f s.pot }

def State.updGlue (f : GlueStations → GlueStations) (s : State) : State := { s with glue := f s.glue }

def State.updCover (f : CoverStation → CoverStation) (s : State) : State := { s with cover := f s.cover }

def State.updTrim (f : Trimmer → Trimmer) (s : State) : State := { s with trim := f s.trim }

def State.updLine (f : LineControl → LineControl) (s : State) : State := { s with line := f s.line }

def State.updPort (f : Port → Port) (s : State) : State := { s with port := f s.port }

def State.updConfig (f : Configuration → Configuration) (s : State) : State := { s with config := f s.config }

def State.updPins (f : Pins → Pins) (s : State) : State := { s with pins := f s.pins }

def State.updMem (f : Memory → Memory) (s : State) : State := { s with mem := f s.mem }

end Sys2Proof.Machine
end

