-- ==== Sys2Proof/Machine/Operands.lean ====
section
/-!
DEFINITION. What the card reads out of words: job records, stock entries, the configuration record and tickets
(layouts of chapter 11), and the reading of many words over time (R46, R175).
-/

namespace Sys2Proof.Machine

/-! ### Words read over time -/

/-- The word an address held before the latest `n` host writes: `log` lists the host's writes, newest first, each with
what the word held before it. -/
def wordBefore (m : Memory) (log : List (Nat × Word)) (n a : Nat) : Word :=
  match ((log.take n).filter fun p => p.1 = a).getLast? with
  | some p => p.2
  | none => m.readWord a

/-- Words read one after the other (assumption log, entry 8): each is read some number of host writes ago, a later one
never longer ago than an earlier one. `bound` is how long ago the first may be read. Answers the words, with the lags
not used and the bound for what is read next. -/
def readOverTime (m : Memory) (log : List (Nat × Word)) : List Nat → List Nat → Nat → List Word × List Nat × Nat
  | [], lags, bound => ([], lags, bound)
  | a :: rest, lags, bound =>
    let n := min bound (lags.headD 0)
    let r := readOverTime m log rest lags.tail n
    (wordBefore m log n a :: r.1, r.2)

/-- The log of host writes grows by one, for a word that one of the two readings can reach (R170: configuration
record, stock table, job table). -/
def logWrite (m : Memory) (a : Nat) (log : List (Nat × Word)) : List (Nat × Word) :=
  if 0x0200 ≤ a ∧ a < 0x4800 then (a, m.readWord a) :: log else log

/-! ### Job records and stock entries -/

/-- Word `i` of a record read, 0 beyond its end. -/
def nthWord (ws : List Word) (i : Nat) : Word := ws.getD i 0

/-- The number a word holds. -/
def nthNat (ws : List Word) (i : Nat) : Nat := (nthWord ws i).toNat

/-- A signature entry from its two words (11, section 11.2). -/
def SigEntry.ofWords (w0 w1 : Word) : SigEntry where
  pocket := (wordByte w0 0).toNat
  leaves := (wordByte w0 1).toNat
  stock := (wordByte w0 2).toNat
  uncoded := w0.getLsbD 24
  code := w1

/-- The low half of a word. -/
def lowHalf (w : Word) : Nat := (w.extractLsb' 0 16).toNat

/-- The upper half of a word. -/
def highHalf (w : Word) : Nat := (w.extractLsb' 16 16).toNat

/-- A job record from its 64 words (11, section 11.2). -/
def JobRecord.ofWords (ws : List Word) : JobRecord where
  defined := nthWord ws 0 ≠ 0
  editCount := nthWord ws 1
  titleCode := lowHalf (nthWord ws 2)
  sigCount := nthNat ws 3
  sigs := (List.range 16).map fun e => SigEntry.ofWords (nthWord ws (4 + 2 * e)) (nthWord ws (5 + 2 * e))
  coverMode := nthNat ws 36
  magazine := nthNat ws 37
  coverTitle := lowHalf (nthWord ws 38)
  coverWidth := nthNat ws 39
  allowance := nthNat ws 40
  designSpine := nthNat ws 41
  driftLimit := nthNat ws 42
  hinge := nthNat ws 43
  height := nthNat ws 44
  width := nthNat ws 45
  millDepth := nthNat ws 46
  finalHeight := nthNat ws 47
  finalWidth := nthNat ws 48
  headTrim := nthNat ws 49
  tolerance := nthNat ws 50
  glueMargin := nthNat ws 51
  flowFactor := nthNat ws 52
  setTime := nthNat ws 53
  twoUp := nthWord ws 54 ≠ 0
  tolerateNoread := nthWord ws 55 ≠ 0

/-- The signature entries 1 to n (R42: those beyond the signature count are not read). -/
def JobRecord.entries (r : JobRecord) : List SigEntry := r.sigs.take r.sigCount

/-- The cover mode a record's field reads as, 0 NONE, 1 TITLE, 2 PERSONAL (R42). -/
def JobRecord.mode (r : JobRecord) : CoverMode :=
  if r.coverMode = 1 then .title else if r.coverMode = 2 then .personal else .noCover

/-- The magazine a record's field reads as, 0 A and 1 B (R42). A job of cover mode NONE may hold another value there, which
is not validated; R88 copies the magazine all the same and does not say which it is, so it is a FREE VALUE (the model's
choice: assumption log, entry 43). -/
def JobRecord.mag (r : JobRecord) : Magazine :=
  if r.magazine = 0 then .a
  else if r.magazine = 1 then .b
  else if Config.strayMagazine r.magazine then .b else .a

/-- The caliper of a stock copy: as read when it is within 40 to 400 µm (R43). Of a value outside that range the spec
says only that the entry reads as not defined: the copy then holds a FREE VALUE of at most 400, the bound on T_exp that
R103 gives (the model's choice: assumption log, entry 37). -/
def copiedCaliper (n : Nat) : Nat := if 40 ≤ n ∧ n ≤ 400 then n else min 400 (Config.strayCaliper n)

/-- The compression of a stock copy: as read when it is within 850 to 1,000 ‰ (R43), else a FREE VALUE of at most
1,000 (the model's choice: assumption log, entry 37). -/
def copiedCompression (n : Nat) : Nat := if 850 ≤ n ∧ n ≤ 1000 then n else min 1000 (Config.strayCompression n)

/-- A stock entry as read: defined when its mark is set and its values are within range (R43). Which caliper and
compression the copy of an entry out of range holds is the model's choice (assumption log, entry 37). -/
def StockCopy.ofWords (mark caliper compression : Word) : StockCopy where
  defined := decide (mark ≠ 0) && decide (40 ≤ caliper.toNat) && decide (caliper.toNat ≤ 400) &&
    decide (850 ≤ compression.toNat) && decide (compression.toNat ≤ 1000)
  caliper := copiedCaliper caliper.toNat
  compression := copiedCompression compression.toNat

/-- The address of a job record (R170). -/
def jobBase (j : Nat) : Nat := 0x0800 + 256 * j

/-- The address of a stock entry (R170). -/
def stockBase (c : Nat) : Nat := 0x0400 + 16 * c

/-- A list without its repeats. -/
def distinct : List Nat → List Nat
  | [] => []
  | x :: xs => x :: (distinct xs).filter (fun y => decide (y ≠ x))

/-- The stock codes an attempt reads: the distinct ones of entries 1 to n, none above 63, and none when the signature
count is outside 1 to 16 (R46). -/
def stockCodesRead (r : JobRecord) : List Nat :=
  if 1 ≤ r.sigCount ∧ r.sigCount ≤ 16 then distinct ((r.entries.map (·.stock)).filter (fun c => decide (c ≤ 63))) else []

/-- The stock copies in the words read for a list of stock codes, three words each. -/
def stockCopies : List Nat → List Word → List (Nat × StockCopy)
  | [], _ => []
  | c :: cs, ws => (c, StockCopy.ofWords (nthWord ws 0) (nthWord ws 1) (nthWord ws 2)) :: stockCopies cs (ws.drop 3)

/-- What one attempt of a fetch has read (R46). -/
structure AttemptReads where
  firstCount : Word
  record : JobRecord
  stock : List (Nat × StockCopy)
  secondCount : Word
deriving DecidableEq, Repr

/-- The reads of an attempt in the order of R46: the edit count, the words of the record, the stock entries, the edit
count again. -/
def attemptReads (m : Memory) (log : List (Nat × Word)) (job : Nat) (lags : List Nat) : AttemptReads :=
  let count := jobBase job + 4
  let r1 := readOverTime m log [count] lags log.length
  let r2 := readOverTime m log ((List.range 64).map fun i => jobBase job + 4 * i) r1.2.1 r1.2.2
  let record := JobRecord.ofWords r2.1
  let codes := stockCodesRead record
  let r3 := readOverTime m log (codes.flatMap fun c => [stockBase c, stockBase c + 4, stockBase c + 8]) r2.2.1 r2.2.2
  let r4 := readOverTime m log [count] r3.2.1 r3.2.2
  ⟨nthWord r1.1 0, record, stockCopies codes r3.1, nthWord r4.1 0⟩

/-! ### The configuration record -/

/-- A window field: start value in the lower half, end value in the upper half (R176). -/
def spanOfWord (w : Word) : Span := ⟨lowHalf w, highHalf w⟩

/-- The conditions of R8 on a window. -/
def spanValid (w : Span) : Bool :=
  decide (1 ≤ w.first) && decide (w.last ≤ 4095) && decide (w.first < w.last) && decide (w.first + 64 ≤ w.last)

/-- The settings in the 35 words of a configuration record (R176). -/
def settingsOfWords (ws : List Word) : Settings where
  pitch := nthNat ws 1
  speed := nthNat ws 2
  startCycle := nthNat ws 3
  wLaunch := spanOfWord (nthWord ws 4)
  wPocket := spanOfWord (nthWord ws 5)
  wLoad := spanOfWord (nthWord ws 6)
  wGauge := spanOfWord (nthWord ws 7)
  wMill := spanOfWord (nthWord ws 8)
  wSpineGlue := spanOfWord (nthWord ws 9)
  wSideGlue := spanOfWord (nthWord ws 10)
  wCover := spanOfWord (nthWord ws 11)
  wNip := spanOfWord (nthWord ws 12)
  wDeliver := spanOfWord (nthWord ws 13)
  leadSpine := nthNat ws 14
  leadSide := nthNat ws 15
  valveLead := nthNat ws 16
  gaugeZero := nthNat ws 17
  gaugeSpan := nthNat ws 18
  workingSet := nthNat ws 19
  band := nthNat ws 20
  setbackSet := nthNat ws 21
  gain := nthNat ws 22
  stableTime := nthNat ws 23
  idleLimit := nthNat ws 24
  setbackDelay := nthNat ws 25
  coldDelay := nthNat ws 26
  openTime := nthNat ws 27
  highMark := nthNat ws 28
  twoUp := decide (nthNat ws 29 = 1)
  stackLimit := nthNat ws 30
  cutTime := nthNat ws 31
  missLimit := nthNat ws 32
  millCal := nthNat ws 33
  wearLimit := nthNat ws 34

/-- Whether field `i` of a configuration record passes (R176). -/
def configFieldOk (ws : List Word) (i : Nat) : Bool :=
  let v := nthNat ws i
  let between (lo hi : Nat) : Bool := decide (lo ≤ v) && decide (v ≤ hi)
  if i = 0 then decide (v = 1)
  else if i = 1 then between 300000 700000
  else if i = 2 then between 1000 6000
  else if i = 3 then between 100000 10000000
  else if i ≤ 13 then spanValid (spanOfWord (nthWord ws i))
  else if i ≤ 15 then between 0 4095
  else if i = 16 then between 0 20000
  else if i = 17 then between 0 63
  else if i = 18 then between 8000 128000
  else if i = 19 then between 1000 2200
  else if i = 20 then between 20 300
  else if i = 21 then between 500 2200 && decide (v ≤ nthNat ws 19)
  else if i = 22 then between 1 255
  else if i = 23 then between 0 600
  else if i = 24 then between 0 10000
  else if i ≤ 26 then between 0 86400
  else if i = 27 then between 1000 600000
  else if i = 28 then between 1 12
  else if i = 29 then between 0 1
  else if i = 30 then between 20000 120000
  else if i = 31 then between 200 2000
  else if i = 32 then between 1 15
  else if i = 33 then between 1000 200000
  else between 1000 10000

/-- The index of the first field that fails, in index order (R176). -/
def firstBadField (ws : List Word) : Option Nat := (List.range 35).find? fun i => !configFieldOk ws i

/-- The 35 words of the configuration record as LOAD_CONFIG reads them (R175). -/
def configReads (m : Memory) (log : List (Nat × Word)) (lags : List Nat) : List Word :=
  (readOverTime m log ((List.range 35).map fun i => 0x0200 + 4 * i) lags log.length).1

/-! ### Tickets -/

/-- The address of a ticket (R170). -/
def ticketBase (i : Nat) : Nat := 0x4800 + 64 * i

/-- The fields of a ticket (11, section 11.2). -/
inductive TicketField where
  | stage | request | job | qty | remakeLimit | personal | launched | made | spoiled | remade | short | lastDefect
  | endReason | firstSerial | lastSerial | finish
deriving DecidableEq, Repr

/-- The offset of a ticket's field. -/
def TicketField.offset : TicketField → Nat
  | .stage => 0x00
  | .request => 0x04
  | .job => 0x08
  | .qty => 0x0C
  | .remakeLimit => 0x10
  | .personal => 0x14
  | .launched => 0x18
  | .made => 0x1C
  | .spoiled => 0x20
  | .remade => 0x24
  | .short => 0x28
  | .lastDefect => 0x2C
  | .endReason => 0x30
  | .firstSerial => 0x34
  | .lastSerial => 0x38
  | .finish => 0x3C

/-- The address of a ticket's field. -/
def ticketAddr (i : Nat) (f : TicketField) : Nat := ticketBase i + f.offset

/-- A field of a ticket as it stands in the shared memory. -/
def Memory.ticket (m : Memory) (i : Nat) (f : TicketField) : Word := m.readWord (ticketAddr i f)

/-- The stages of a ticket (chapter 2, section 2.1). -/
inductive Stage where
  | free | posted | active | draining | done | failed
deriving DecidableEq, Repr

/-- A stage word: 0 to 5 as the table gives, any other value FREE (R18). -/
def Stage.ofWord (w : Word) : Stage :=
  if w = 1 then .posted else if w = 2 then .active else if w = 3 then .draining else if w = 4 then .done
  else if w = 5 then .failed else .free

/-- The word of a stage. -/
def Stage.word : Stage → Word
  | .free => 0
  | .posted => 1
  | .active => 2
  | .draining => 3
  | .done => 4
  | .failed => 5

/-- Whether a ticket's request field reads CANCEL (R18: any value but 1 is NONE). -/
def Memory.cancelled (m : Memory) (i : Nat) : Bool := decide (m.ticket i .request = 1)

end Sys2Proof.Machine
end

