-- ==== Sys2Proof/Machine/Flags.lean ====
section
/-!
DEFINITION. Numbers and sets as words, the attention line and its counts (R177, R178), the line snapshot (R179).
-/

namespace Sys2Proof.Machine

/-! ### Numbers of the names -/

/-- The value of a line mode (chapter 10, section 10.1). -/
def LineMode.number : LineMode → Nat
  | .cold => 0
  | .warming => 1
  | .ready => 2
  | .running => 3
  | .emptying => 4
  | .setback => 5
  | .halted => 6

/-- The acting modes (R12). -/
def LineMode.acting : LineMode → Bool
  | .running => true
  | .emptying => true
  | _ => false

/-- The modes a halt cause takes to HALTED (R161). -/
def LineMode.halts : LineMode → Bool
  | .running => true
  | .emptying => true
  | .ready => true
  | .warming => true
  | _ => false

/-- The value of a hold reason (chapter 2, section 2.3). -/
def HoldReason.number : HoldReason → Nat
  | .launched => 0
  | .notRunning => 1
  | .noRoom => 2
  | .noWork => 3
  | .cacheMiss => 4
  | .cacheLocked => 5
  | .pocketStarved => 6
  | .magazineEmpty => 7
  | .glueTemp => 8
  | .cellUnknown => 9

/-- The value of a spoil code (R145). -/
def SpoilCode.number : SpoilCode → Nat
  | .sigMissing => 1
  | .sigDouble => 2
  | .sigWrong => 3
  | .sigNoread => 4
  | .unformatted => 5
  | .thickMismatch => 6
  | .gaugeFail => 7
  | .millLate => 8
  | .glueTemp => 9
  | .glueStarved => 10
  | .coverMissing => 11
  | .coverMismatch => 12
  | .coverNoread => 13
  | .coverShort => 14
  | .scoreLate => 15
  | .haltSpoil => 16
  | .inched => 17
  | .removed => 18
  | .queueFull => 19
  | .trimAbort => 20

/-- Every spoil code but COVER_SHORT is remakeable (R145). -/
def SpoilCode.remakeable : SpoilCode → Bool
  | .coverShort => false
  | _ => true

/-- The value of an end reason (chapter 9, section 9.3). -/
def EndReason.number : EndReason → Nat
  | .noReason => 0
  | .cancelled => 64
  | .short => 65
  | .badJob => 66
  | .badQty => 67
  | .reset => 68

/-- The number of a trimmer state (R131). -/
def TrimPhase.number : TrimPhase → Nat
  | .idle => 0
  | .positioning => 1
  | .cutting => 2
  | .fault => 3

/-- The number of a magazine (R122). -/
def magazineNumber : Magazine → Nat
  | .a => 0
  | .b => 1

/-- A number as a 32-bit word. What 32 bits cannot hold is a free value (R103 says none arises; assumption log,
entry 14). -/
def word32 (n : Nat) : Word := if n < 2 ^ 32 then BitVec.ofNat 32 n else Config.cutShort n

/-! ### Halt causes -/

/-- Whether a cause is present. -/
def Causes.has (c : Causes) : Cause → Bool
  | .estop => c.estop
  | .guardOpen => c.guardOpen
  | .jam => c.jam
  | .trimmer => c.trimmer
  | .coverSequence => c.coverSequence
  | .overheat => c.overheat
  | .hostHalt => c.hostHalt

/-- The set with one cause added or removed. -/
def Causes.put (c : Causes) (b : Bool) : Cause → Causes
  | .estop => { c with estop := b }
  | .guardOpen => { c with guardOpen := b }
  | .jam => { c with jam := b }
  | .trimmer => { c with trimmer := b }
  | .coverSequence => { c with coverSequence := b }
  | .overheat => { c with overheat := b }
  | .hostHalt => { c with hostHalt := b }

/-- Whether any cause is present. -/
def Causes.any (c : Causes) : Bool :=
  c.estop || c.guardOpen || c.jam || c.trimmer || c.coverSequence || c.overheat || c.hostHalt

/-- The causes that refuse a RESUME (R164). -/
def Causes.blocking (c : Causes) : Bool := c.estop || c.guardOpen || c.jam || c.trimmer || c.overheat

/-- The trimmer is guarded while ESTOP or GUARD is present (R131). -/
def Causes.guarded (c : Causes) : Bool := c.estop || c.guardOpen

/-! ### Shared memory words -/

/-- A word of the shared memory. -/
def State.word (s : State) (a : Nat) : Word := s.mem.readWord a

/-- The part writes a word of the shared memory. -/
def State.putWord (a : Nat) (w : Word) (s : State) : State := s.updMem fun m => m.writeWord a w

/-- The part writes a number to a word of the shared memory. -/
def State.putNat (a n : Nat) (s : State) : State := s.putWord a (BitVec.ofNat 32 n)

/-- The part writes words in the order of a list. -/
def State.putWords (l : List (Nat × Word)) (s : State) : State := l.foldl (fun s p => s.putWord p.1 p.2) s

/-! ### Attention (R177, R178) -/

/-- The attention causes (R177). -/
inductive Attention where
  | commandDone | ticketFinished | defectLogged | modeChanged | halted | pocketStarved | magazineEmpty | wear
deriving DecidableEq, Repr

/-- The number of an attention cause. -/
def Attention.number : Attention → Fin 8
  | .commandDone => 0
  | .ticketFinished => 1
  | .defectLogged => 2
  | .modeChanged => 3
  | .halted => 4
  | .pocketStarved => 5
  | .magazineEmpty => 6
  | .wear => 7

/-- Some cause whose enable is set has a count different from its seen count (R178); the counts are the port's, the
enables and the seen counts stand in the header (R177). -/
def attentionNews (counts : Vector Word 8) (m : Memory) : Bool :=
  (List.finRange 8).any fun c =>
    (m.readWord Header.attentionEnables).getLsbD c && decide (counts[c] ≠ m.readWord (Header.seen c))

/-- The attention line is judged afresh (R178). -/
def State.judgeAttention (s : State) : State :=
  s.updPort fun p => { p with attention := attentionNews p.counts s.mem }

/-- One notice of a cause: its count is raised and written to the header, and the line is judged (R177, R178). -/
def State.notify (c : Attention) (s : State) : State :=
  let count := s.port.counts[c.number] + 1
  ((s.updPort fun p => { p with counts := p.counts.set c.number count }).putWord (Header.count c.number) count).judgeAttention

/-! ### Counting records -/

/-- Whether a place holds a book record. -/
def Slot.isHolding : Slot → Bool
  | .holding _ => true
  | _ => false

/-- Whether a place is UNKNOWN. -/
def Slot.isUnknown : Slot → Bool
  | .unknown => true
  | _ => false

/-- The chain cells and clamps, as a list of contents. -/
def State.slots (s : State) : List Slot := s.gathering.cells.toList ++ s.carousel.places.toList.map (·.slot)

/-- The book records held in chain cells, clamps, the cooling queue and the trimmer (R160, R179). -/
def State.inFlight (s : State) : Nat :=
  (s.slots.filter Slot.isHolding).length + s.trim.queue.length + s.trim.books.length

/-- Whether a chain cell or a clamp is UNKNOWN (R166, R175). -/
def State.anyUnknown (s : State) : Bool := s.slots.any Slot.isUnknown

/-! ### The snapshot (R179) -/

/-- The set of STARVED pockets as a word, pocket k at bit k − 1 (11, section 11.2). -/
def starvedWord (p : Vector Pocket 16) : Word := flagWord (p.toList.map (·.starved))

/-- The wear index: the floor mean of the history, 0 while it is empty (R109). -/
def wearIndex (l : List Nat) : Nat := if l = [] then 0 else l.sum / l.length

/-- The snapshot words (R179). -/
def State.snapshotWords (s : State) : List (Nat × Word) :=
  [(Header.cycleCount, s.phase.cycleCount), (Header.lastCycle, BitVec.ofNat 32 s.phase.lastCycle),
   (Header.inFlight, BitVec.ofNat 32 s.inFlight), (Header.queue, BitVec.ofNat 32 s.trim.queue.length),
   (Header.trimmer, BitVec.ofNat 32 s.trim.phase.number),
   (Header.temperature, match s.pot.temp with | some t => BitVec.ofNat 32 t | none => 0xFFFFFFFF),
   (Header.duty, BitVec.ofNat 32 s.pot.applied), (Header.starved, starvedWord s.gathering.pockets),
   (Header.magazines, flagWord [s.cover.emptyA, s.cover.emptyB]),
   (Header.wear, BitVec.ofNat 32 (wearIndex s.miller.wear))]

/-- The snapshot is written between two raises of its sequence word (R179). -/
def State.snapshot (s : State) : State :=
  let odd := s.port.snapSeq + 1
  let s1 := (s.putWord Header.snapSeq odd).putWords s.snapshotWords
  (s1.putWord Header.snapSeq (odd + 1)).updPort fun p => { p with snapSeq := odd + 1 }

end Sys2Proof.Machine
end

