-- ==== Sys2Proof/Machine/Ops.lean ====
section
/-!
DEFINITION. The shared operations on book records, chain cells, clamps, cache entries and drives.
-/

namespace Sys2Proof.Machine

/-! ### Marks on a book (chapter 9) -/

/-- A position on the gathering chain as a detection point (R144). -/
def chainPoint (p : Nat) : DetectionPoint := ⟨false, p⟩

/-- A position on the carousel as a detection point (R144). -/
def carouselPoint (p : Nat) : DetectionPoint := ⟨true, p⟩

/-- A spoil code is recorded on a book; a book keeps its first (R144). -/
def Book.spoilWith (code : SpoilCode) (point : DetectionPoint) (detail : Word) (noRead : Bool) (b : Book) : Book :=
  match b.spoil with
  | some _ => b
  | none => { b with spoil := some ⟨code, point, detail, noRead⟩ }

/-- A detail that is a code read, or the no-read mark with detail 0 (R145). -/
def Book.spoilWithCode (code : SpoilCode) (point : DetectionPoint) (read : Option Word) (b : Book) : Book :=
  b.spoilWith code point (read.getD 0) read.isNone

/-- A book is marked INCHED; its detail is the received mask at the posting (R145). That the mark's detail part holds 0 until
then is the model's choice (assumption log, entry 44). -/
def Book.inched (point : DetectionPoint) (b : Book) : Book := b.spoilWith .inched point 0 false

/-- Whether a book carries no spoil code. -/
def Book.good (b : Book) : Bool := b.spoil.isNone

/-- Whether a book carries a warning (R147). -/
def Book.warned (b : Book) : Bool := b.warnings.glueHeavy || b.warnings.glueClipped || b.warnings.spineDrift

/-- The cover mode a book carries from its launch (R88). -/
def Book.mode (b : Book) : CoverMode :=
  match b.atLaunch with
  | some l => l.mode
  | none => .noCover

/-! ### Cells and clamps -/

/-- The book of a place is changed. -/
def Slot.mapBook (f : Book → Book) : Slot → Slot
  | .holding b => .holding (f b)
  | x => x

/-- The chain cell at a position. -/
def State.cell (s : State) (p : Fin 18) : Slot := s.gathering.cells[p]

/-- The chain cell at a position takes a content. -/
def State.setCell (p : Fin 18) (x : Slot) (s : State) : State :=
  s.updGathering fun g => { g with cells := g.cells.set p x }

/-- The book at a chain position is changed. -/
def State.modCell (p : Fin 18) (f : Book → Book) (s : State) : State := s.setCell p ((s.cell p).mapBook f)

/-- The content of the clamp at a carousel position. -/
def State.clampAt (s : State) (p : Fin 24) : Slot := s.carousel.places[p].slot

/-- The clamp at a carousel position takes a content. -/
def State.setClamp (p : Fin 24) (x : Slot) (s : State) : State :=
  s.updCarousel fun c => { c with places := c.places.set p { c.places[p] with slot := x } }

/-- The book at a carousel position is changed. -/
def State.modClamp (p : Fin 24) (f : Book → Book) (s : State) : State := s.setClamp p ((s.clampAt p).mapBook f)

/-- Every cell and clamp content is changed, each with its detection point. -/
def State.mapSlots (f : DetectionPoint → Book → Book) (s : State) : State :=
  (s.updGathering fun g =>
      { g with cells := Vector.ofFn fun p : Fin 18 => g.cells[p].mapBook (f (chainPoint p)) }).updCarousel fun c =>
    { c with places := Vector.ofFn fun p : Fin 24 =>
        { c.places[p] with slot := c.places[p].slot.mapBook (f (carouselPoint p)) } }

/-! ### Cache entries (chapter 3) -/

/-- The number of entries whose state is not EMPTY (R44). -/
def JobCache.occupancy (c : JobCache) : Nat := (c.entries.toList.filter fun e => decide (e.state ≠ .empty)).length

/-- A change of the cache, the occupancy being written to the header when it changes (R44). -/
def State.changeCache (f : JobCache → JobCache) (s : State) : State :=
  let s1 := s.updCache f
  if s1.cache.occupancy = s.cache.occupancy then s1 else s1.putNat Header.occupancy s1.cache.occupancy

/-- One entry takes a new content. -/
def State.setEntry (e : Fin 16) (x : CacheEntry) (s : State) : State :=
  s.changeCache fun c => { c with entries := c.entries.set e x }

/-- One lock is lowered; a stale entry whose last lock goes becomes EMPTY (R51, R55). -/
def State.dropLock (e : Fin 16) (s : State) : State :=
  let x := s.cache.entries[e]
  s.setEntry e (if x.stale = true ∧ x.locks - 1 = 0 then CacheEntry.emptyEntry else { x with locks := x.locks - 1 })

/-- The lock a book holds, if any, is lowered (R51). -/
def State.freeLock (b : Book) (s : State) : State :=
  match b.entry with
  | some e => s.dropLock e
  | none => s

/-- The lock of the book at a chain position is released (R51). -/
def State.releaseCell (p : Fin 18) (s : State) : State :=
  match s.cell p with
  | .holding b => (s.modCell p fun b => { b with entry := none }).freeLock b
  | _ => s

/-- The lock of the book at a carousel position is released (R51). -/
def State.releaseClamp (p : Fin 24) (s : State) : State :=
  match s.clampAt p with
  | .holding b => (s.modClamp p fun b => { b with entry := none }).freeLock b
  | _ => s

/-- The entry a lookup for job `j` finds: FILLED, not stale, holding the job (R44). -/
def JobCache.lookup (c : JobCache) (j : Nat) : Option (Fin 16) :=
  (List.finRange 16).find? fun e =>
    decide (c.entries[e].state = .filled) && !c.entries[e].stale && decide (c.entries[e].job = some j)

/-- Every entry carries a lock (R26). -/
def JobCache.allLocked (c : JobCache) : Bool := c.entries.toList.all fun e => decide (e.locks ≠ 0)

/-- The stock place of a code, absent beyond the table (R43). -/
def JobCache.stockPlace (c : JobCache) (code : Nat) : Option StockCopy :=
  match c.stock[code]? with
  | some x => x
  | none => none

/-! ### Drives (R105, R106, R121, R130) -/

/-- A changeover gives a drive a target (R105): the next target while it moves, no motion when it stands there. -/
def Drive.command {α : Type} [DecidableEq α] (d : Drive α) (t : α) : Drive α :=
  match d.target with
  | some _ => { d with next := some t }
  | none => if d.setting = some t then d else { d with target := some t }

/-- A motion-complete report (R106, R121, R130); ignored while IDLE. That the knife drive, as the miller and the scorer, has
no motion target once it is IDLE is the model's reading (assumption log, entry 41). -/
def Drive.report {α : Type} [DecidableEq α] (d : Drive α) : Drive α :=
  match d.target with
  | none => d
  | some t =>
    match d.next with
    | none => ⟨some t, none, none⟩
    | some n => if n = t then ⟨some t, none, none⟩ else ⟨some t, some n, none⟩

/-- IDLE with the setting at a target. -/
def Drive.standsAt {α : Type} [DecidableEq α] (d : Drive α) (t : α) : Bool :=
  d.target.isNone && decide (d.setting = some t)

end Sys2Proof.Machine
end

