-- ==== Sys2Proof/Machine/Format.lean ====
section
/-!
DEFINITION. Format computation (chapter 6), and the checks on a job record (R28, sub-codes 2 to 11).
-/

namespace Sys2Proof.Machine

/-! ### Rounding (00, section 5.2) -/

/-- Round to an even grid; halfway goes to the greater multiple. -/
def roundGrid (g x : Nat) : Nat := (x + g / 2) / g * g

/-- The least integer not below x / d. -/
def ceilDiv (x d : Nat) : Nat := (x + d - 1) / d

/-- Clamp to a window (R98). -/
def clipTo (w : Span) (x : Nat) : Nat := max w.first (min x w.last)

/-! ### At launch (R88) -/

/-- leaves × caliper × compression of one signature. Over an absent stock place, which R43 excludes, it is a FREE VALUE
within the bound of R103 (assumption log, entry 13); what a place holds whose entry was out of range is entry 37. -/
def sigTerm (stock : Nat → Option StockCopy) (e : SigEntry) : Nat :=
  match stock e.stock with
  | some c => e.leaves * c.caliper * c.compression
  | none => min (e.leaves * 400000) (Config.absentStock e.leaves e.stock)

/-- The expected thickness: the sum over the job's signatures, then one division (R88). -/
def expectedThickness (r : JobRecord) (stock : Nat → Option StockCopy) : Nat :=
  (r.entries.map (sigTerm stock)).sum / 1000

/-- The values formed at launch (R88); the magazine of a job of cover mode NONE may be a free value (assumption log, entry
43). -/
def launchFormat (r : JobRecord) (personal : Word) (stock : Nat → Option StockCopy) : LaunchFormat where
  mode := r.mode
  magazine := r.mag
  coverTitle := r.coverTitle
  personal := personal
  tExp := expectedThickness r stock

/-! ### Job checks (R28) -/

/-- A value within a range. -/
def within (lo hi x : Nat) : Bool := decide (lo ≤ x) && decide (x ≤ hi)

/-- A signed trim within 2,000 to 20,000 µm. -/
def trimOk (x : Int) : Bool := decide (2000 ≤ x) && decide (x ≤ 20000)

/-- Pockets strictly ascending above a lowest one, none above 16. -/
def ascending : Nat → List Nat → Bool
  | _, [] => true
  | lo, p :: ps => decide (lo < p) && decide (p ≤ 16) && ascending p ps

/-- A stock code that names a defined stock entry (R28 check 6). -/
def stockOk (stock : Nat → Option StockCopy) (c : Nat) : Bool :=
  decide (c ≤ 63) &&
    match stock c with
    | some x => x.defined
    | none => false

/-- Whether a record has a cover, TITLE or PERSONAL. -/
def JobRecord.hasCover (r : JobRecord) : Bool := decide (r.coverMode = 1) || decide (r.coverMode = 2)

/-- The BAD_JOB checks 2 to 11 of R28 on a record with its stock entries, in order. -/
def jobChecks (r : JobRecord) (stock : Nat → Option StockCopy) : List (Nat × Bool) :=
  [(2, r.defined),
   (3, within 1 16 r.sigCount),
   (4, ascending 0 (r.entries.map (·.pocket))),
   (5, r.entries.all fun e => within 1 64 e.leaves),
   (6, r.entries.all fun e => stockOk stock e.stock),
   (7, decide (r.coverMode ≤ 2) && (!r.hasCover || decide (r.magazine ≤ 1))),
   (8, (!r.hasCover || (within 150000 700000 r.coverWidth && within 0 2000 r.allowance && within 2000 70000 r.designSpine &&
      within 0 5000 r.driftLimit && within 0 12000 r.hinge && decide (r.hinge % 50 = 0))) &&
      within 100000 380000 r.height && within 80000 300000 r.width && within 0 4000 r.millDepth &&
      within 0 20000 r.glueMargin),
   (9, within 5 100 r.tolerance && within 0 255 r.flowFactor && within 0 60000 r.setTime),
   (10, trimOk ((r.width : Int) - r.millDepth - r.finalWidth) && trimOk r.headTrim &&
      trimOk ((r.height : Int) - r.finalHeight - r.headTrim)),
   (11, within 3000 60000 (expectedThickness r stock))]

/-- The sub-code of the first job check that fails (R28). -/
def badJob (r : JobRecord) (stock : Nat → Option StockCopy) : Option Nat :=
  ((jobChecks r stock).find? fun c => !c.2).map (·.1)

/-- The sub-code of the first quantity check that fails (R28). -/
def badQty (mode : CoverMode) (qty remakeLimit : Nat) : Option Nat :=
  if !within 1 9999 qty then some 1
  else if mode = .personal ∧ qty ≠ 1 then some 2
  else if 15 < remakeLimit then some 3
  else none

/-! ### At the GAUGE end (R93 to R100) -/

/-- The measured thickness (R93). -/
def measuredThickness (c : Settings) (q : GaugeSeq) : Nat :=
  (q.sum - q.m * c.gaugeZero) * c.gaugeSpan / (1024 * q.m)

/-- The tolerance of the thickness check (R95). -/
def thickTolerance (tExp k : Nat) : Nat := max 250 (tExp * k / 1000)

/-- The magnitude of a difference. -/
def gap (x y : Nat) : Nat := (x - y) + (y - x)

/-- The spine width (R96). -/
def spineWidth (tMeas allowance : Nat) : Nat := roundGrid 50 (tMeas + allowance)

/-- The scores and hinges (R97), in signed arithmetic. -/
def scoreSet (coverWidth spine hinge : Nat) : ScoreSet :=
  let s1 : Int := ((coverWidth : Int) - spine + 50) / 100 * 50
  ⟨s1 - hinge, s1, s1 + spine, s1 + spine + hinge⟩

/-- The cover is too narrow (R97). -/
def coverTooShort (coverWidth : Nat) (x : ScoreSet) : Bool :=
  decide (x.h1 < 10000) || decide ((coverWidth : Int) - 10000 < x.h2)

/-- The nominal open offset of the glue line (R98). -/
def glueOpenOffset (c : Settings) (r : JobRecord) : Nat := ceilDiv (r.glueMargin * 4096) c.pitch

/-- The nominal close offset of the glue line (R98). -/
def glueCloseOffset (c : Settings) (r : JobRecord) : Nat := (r.height - r.glueMargin) * 4096 / c.pitch

/-- The expected flow over a clipped spine pair (R99). -/
def expectedFlow (c : Settings) (r : JobRecord) (open' close' : Nat) : Nat :=
  (close' - open') * c.pitch * r.flowFactor / (4096 * 10000)

/-- The values formed when T_meas is formed, whatever the checks find (R96 to R100, R92). -/
def gaugeFormat (c : Settings) (r : JobRecord) (mode : CoverMode) (tMeas : Nat) : GaugeFormat :=
  let o := glueOpenOffset c r
  let e := glueCloseOffset c r
  let spineOpen := clipTo c.wSpineGlue (c.leadSpine + o)
  let spineClose := clipTo c.wSpineGlue (c.leadSpine + e)
  { tMeas := tMeas
    cover :=
      if mode = .noCover then none
      else some ⟨spineWidth tMeas r.allowance, scoreSet r.coverWidth (spineWidth tMeas r.allowance) r.hinge⟩
    spineOpen := spineOpen
    spineClose := spineClose
    sideOpen := clipTo c.wSideGlue (c.leadSide + o)
    sideClose := clipTo c.wSideGlue (c.leadSide + e)
    expectedFlow := expectedFlow c r spineOpen spineClose
    knives := ⟨roundGrid 10 r.finalWidth, roundGrid 10 r.headTrim, roundGrid 10 (r.headTrim + r.finalHeight)⟩
    millDepth := r.millDepth
    setTime := r.setTime
    twoUp := r.twoUp }

/-- Either glue pair was changed by clipping (R98). -/
def glueClipped (c : Settings) (r : JobRecord) (g : GaugeFormat) : Bool :=
  decide (g.spineOpen ≠ c.leadSpine + glueOpenOffset c r) || decide (g.spineClose ≠ c.leadSpine + glueCloseOffset c r) ||
    decide (g.sideOpen ≠ c.leadSide + glueOpenOffset c r) || decide (g.sideClose ≠ c.leadSide + glueCloseOffset c r)

/-- The thickness check (R95). -/
def checkThickness (r : JobRecord) (g : GaugeFormat) (b : Book) : Book :=
  match b.atLaunch with
  | some l =>
    if thickTolerance l.tExp r.tolerance < gap g.tMeas l.tExp then
      b.spoilWith .thickMismatch (carouselPoint 2) (word32 l.tExp) false
    else b
  | none => b

/-- The cover fit and the spine drift (R97). -/
def checkCover (r : JobRecord) (g : GaugeFormat) (b : Book) : Book :=
  match g.cover with
  | some k =>
    let b1 := if coverTooShort r.coverWidth k.scores then b.spoilWith .coverShort (carouselPoint 2) (word32 k.spine) false else b
    if r.driftLimit < gap k.spine r.designSpine then { b1 with warnings := { b1.warnings with spineDrift := true } } else b1
  | none => b

/-- The clipping warning (R98). -/
def checkClipping (c : Settings) (r : JobRecord) (g : GaugeFormat) (b : Book) : Book :=
  if glueClipped c r g then { b with warnings := { b.warnings with glueClipped := true } } else b

/-- The computation at a served GAUGE end (R92, R93): GAUGE_FAIL, or every value formed and the checks made in the
order of R92. -/
def formatBook (c : Settings) (r : JobRecord) (q : GaugeSeq) (b : Book) : Book :=
  let b := { b with conversions := some q.m }
  if q.m < 2 then b.spoilWith .gaugeFail (carouselPoint 2) (word32 q.m) false
  else
    let g := gaugeFormat c r b.mode (measuredThickness c q)
    checkClipping c r g (checkCover r g (checkThickness r g { b with gauged := some g }))

end Sys2Proof.Machine
end

