-- ==== Sys2Proof/Machine/Schedule.lean ====
section
/-!
DEFINITION. The Schedule unit: tickets, postings, the remake list, the launch decision (chapter 2), and the defect
log (chapter 9). The fetch that a decision starts (R45) stands here too.
-/

namespace Sys2Proof.Machine

/-! ### Held tickets (R17, R20) -/

/-- Books in flight (R17). -/
def HeldTicket.inFlight (t : HeldTicket) : Int := (t.launched : Int) - t.made - t.spoiled

/-- Queued remakes (R17). -/
def HeldTicket.queued (t : HeldTicket) : Int := (t.spoiled : Int) - t.short - t.remade

/-- Unlaunched copies (R17). -/
def HeldTicket.unlaunched (t : HeldTicket) : Int := (t.qty : Int) - ((t.launched : Int) - t.remade)

/-- A ticket is stopped while its stop mark is other than NONE (R20). -/
def HeldTicket.stopped (t : HeldTicket) : Bool := decide (t.stop ≠ .noStop)

/-- The held entry of a ticket. -/
def Schedule.find (c : Schedule) (i : Nat) : Option HeldTicket := c.held.find? fun t => decide (t.index = i)

/-- A held entry takes new values. -/
def Schedule.put (t : HeldTicket) (c : Schedule) : Schedule :=
  { c with held := c.held.map fun u => if u.index = t.index then t else u }

/-- The held entry of a ticket (R20). -/
def State.held (s : State) (i : Nat) : Option HeldTicket := s.sched.find i

/-- The stage of a held ticket as a ticket stage. -/
def HeldStage.stage : HeldStage → Stage
  | .active => .active
  | .draining => .draining

/-- The controller-written fields of a held ticket in the order of R19: counts, serials and last defect code first,
the stage word last. -/
def HeldTicket.fields (t : HeldTicket) : List (TicketField × Word) :=
  [(.launched, BitVec.ofNat 32 t.launched), (.made, BitVec.ofNat 32 t.made), (.spoiled, BitVec.ofNat 32 t.spoiled),
   (.remade, BitVec.ofNat 32 t.remade), (.short, BitVec.ofNat 32 t.short), (.firstSerial, t.firstSerial),
   (.lastSerial, t.lastSerial), (.lastDefect, BitVec.ofNat 32 t.lastDefect), (.stage, t.stage.stage.word)]

/-- The words a change of a held ticket writes: the changed fields only (R19). -/
def changedFields (before after : HeldTicket) : List (Nat × Word) :=
  (before.fields.zip after.fields).filterMap fun p =>
    if p.1.2 = p.2.2 then none else some (ticketAddr after.index p.2.1, p.2.2)

/-- The held entry takes new values and its changed fields are written (R19). -/
def State.changeTicket (before after : HeldTicket) (s : State) : State :=
  (s.updSched (Schedule.put after)).putWords (changedFields before after)

/-! ### The cursor and the remake list (R33, R38) -/

/-- The cursor takes a value, which is written to the header (R33, R34). -/
def State.setCursor (i : Nat) (s : State) : State := (s.updSched fun c => { c with cursor := i }).putNat Header.cursor i

/-- The cursor advances by one, from 255 to 0 (R33). -/
def State.advanceCursor (s : State) : State := s.setCursor ((s.sched.cursor + 1) % 256)

/-- The remake list takes a value; its length is written when it changes (R38). -/
def State.setRemakes (l : List Nat) (s : State) : State :=
  let s1 := s.updSched fun c => { c with remakes := l }
  if l.length = s.sched.remakes.length then s1 else s1.putNat Header.remakeLength l.length

/-! ### The end of a ticket (R19, R39, R40) -/

/-- A ticket's end is written in the order of R19: the counts, serials and last defect code; the end reason; the
finish number, which is the finished count as raised; the stage word; the finished count (R40). -/
def State.writeEnd (i : Nat) (fields : List (TicketField × Word)) (reason : EndReason) (stage : Stage) (s : State) : State :=
  ((s.putWords (fields.map fun p => (ticketAddr i p.1, p.2))).putWords
    [(ticketAddr i .endReason, BitVec.ofNat 32 reason.number),
     (ticketAddr i .finish, s.port.counts[Attention.ticketFinished.number] + 1),
     (ticketAddr i .stage, stage.word)]).notify .ticketFinished

/-- A ticket that was not held ends FAILED, all its counts and serials 0 (R19). -/
def State.endUnheld (i : Nat) (reason : EndReason) (defect : Nat) (s : State) : State :=
  s.writeEnd i [(.launched, 0), (.made, 0), (.spoiled, 0), (.remade, 0), (.short, 0), (.firstSerial, 0), (.lastSerial, 0),
    (.lastDefect, BitVec.ofNat 32 defect)] reason .failed

/-- A held ticket ends: its entry is removed, its end is written, and the cursor moves on when the ticket was ACTIVE
(R33, R39, R40). -/
def State.endHeld (t : HeldTicket) (reason : EndReason) (stage : Stage) (s : State) : State :=
  let s1 := (s.updSched fun c => { c with held := c.held.filter fun u => decide (u.index ≠ t.index) }).writeEnd t.index
    (t.fields.filter fun p => decide (p.1 ≠ .stage)) reason stage
  if t.stage = .active then s1.advanceCursor else s1

/-- The end reason of a ticket that ends short of its quantity (R39). -/
def HeldTicket.failReason (t : HeldTicket) : EndReason :=
  match t.stop with
  | .noStop => .short
  | .cancelled => .cancelled
  | .badJob => .badJob

/-- Nothing is left to come for a ticket (R39). -/
def HeldTicket.exhausted (t : HeldTicket) : Bool :=
  decide (t.made < t.qty) && decide (t.inFlight = 0) && decide (t.queued = 0) && (decide (t.unlaunched = 0) || t.stopped)

/-- The end check (R39). -/
def State.endCheck (i : Nat) (s : State) : State :=
  match s.held i with
  | none => s
  | some t =>
    if t.made = t.qty then s.endHeld t .noReason .done
    else if t.exhausted then s.endHeld t t.failReason .failed
    else s

/-! ### The consult (R36) -/

/-- The stop mark after a consult: a CANCEL read while the mark is NONE sets it. -/
def HeldTicket.consulted (cancel : Bool) (t : HeldTicket) : HeldTicket :=
  if cancel = true ∧ t.stop = .noStop then { t with stop := .cancelled } else t

/-- A consult of a held ticket: its request is read from the shared memory (R36). -/
def State.consult (i : Nat) (s : State) : State :=
  match s.held i with
  | none => s
  | some t => s.updSched (Schedule.put (t.consulted (s.mem.cancelled i)))

/-! ### The defect log (R148 to R151) -/

/-- The posting points (R146). -/
inductive PostPoint where
  | chainEnd | deliver | clearClamp | trimmer | cut
deriving DecidableEq, Repr

/-- The byte of a posting point (11, section 11.2). -/
def PostPoint.number : PostPoint → Nat
  | .chainEnd => 0
  | .deliver => 1
  | .clearClamp => 2
  | .trimmer => 3
  | .cut => 4

/-- The remake outcomes of an entry (R149, R150). -/
inductive RemakeOutcome where
  | noRemake | queued | short
deriving DecidableEq, Repr

/-- The byte of a remake outcome. -/
def RemakeOutcome.number : RemakeOutcome → Nat
  | .noRemake => 0
  | .queued => 1
  | .short => 2

/-- The byte of a book kind. -/
def BookKind.number : BookKind → Nat
  | .first => 0
  | .remake => 1

/-- What an entry of the log holds beside the book's own fields (R149, R150). -/
structure LogEntry where
  warning : Bool
  code : Nat
  outcome : RemakeOutcome
  posting : PostPoint
  point : DetectionPoint
  detail : Word
  noRead : Bool
deriving DecidableEq, Repr

/-- A number as a byte of an entry. -/
def byte (n : Nat) : Byte := BitVec.ofNat 8 n

/-- The measured thickness logged for a book, 0 when none was formed (R149). -/
def Book.loggedThickness (b : Book) : Word :=
  match b.gauged with
  | some g => word32 g.tMeas
  | none => 0

/-- The words of an entry after its sequence number (11, section 11.2). Of the word 0x10 the section gives byte 0, bit 8 and
bit 16 only: that its other bits are written 0 is the model's choice (assumption log, entry 39). -/
def logWords (b : Book) (e : LogEntry) : List Word :=
  [b.serial,
   packBytes (byte b.ticket) (byte b.job) (match b.clamp with | some n => byte n | none => 255) (byte b.kind.number),
   packBytes (byte e.code) (if e.warning then 1 else 0) (byte e.outcome.number) (byte e.posting.number),
   packBytes (byte e.point.position) (if e.point.onCarousel then 1 else 0) (if e.noRead then 1 else 0) 0,
   b.loggedThickness, e.detail, 0]

/-- The address of the slot the next entry goes to (R148). -/
def logSlot (count : Word) : Nat := 0x8800 + 32 * (count.toNat % 128)

/-- One entry is written: the sequence word 0, every other word, the sequence number, then the log count is raised
(R148, R151). -/
def State.logEntry (b : Book) (e : LogEntry) (s : State) : State :=
  let count := s.port.counts[Attention.defectLogged.number]
  let slot := logSlot count
  (((s.putWord slot 0).putWords ((logWords b e).mapIdx fun i w => (slot + 4 * (i + 1), w))).putWord slot
    (count + 1)).notify .defectLogged

/-! ### Postings (R35, R37, R152) -/

/-- The detail of a spoil entry: for UNFORMATTED and INCHED the received mask at the posting (R145). -/
def postedDetail (b : Book) (m : SpoilMark) : Word :=
  match m.code with
  | .unformatted => b.mask.setWidth 32
  | .inched => b.mask.setWidth 32
  | _ => m.detail

/-- The five conditions of the remake decision (R37), on the ticket with its spoiled count raised. -/
def remakeQueued (code : SpoilCode) (t : HeldTicket) (waiting : Nat) : Bool :=
  code.remakeable && decide (t.mode ≠ .personal) && !t.stopped && decide (t.spoiled ≤ t.remakeLimit) && decide (waiting < 32)

/-- The log entry of a spoil posting (R149). -/
def spoilEntry (b : Book) (m : SpoilMark) (outcome : RemakeOutcome) (posting : PostPoint) : LogEntry :=
  ⟨false, m.code.number, outcome, posting, m.point, postedDetail b m, m.noRead⟩

/-- A spoiled posting (R37, R152): the ticket is consulted, its spoiled count raised and last defect code set, the
remake decision taken, the entry written, the changed fields written, the end check run. -/
def State.postSpoiled (b : Book) (m : SpoilMark) (posting : PostPoint) (s : State) : State :=
  let s0 := s.consult b.ticket
  match s0.held b.ticket with
  | none => s0.logEntry b (spoilEntry b m .short posting)
  | some t =>
    let t1 := { t with spoiled := t.spoiled + 1, lastDefect := m.code.number }
    let q := remakeQueued m.code t1 s0.sched.remakes.length
    let t2 := if q then t1 else { t1 with short := t1.short + 1 }
    let s1 := if q then s0.setRemakes (s0.sched.remakes ++ [t.index]) else s0
    let s2 := s1.logEntry b (spoilEntry b m (if q then .queued else .short) posting)
    (s2.changeTicket t t2).endCheck b.ticket

/-- The posting of a book that carries its spoil mark; a book without one is not reported spoiled. -/
def State.postBook (b : Book) (posting : PostPoint) (s : State) : State :=
  match b.spoil with
  | some m => s.postSpoiled b m posting
  | none => s

/-- The warning entries of a made book, in ascending code order (R147, R150). -/
def warningEntries (b : Book) : List LogEntry :=
  let g := b.gauged
  (if b.warnings.glueHeavy then
    [⟨true, 32, .noRemake, .cut, carouselPoint 6, word32 ((g.map (·.expectedFlow)).getD 0), false⟩] else []) ++
  (if b.warnings.glueClipped then
    [⟨true, 33, .noRemake, .cut, carouselPoint 2, word32 ((g.map fun x => x.spineClose - x.spineOpen).getD 0), false⟩] else []) ++
  (if b.warnings.spineDrift then
    [⟨true, 34, .noRemake, .cut, carouselPoint 2, word32 ((g.bind (·.cover)).map (·.spine) |>.getD 0), false⟩] else [])

/-- A made posting (R35, R152). -/
def State.postMade (b : Book) (s : State) : State :=
  let s0 := s.consult b.ticket
  let log (s : State) : State := (warningEntries b).foldl (fun s e => s.logEntry b e) s
  match s0.held b.ticket with
  | none => log s0
  | some t => ((log s0).changeTicket t { t with made := t.made + 1 }).endCheck b.ticket

/-! ### The start of a fetch (R45, R46) -/

/-- The lowest-numbered entry with a property. -/
def JobCache.lowest (c : JobCache) (p : CacheEntry → Bool) : Option (Fin 16) := (List.finRange 16).find? fun e => p c.entries[e]

/-- The used marks of all entries with lock count 0 are cleared (R45, third step). -/
def JobCache.clearUsed (c : JobCache) : JobCache :=
  { c with entries := Vector.ofFn fun e : Fin 16 =>
      if c.entries[e].locks = 0 then { c.entries[e] with used := false } else c.entries[e] }

/-- The target entry of a fetch, with the cache as the choice leaves it (R45). -/
def JobCache.target (c : JobCache) : Option (Fin 16) × JobCache :=
  match c.lowest fun e => decide (e.locks = 0) && decide (e.state = .empty) with
  | some e => (some e, c)
  | none =>
    match c.lowest fun e => decide (e.locks = 0) && !e.used with
    | some e => (some e, c)
    | none => (c.clearUsed.lowest fun e => decide (e.locks = 0), c.clearUsed)

/-- A fetch of a job starts: the target becomes FILLING and the first attempt begins (R45, R46). -/
def State.startFetch (j : Nat) (s : State) : State :=
  match s.cache.target with
  | (none, _) => s
  | (some e, c) =>
    s.changeCache fun _ =>
      { c with
        entries := c.entries.set e ⟨.filling, some j, none, 0, true, false⟩
        fetch := some ⟨j, e, s.now, none, []⟩ }

/-! ### The launch (R30) -/

/-- The serial after one: from 4,294,967,295 to 1 (R30). -/
def serialAfter (w : Word) : Word := if w = 0xFFFFFFFF then 1 else w + 1

/-- The book record of a launch (R30, R58, R88). -/
def newBook (s : State) (t : HeldTicket) (kind : BookKind) (format : FormatState) (e : Fin 16) : Book where
  serial := s.sched.nextSerial
  ticket := t.index
  job := t.job
  kind := kind
  format := format
  entry := some e
  mask := 0
  spoil := none
  warnings := ⟨false, false, false⟩
  clamp := none
  glued := false
  covered := false
  nipped := false
  atLaunch :=
    match format, s.cache.entries[e].copy with
    | .present, some r => some (launchFormat r t.personal s.cache.stockPlace)
    | _, _ => none
  conversions := none
  gauged := none

/-- The ticket after a launch: counts and serials raised, DRAINING after the last first launch (R30). -/
def HeldTicket.afterLaunch (t : HeldTicket) (kind : BookKind) (serial : Word) : HeldTicket :=
  let t1 := { t with
    launched := t.launched + 1
    remade := if kind = .remake then t.remade + 1 else t.remade
    firstSerial := if t.launched = 0 then serial else t.firstSerial
    lastSerial := serial }
  if kind = .first ∧ t1.unlaunched = 0 then { t1 with stage := .draining } else t1

/-- A launch into the cell at chain position 0 (R30). -/
def State.launch (t : HeldTicket) (kind : BookKind) (format : FormatState) (e : Fin 16) (s : State) : State :=
  let b := newBook s t kind format e
  let t2 := t.afterLaunch kind b.serial
  let s1 := (s.setCell 0 (.holding b)).updSched fun c => { c with nextSerial := serialAfter c.nextSerial }
  let s2 := s1.putWord Header.nextSerial s1.sched.nextSerial
  let s3 := if kind = .remake then s2.setRemakes s2.sched.remakes.tail else s2
  let s4 := s3.setEntry e { s3.cache.entries[e] with locks := s3.cache.entries[e].locks + 1, used := true }
  let s5 := s4.changeTicket t t2
  if t.stage = .active ∧ t2.stage = .draining then s5.advanceCursor else s5

/-! ### Hold checks (R29) -/

/-- Whether a magazine reads EMPTY (R120). -/
def State.magazineEmpty (s : State) : Magazine → Bool
  | .a => s.cover.emptyA
  | .b => s.cover.emptyB

/-- A signature entry's pocket is STARVED. -/
def pocketStarved (pockets : Vector Pocket 16) (k : Nat) : Bool :=
  match pockets[k - 1]? with
  | some p => decide (1 ≤ k) && p.starved
  | none => false

/-- The hold checks in order (R29); `copy` is the job copy of a book that would have its format present. A cell at
position 0 that is not EMPTY takes no launch. -/
def State.holdCheck (copy : Option JobRecord) (s : State) : Option HoldReason :=
  let starved := match copy with
    | some r => r.entries.any fun e => pocketStarved s.gathering.pockets e.pocket
    | none => false
  let noCovers := match copy with
    | some r => r.hasCover && s.magazineEmpty r.mag
    | none => false
  if starved then some .pocketStarved
  else if noCovers then some .magazineEmpty
  else if !s.pot.inBand then some .glueTemp
  else if s.cell 0 ≠ .empty then some .cellUnknown
  else none

/-- The hold checks and, when none applies, the launch (R29, R30). -/
def State.holdOrLaunch (i : Nat) (kind : BookKind) (format : FormatState) (e : Fin 16) (s : State) : State × HoldReason :=
  let copy := match format with
    | .present => s.cache.entries[e].copy
    | _ => none
  match s.holdCheck copy, s.held i with
  | none, some t => (s.launch t kind format e, .launched)
  | none, none => (s, .noWork)
  | some h, _ => (s, h)

/-! ### The lookups (R26, R27) -/

/-- A launch with the format pending, but for a PERSONAL ticket (R27). -/
def State.provisional (t : HeldTicket) (kind : BookKind) (s : State) : State × HoldReason :=
  if t.mode = .personal then (s, .cacheMiss)
  else
    match s.cache.fetch with
    | some f => s.holdOrLaunch t.index kind .pending f.target
    | none => (s, .cacheMiss)

/-- The lookup for a held candidate (R27), its outcomes in order. -/
def State.heldLookup (t : HeldTicket) (kind : BookKind) (s : State) : State × HoldReason :=
  match s.cache.lookup t.job with
  | some e => s.holdOrLaunch t.index kind .present e
  | none =>
    match s.cache.fetch with
    | some f =>
      if f.job = t.job then s.provisional t kind
      else if s.cache.allLocked then (s, .cacheLocked)
      else (s, .cacheMiss)
    | none =>
      if s.cache.allLocked then (s, .cacheLocked)
      else (s.startFetch t.job).provisional t kind

/-- The entry of a ticket that goes ACTIVE (R20, R26). -/
def activated (s : State) (i : Nat) (mode : CoverMode) : HeldTicket where
  index := i
  job := (s.mem.ticket i .job).toNat
  qty := (s.mem.ticket i .qty).toNat
  remakeLimit := (s.mem.ticket i .remakeLimit).toNat
  personal := s.mem.ticket i .personal
  mode := mode
  stage := .active
  launched := 0
  made := 0
  spoiled := 0
  remade := 0
  short := 0
  lastDefect := 0
  firstSerial := 0
  lastSerial := 0
  stop := .noStop

/-- A POSTED ticket is refused: FAILED, and the cursor advances (R26, R33). -/
def State.refuse (i : Nat) (reason : EndReason) (defect : Nat) (s : State) : State × HoldReason :=
  ((s.endUnheld i reason defect).advanceCursor, .noWork)

/-- Preflight (R28) on the cached copy: the refusal, or the ticket goes ACTIVE and the decision goes on. -/
def State.preflight (i : Nat) (e : Fin 16) (r : JobRecord) (s : State) : State × HoldReason :=
  let t := activated s i r.mode
  match badJob r s.cache.stockPlace with
  | some c => s.refuse i .badJob c
  | none =>
    match badQty r.mode t.qty t.remakeLimit with
    | some c => s.refuse i .badQty c
    | none =>
      ((s.updSched fun c => { c with held := c.held ++ [t] }).putWord (ticketAddr i .stage) Stage.active.word).holdOrLaunch
        i .first .present e

/-- The lookup for a POSTED cursor ticket (R26), its outcomes in order. -/
def State.postedLookup (i : Nat) (s : State) : State × HoldReason :=
  let j := (s.mem.ticket i .job).toNat
  if 63 < j then s.refuse i .badJob 1
  else
    match s.cache.lookup j with
    | some e =>
      match s.cache.entries[e].copy with
      | some r => s.preflight i e r
      | none => (s, .cacheMiss)
    | none =>
      if s.cache.allLocked then (s, .cacheLocked)
      else
        match s.cache.fetch with
        | none => (s.startFetch j, .cacheMiss)
        | some _ => (s, .cacheMiss)

/-! ### The candidates (R24, R25) -/

/-- The remake candidate (R24). -/
def State.remakeCandidate (i : Nat) (s : State) : State × HoldReason :=
  let s0 := s.consult i
  match s0.held i with
  | none => (s0, .noWork)
  | some t =>
    if t.stopped then
      (((s0.setRemakes s0.sched.remakes.tail).changeTicket t { t with short := t.short + 1 }).endCheck i, .noWork)
    else s0.heldLookup t .remake

/-- A stopped ACTIVE ticket under the cursor is drained (R25). -/
def State.drain (t : HeldTicket) (s : State) : State :=
  let kept := s.sched.remakes.filter fun i => decide (i ≠ t.index)
  let removed := s.sched.remakes.length - kept.length
  (((s.setRemakes kept).changeTicket t { t with stage := .draining, short := t.short + removed }).advanceCursor).endCheck t.index

/-- The cursor candidate (R25). -/
def State.cursorCandidate (s : State) : State × HoldReason :=
  let i := s.sched.cursor
  let s0 := s.consult i
  match s0.held i with
  | some t =>
    match t.stage with
    | .active => if t.stopped then (s0.drain t, .noWork) else s0.heldLookup t .first
    | .draining => (if s0.sched = s.sched then s0 else s0.endCheck i, .noWork)
  | none =>
    match Stage.ofWord (s.mem.ticket i .stage) with
    | .posted => if s.mem.cancelled i then s.refuse i .cancelled 0 else s.postedLookup i
    | _ => (s, .noWork)

/-! ### The decision (R23, R31, R166) -/

/-- The decision in RUNNING (R23). -/
def State.decision (s : State) : State × HoldReason :=
  if s.config.settings.highMark ≤ s.trim.queue.length then (s, .noRoom)
  else
    match s.sched.remakes with
    | i :: _ => s.remakeCandidate i
    | [] => s.cursorCandidate

/-- The hold reason is kept and mirrored in the header (R23, R179). -/
def State.setHold (h : HoldReason) (s : State) : State :=
  (s.updSched fun c => { c with hold := h }).putNat Header.hold h.number

/-- The job of the ticket a prefetch looks at, when it is POSTED or held ACTIVE (R31). -/
def State.prefetchJob (i : Nat) (s : State) : Option Nat :=
  match s.held i with
  | some t => if t.stage = .active then some t.job else none
  | none => if Stage.ofWord (s.mem.ticket i .stage) = .posted then some (s.mem.ticket i .job).toNat else none

/-- The prefetch step (R31). -/
def State.prefetch (s : State) : State :=
  match s.prefetchJob ((s.sched.cursor + 1) % 256) with
  | none => s
  | some j =>
    if s.cache.fetch.isNone && decide (j ≤ 63) && (s.cache.lookup j).isNone && !s.cache.allLocked then s.startFetch j else s

/-- The idle count after a decision in RUNNING: a gap raises it, a launch sets it to 0 (R166). -/
def countIdle (h : HoldReason) (l : LineControl) : LineControl :=
  { l with idle := if h = .launched then 0 else min 65535 (l.idle + 1) }

/-- The launch demand (R23): no decision is taken but in RUNNING. -/
def State.launchDemand (s : State) : State :=
  if s.line.mode = .running then
    let d := s.decision
    ((d.1.setHold d.2).updLine (countIdle d.2)).prefetch
  else s.setHold .notRunning

/-! ### The verdict of a fetch (R32) -/

/-- A held ticket of an invalid job is stopped, and its end check runs (R32). -/
def State.stopForJob (j i : Nat) (s : State) : State :=
  match s.held i with
  | some t =>
    if t.job = j ∧ t.stop = .noStop then (s.updSched (Schedule.put { t with stop := .badJob })).endCheck i else s
  | none => s

/-- The verdict on an invalid record (R32): the POSTED cursor ticket of the job is refused, then every held ticket of
the job is stopped. -/
def State.verdict (j code : Nat) (s : State) : State :=
  let i := s.sched.cursor
  let s1 :=
    if (s.held i).isNone = true ∧ Stage.ofWord (s.mem.ticket i .stage) = .posted ∧ s.mem.cancelled i = false ∧
        (s.mem.ticket i .job).toNat = j then (s.refuse i .badJob code).1 else s
  (s.sched.held.map (·.index)).foldl (fun s i => s.stopForJob j i) s1

end Sys2Proof.Machine
end

