-- ==== Sys2Proof/Machine/Cache.lean ====
section
/-!
DEFINITION. The fetch engine and PURGE_CACHE (chapter 3, R46 to R55).
-/

namespace Sys2Proof.Machine

/-- A book waiting for the format of a fetch (R48, R49). -/
def Book.waitsFor (e : Fin 16) (b : Book) : Bool := decide (b.entry = some e) && decide (b.format = .pending)

/-- A book whose fetch has failed, or that has reached its use point: UNFORMATTED, FAILED, its lock released (R49, R50,
R53). Its detail is the received mask at the posting (R145); that the mark's detail part holds 0 until then is the model's
choice (assumption log, entry 44). -/
def Book.unformatted (point : DetectionPoint) (b : Book) : Book :=
  { b.spoilWith .unformatted point 0 false with format := .failed, entry := none }

/-- Every book waiting for the fetch into an entry is marked UNFORMATTED (R49, R50). -/
def State.failPending (e : Fin 16) (s : State) : State :=
  s.mapSlots fun point b => if b.waitsFor e then b.unformatted point else b

/-- The personal code of a book's ticket, from its held entry (R88). -/
def State.personalOf (s : State) (i : Nat) : Word :=
  match s.held i with
  | some t => t.personal
  | none => 0

/-- Every book waiting for the fetch into an entry receives its format (R48, R88). -/
def State.formatPending (e : Fin 16) (r : JobRecord) (s : State) : State :=
  s.mapSlots fun _ b =>
    if b.waitsFor e then
      { b with format := .present, atLaunch := some (launchFormat r (s.personalOf b.ticket) s.cache.stockPlace) }
    else b

/-- The stock places of the codes a fetch read take the copies read (R43). -/
def JobCache.takeStock (copies : List (Nat × StockCopy)) (c : JobCache) : JobCache :=
  { c with stock := copies.foldl (fun v p => v.setIfInBounds p.1 (some p.2)) c.stock }

/-- A stock copy among those an attempt read (R48: check 6 reads the entries as read in this attempt). -/
def readCopy (copies : List (Nat × StockCopy)) (code : Nat) : Option StockCopy :=
  (copies.find? fun p => decide (p.1 = code)).map (·.2)

/-- The engine begins a new attempt (R46). -/
def Fetch.retry (f : Fetch) : Fetch := { f with waitUntil := none, writes := [] }

/-- The engine takes a state. -/
def State.setFetch (f : Option Fetch) (s : State) : State := s.updCache fun c => { c with fetch := f }

/-- A valid completion (R48). -/
def State.completeValid (f : Fetch) (r : JobRecord) (s : State) : State :=
  ((s.setEntry f.target { s.cache.entries[f.target] with state := .filled, copy := some r, used := true }).formatPending
    f.target r).setFetch none

/-- An invalid completion with the sub-code of the first failing check (R49). -/
def State.completeInvalid (f : Fetch) (code : Nat) (s : State) : State :=
  (((s.failPending f.target).setEntry f.target CacheEntry.emptyEntry).setFetch none).verdict f.job code

/-- A fetch completion: the stock copies are taken, then the record is valid or invalid (R43, R48, R49). -/
def State.completeFetch (f : Fetch) (a : AttemptReads) (s : State) : State :=
  let s1 := s.updCache (JobCache.takeStock a.stock)
  match badJob a.record (readCopy a.stock) with
  | none => s1.completeValid f a.record
  | some code => s1.completeInvalid f code

/-- The end of an attempt's reads (R46): an odd first count waits 1 ms, unequal counts begin a new attempt at once,
equal ones complete the fetch. -/
def State.endAttempt (f : Fetch) (a : AttemptReads) (s : State) : State :=
  if a.firstCount.getLsbD 0 then s.setFetch (some { f with waitUntil := some (s.now + 1000), writes := [] })
  else if a.firstCount ≠ a.secondCount then s.setFetch (some f.retry)
  else s.completeFetch f a

/-- FETCH_TIMEOUT (R50). -/
def State.timeoutFetch (f : Fetch) (s : State) : State :=
  ((s.failPending f.target).setEntry f.target CacheEntry.emptyEntry).setFetch none

/-- An entry after a purge (R54). -/
def CacheEntry.purged (e : CacheEntry) : CacheEntry :=
  if e.state = .filled then
    if e.locks = 0 then CacheEntry.emptyEntry else { e with stale := true, job := none }
  else e

/-- PURGE_CACHE (R54): the entries, the stock places, the fetch in progress, the occupancy written. -/
def State.purge (s : State) : State :=
  let s1 := s.updCache fun c =>
    { entries := Vector.ofFn fun e : Fin 16 => c.entries[e].purged
      stock := Vector.replicate 64 none
      fetch := c.fetch.map fun f => { f.retry with startedAt := s.now } }
  s1.putNat Header.occupancy s1.cache.occupancy

end Sys2Proof.Machine
end

