-- ==== Sys2Proof/Machine/Line.lean ====
section
/-!
DEFINITION. Engagement of the stations (R12), changeovers (R9, R16, R105, R121), the converter (R90), mode changes
(R156), halt causes (R161, R162), and the two mode changes an empty line makes (R160, R166).
-/

namespace Sys2Proof.Machine

/-! ### The converter (R90) -/

/-- A conversion begins; it ends 25 µs later (R89). -/
def Converter.begin (what : Converting) (now : Nat) (c : Converter) : Converter :=
  { c with doing := what, kept := decide (what = .gauge), endsAt := now + 25 }

/-- A gauge request (R90). -/
def Converter.gaugeRequest (now : Nat) (c : Converter) : Converter :=
  match c.doing with
  | .idle => { c with outstanding := 3 }.begin .gauge now
  | .gauge => { c with outstanding := 4, kept := false }
  | .temp => { c with outstanding := 4 }

/-- A temperature request (R90). -/
def Converter.tempRequest (now : Nat) (c : Converter) : Converter :=
  match c.doing with
  | .idle => c.begin .temp now
  | _ => { c with tempWaiting := true }

/-- The end of a gauge sequence (R90). -/
def Converter.sequenceEnd (c : Converter) : Converter :=
  match c.doing with
  | .idle => c
  | .gauge => { c with outstanding := 0, kept := false }
  | .temp => { c with outstanding := 0 }

/-- The choice of the next conversion at a completion (R90). -/
def Converter.chooseNext (now : Nat) (c : Converter) : Converter :=
  if 0 < c.outstanding then { c with outstanding := c.outstanding - 1 }.begin .gauge now
  else if c.tempWaiting then { c with tempWaiting := false }.begin .temp now
  else { c with doing := .idle, kept := false }

/-- The gauge sequence is ended at the converter (R92, R94). -/
def FormatUnit.endSequence (f : FormatUnit) : FormatUnit := ⟨f.converter.sequenceEnd, none⟩

/-! ### Engagement (R12) -/

/-- The windows in the order of R7. -/
def allWindows : List Window := [.launch, .pocket, .load, .gauge, .mill, .spineGlue, .sideGlue, .cover, .nip, .deliver]

/-- Whether a station is engaged (R12). -/
def State.isEngaged (s : State) (w : Window) : Bool := decide (w ∈ s.stations.engaged)

/-- Whether a station serves the book at its position (R77, R78). -/
def State.isServing (s : State) (w : Window) : Bool := decide (w ∈ s.stations.serving)

/-- A station is engaged no more. -/
def Stations.drop (w : Window) (x : Stations) : Stations :=
  ⟨x.engaged.filter fun v => decide (v ≠ w), x.serving.filter fun v => decide (v ≠ w)⟩

/-- The outputs of a station go to rest and its work in progress is abandoned (R12, R70, R94, R108, R119, R124, R125,
R81). That L_b becomes 0 when the MILL station's integration is discarded is the model's choice (assumption log, entry
40), and so are a spine or side valve's effective phases, flow count and mark then (entry 35). -/
def State.restStation (w : Window) (s : State) : State :=
  match w with
  | .launch => s
  | .load => s
  | .pocket => s.updGathering fun g =>
      { g with pockets := Vector.ofFn fun k : Fin 16 => { g.pockets[k] with feed := none, code := none } }
  | .gauge => s.updFormat FormatUnit.endSequence
  | .mill => s.updMiller fun m => { m with integrating := false, load := 0 }
  | .spineGlue => s.updGlue fun g => { g with spine := Valve.atRest }
  | .sideGlue => s.updGlue fun g => { g with side := Valve.atRest }
  | .cover => s.updCover fun c => { c with fed := none }
  | .nip => s.updCover fun c => { c with nipClosed := false }
  | .deliver => s.updCarousel fun c => { c with gate1 := .toReject }

/-- An engaged station disengages before its window end (R12). -/
def State.disengage (w : Window) (s : State) : State :=
  if s.isEngaged w then (s.updStations (Stations.drop w)).restStation w else s

/-- Every engaged station disengages (R12). -/
def State.disengageAll (s : State) : State := allWindows.foldl (fun s w => s.disengage w) s

/-! ### Changeovers (R9, R16) -/

/-- The book without spoil code in a clamp, with the values its gauge formed. -/
def Slot.goodFormat : Slot → Option GaugeFormat
  | .holding b => if b.good then b.gauged else none
  | _ => none

/-- The miller's changeover: toward the milling depth of the book at carousel position 3 (R105). -/
def State.millChangeover (s : State) : State :=
  let s1 := s.updMiller fun m => { m with pending := false }
  match (s.clampAt 3).goodFormat with
  | some g => s1.updMiller fun m => { m with drive := m.drive.command g.millDepth }
  | none => s1

/-- The scorer's changeover: toward the positions of the book at carousel position 8, when it has a cover (R121). -/
def State.coverChangeover (s : State) : State :=
  let s1 := s.updCover fun c => { c with pending := false }
  match (s.clampAt 8).goodFormat.bind (·.cover) with
  | some k => s1.updCover fun c => { c with scorer := c.scorer.command k.scores }
  | none => s1

/-- Every pending changeover sets out (R16). -/
def State.takePending (s : State) : State :=
  let s1 := if s.miller.pending then s.millChangeover else s
  if s1.cover.pending then s1.coverChangeover else s1

/-! ### Drive start and mode changes (R10, R156) -/

/-- The compensation is computed from the last cycle time (R11). -/
def State.recomputeComp (s : State) : State :=
  s.updPhase fun p => { p with comp := compFor s.config.settings.valveLead p.lastCycle }

/-- A drive start (R10, R11). -/
def State.driveStart (s : State) : State :=
  (s.updPhase fun p => { p with lastCycle := s.config.settings.startCycle, startMark := true }).recomputeComp

/-- An expiry a number of seconds later, stopped for a delay of 0 (R167). -/
def expiryAfter (now seconds : Nat) : Option Nat := if seconds = 0 then none else some (now + seconds * 1000000)

/-- The timers of the old mode stop and those of the new one start (R156 steps 2 and 4, R159, R167). -/
def changeTimers (now : Nat) (c : Settings) (inBand : Bool) (mode : LineMode) (l : LineControl) : LineControl :=
  { l with
    mode := mode
    runWhenReady := if l.mode = .warming then false else l.runWhenReady
    stableAt :=
      match mode with
      | .warming => if inBand then some (now + c.stableTime * 1000000) else none
      | _ => none
    restAt :=
      match mode with
      | .ready => expiryAfter now c.setbackDelay
      | .setback => expiryAfter now c.coldDelay
      | _ => none
    idle := if mode = .running then 0 else l.idle }

/-- The drive with its speed reference, the stations and the heater for a new mode (R156 step 3, R169): `before` is the
mode left. -/
def State.changeDrive (before mode : LineMode) (s : State) : State :=
  if mode.acting then
    if before.acting then s
    else ((s.updLine fun l => { l with drive := .running, reference := some s.config.settings.speed }).driveStart).takePending
  else
    let s1 := s.updLine fun l => { l with drive := .stopped, reference := none }
    let s2 := if before.acting then s1.disengageAll else s1
    if mode = .cold then s2.updPot fun p => { p with applied := 0, heaterOn := false } else s2

/-- A change of the line mode (R156). -/
def State.changeMode (mode : LineMode) (s : State) : State :=
  let before := s.line.mode
  let s1 := s.putNat Header.mode mode.number
  let s2 := s1.updLine (changeTimers s.now s.config.settings s.pot.inBand mode)
  let s3 := s2.changeDrive before mode
  let s4 := if mode.acting then s3 else s3.snapshot
  let s5 := s4.notify .modeChanged
  if mode = .halted then s5.notify .halted else s5

/-! ### Halt causes (R161, R162) -/

/-- The set of halt causes takes a value, written to the header (R161). -/
def State.setCauses (c : Causes) (s : State) : State :=
  (s.updLine fun l => { l with causes := c }).putWord Header.causes c.word

/-- The line enters HALTED (R162). -/
def State.enterHalt (s : State) : State := (s.updLine fun l => { l with haltStart := some s.now }).changeMode .halted

/-- A cause is reported set (R161): it is added to the set, and a mode that halts becomes HALTED. -/
def State.raiseCause (c : Cause) (s : State) : State :=
  let s1 := if s.line.causes.has c then s else s.setCauses (s.line.causes.put true c)
  if s1.line.mode.halts then s1.enterHalt else s1

/-- A cause is reported cleared; the mode does not change (R161). -/
def State.clearCause (c : Cause) (s : State) : State :=
  if s.line.causes.has c then s.setCauses (s.line.causes.put false c) else s

/-! ### Mode changes of an empty line -/

/-- EMPTYING ends when no book record remains (R160). -/
def State.emptyingCheck (s : State) : State :=
  if s.line.mode = .emptying ∧ s.inFlight = 0 then s.changeMode .ready else s

/-- Level 1 of the rest (R166). -/
def State.levelOne (s : State) : State :=
  if s.line.mode = .running ∧ 0 < s.config.settings.idleLimit ∧ s.config.settings.idleLimit ≤ s.line.idle ∧
      s.inFlight = 0 ∧ s.anyUnknown = false then s.changeMode .ready else s

end Sys2Proof.Machine
end

