-- ==== Sys2Proof/Machine/Trimming.lean ====
section
/-!
DEFINITION. The cooling queue and the three-knife trimmer (chapter 8).
-/

namespace Sys2Proof.Machine

/-- The positioning limit, 3,000 ms in µs (R131). -/
def positioningLimit : Nat := 3000000

/-- A book's gauge values in the queue or trimmer; every record there has them (R127). -/
def Book.knives (b : Book) : Option KnifeSet := b.gauged.map (·.knives)

/-- The set time of a book in ms (R128). -/
def Book.setTime (b : Book) : Nat :=
  match b.gauged with
  | some g => g.setTime
  | none => 0

/-- The expiry of an entry's set-time timer (R128). -/
def QueueEntry.expiresAt (e : QueueEntry) : Nat := e.arrival + e.book.setTime * 1000

/-! ### The take (R132 to R134) -/

/-- The conditions of a two-up cut on two books and the second entry's eligible mark (R133). -/
def pairable (c : Settings) (b1 b2 : Book) (eligible : Bool) : Bool :=
  match b1.gauged, b2.gauged with
  | some g1, some g2 =>
    c.twoUp && g1.twoUp && g2.twoUp && eligible && decide (g1.knives = g2.knives) &&
      decide (g1.tMeas + g2.tMeas ≤ c.stackLimit) && !b1.warned && !b2.warned
  | _, _ => false

/-- How many entries a take removes from a queue with a head (R133). -/
def takeCount (c : Settings) : List QueueEntry → Nat
  | e1 :: e2 :: _ => if pairable c e1.book e2.book e2.eligible then 2 else 1
  | _ => 1

/-- The knife drive at a take (R134). -/
def Drive.take {α : Type} [DecidableEq α] (d : Drive α) (t : α) : Drive α :=
  match d.target with
  | none => if d.setting = some t then d else { d with target := some t }
  | some m => if m = t then { d with next := none } else { d with next := some t }

/-- The trimmer goes to CUTTING: one stroke, the cut timer set (R137). That the fault reason is none once a
FAULT is left for CUTTING (R139) is the model's reading (assumption log, entry 42). -/
def Trimmer.cutting (now cutTime : Nat) (t : Trimmer) : Trimmer :=
  { t with phase := .cutting, limitAt := none, cutAt := some (now + cutTime * 1000), reason := .noFault }

/-- The take itself (R132, R134, R142), from a queue whose head has knife positions. -/
def Trimmer.takeFrom (now : Nat) (c : Settings) (k : KnifeSet) (t : Trimmer) : Trimmer :=
  let n := takeCount c t.queue
  let d := t.knives.take k
  let t1 := { t with
    queue := t.queue.drop n
    books := (t.queue.take n).map QueueEntry.book
    target := some k
    knives := d
    gate2 := .toTrimmer
    infeed := .openFor n }
  if t.knives.standsAt k then t1.cutting now c.cutTime
  else { t1 with phase := .positioning, limitAt := some (now + positioningLimit) }

/-- The test for a take (R132): IDLE, not guarded, the head entry eligible. -/
def State.testTake (s : State) : State :=
  match s.trim.queue with
  | [] => s
  | e :: _ =>
    if s.trim.phase = .idle ∧ s.line.causes.guarded = false ∧ e.eligible = true then
      match e.book.knives with
      | some k => s.updTrim (Trimmer.takeFrom s.now s.config.settings k)
      | none => s
    else s

/-- The infeed stop when the trimmer holds no books: standing open over an empty queue (R142). -/
def stopWhenIdle (queue : List QueueEntry) : InfeedStop := if queue = [] then .standingOpen else .closed

/-- The trimmer returns to IDLE, its books, target and timers dropped, reject gate 2 at rest (R138 to R140, R142).
That the fault reason is none then, and the target after an abort too (R140), is the model's reading (assumption log, entry
42). -/
def Trimmer.toIdle (t : Trimmer) : Trimmer :=
  { t with
    phase := .idle
    books := []
    target := none
    limitAt := none
    cutAt := none
    reason := .noFault
    gate2 := .toReject
    infeed := stopWhenIdle t.queue }

/-! ### Appending (R82, R128, R142) -/

/-- A good book is appended at the tail with its arrival time; the stop closes at the first append. -/
def Trimmer.append (now : Nat) (b : Book) (t : Trimmer) : Trimmer :=
  { t with
    queue := t.queue ++ [⟨b, now, decide (b.setTime = 0)⟩]
    infeed := if t.queue = [] then .closed else t.infeed }

/-- The append of a DELIVER end, and the test for a take that it may make true (R132). -/
def State.appendBook (b : Book) (s : State) : State := (s.updTrim (Trimmer.append s.now b)).testTake

/-! ### The cut (R137, R138) -/

/-- The outfeed for the books of a cut (R138). -/
def outfeedFor (books : List Book) : Outfeed := if books.any Book.warned then .inspection else .stacker

/-- The books held leave the tracking one by one, each posted made, the head book first (R138). -/
def State.postCut (s : State) : List Book → State
  | [] => s
  | b :: rest => State.postCut ((s.updTrim fun t => { t with books := rest }).postMade b) rest

/-- The cut-complete event (R138). -/
def State.cutComplete (s : State) : State :=
  let books := s.trim.books
  let s1 := s.postCut books
  (((s1.updTrim fun t => { t with outfeed := some (outfeedFor books) }).updTrim Trimmer.toIdle).testTake).emptyingCheck

/-! ### Faults and aborts (R136, R139, R140) -/

/-- The trimmer goes to FAULT (R136, R137); the TRIMMER cause is reported. -/
def State.trimFault (reason : TrimReason) (s : State) : State :=
  (s.updTrim fun t => { t with phase := .fault, limitAt := none, cutAt := none, reason := reason }).raiseCause .trimmer

/-- A book is marked TRIM_ABORT (R140). -/
def Book.aborted (phase : TrimPhase) (b : Book) : Book :=
  b.spoilWith .trimAbort (carouselPoint 17) (BitVec.ofNat 32 phase.number) false

/-- The books held are marked TRIM_ABORT and reported spoiled, the head book first (R140). -/
def State.postAborted (phase : TrimPhase) (s : State) : List Book → State
  | [] => s
  | b :: rest =>
    State.postAborted phase ((s.updTrim fun t => { t with books := rest }).postBook (b.aborted phase) .trimmer) rest

/-- A trimmer left in FAULT with no books: over an empty queue the stop stands open with gate 2 at TO_REJECT (R142). -/
def Trimmer.emptied (t : Trimmer) : Trimmer :=
  if t.queue = [] then { t with gate2 := .toReject, infeed := .standingOpen } else { t with infeed := .closed }

/-- The abort when the first of ESTOP and GUARD becomes present (R140). -/
def State.abortTrimmer (s : State) : State :=
  match s.trim.phase with
  | .idle => s
  | .fault => if s.trim.books = [] then s else (s.postAborted .fault s.trim.books).updTrim Trimmer.emptied
  | p => (s.postAborted p s.trim.books).updTrim Trimmer.toIdle

/-- What the trimmer does at a knife drive report taken by the drive (R135, R139). -/
def State.afterReport (s : State) : State :=
  match s.trim.target with
  | none => s
  | some k =>
    if s.trim.knives.standsAt k then
      match s.trim.phase with
      | .positioning => s.updTrim (Trimmer.cutting s.now s.config.settings.cutTime)
      | .fault =>
        if s.trim.reason = .positioning then
          let s1 := s.clearCause .trimmer
          if s.trim.books = [] then (s1.updTrim Trimmer.toIdle).testTake
          else s1.updTrim (Trimmer.cutting s.now s.config.settings.cutTime)
        else s
      | _ => s
    else s

/-- The beam comes to its top position (R139). -/
def State.beamTop (s : State) : State :=
  if s.trim.phase = .fault ∧ s.trim.reason = .stroke then
    let s1 := s.clearCause .trimmer
    if s.trim.books = [] then (s1.updTrim Trimmer.toIdle).testTake else s1.cutComplete
  else s

end Sys2Proof.Machine
end

