-- ==== Sys2Proof/Machine/Gathering.lean ====
section
/-!
DEFINITION. The pockets (chapter 4): use point, feed decision, verdict; and the hand-over at LOAD.
-/

namespace Sys2Proof.Machine

/-- The chain position pocket `k + 1` stands over. -/
def pocketPosition (k : Fin 16) : Fin 18 := ⟨k.val + 1, by omega⟩

/-- The use point of the book at a chain position (R53). -/
def State.usePoint (p : Fin 18) (s : State) : State :=
  match s.cell p with
  | .holding b =>
    if b.format = .pending then (s.setCell p (.holding (b.unformatted (chainPoint p)))).freeLock b else s
  | _ => s

/-- The chain positions 1 to 17: a book there has left the launch point. -/
def launchedPositions : List (Fin 18) := (List.finRange 18).filter fun p => decide (p.val ≠ 0)

/-- The use point of a book that no POCKET window start has met on the chain, taken on the carousel (R53; assumption
log, entry 30). -/
def State.usePointClamp (p : Fin 24) (s : State) : State :=
  match s.clampAt p with
  | .holding b =>
    if b.format = .pending then (s.setClamp p (.holding (b.unformatted (carouselPoint p)))).freeLock b else s
  | _ => s

/-- The use points of a POCKET window start (R53). -/
def State.usePoints (s : State) : State :=
  (List.finRange 24).foldl (fun s p => s.usePointClamp p) (launchedPositions.foldl (fun s p => s.usePoint p) s)

/-- The job copy of the entry a book holds its lock on (R61). -/
def State.jobCopy (s : State) (b : Book) : Option JobRecord :=
  match b.entry with
  | some e => s.cache.entries[e].copy
  | none => none

/-- The signature entry of a job for a pocket (R64). -/
def JobRecord.sigFor (r : JobRecord) (k : Fin 16) : Option SigEntry :=
  r.entries.find? fun e => decide (e.pocket = k.val + 1)

/-- The feed decision of a pocket: the serial of the book it feeds (R61). -/
def State.feedDecision (s : State) (k : Fin 16) : Option Word :=
  match s.cell (pocketPosition k) with
  | .holding b =>
    match s.jobCopy b with
    | some r => if b.format = .present ∧ b.good = true ∧ (r.sigFor k).isSome = true then some b.serial else none
    | none => none
  | _ => none

/-- A pocket takes its feed decision; a feed sets its code taken to NOREAD (R61). -/
def Pocket.decide (feed : Option Word) (p : Pocket) : Pocket :=
  match feed with
  | some n => { p with feed := some n, code := none }
  | none => { p with feed := none }

/-- The feed decisions of an engaged POCKET window start (R61). -/
def State.feedAll (s : State) : State :=
  s.updGathering fun g => { g with pockets := Vector.ofFn fun k : Fin 16 => g.pockets[k].decide (s.feedDecision k) }

/-- The checks of R63 and R64 on one sheet; `none` is accepted. -/
def judgeSheet (e : SigEntry) (tolerate : Bool) (sheet : SheetReading) (code : Option Word) : Option SpoilCode :=
  match sheet with
  | .double => some .sigDouble
  | .noSheet => some .sigMissing
  | .one =>
    if e.uncoded then none
    else
      match code with
      | some c => if highHalf c ≠ highHalf e.code then some .sigWrong
                  else if lowHalf c ≠ lowHalf e.code then some .sigWrong else none
      | none => if tolerate then none else some .sigNoread

/-- The outcome for the book a pocket feeds; a book without its job's entry for the pocket cannot be being fed, and is
judged by the detector alone (assumption log, entry 22). -/
def State.sheetOutcome (s : State) (k : Fin 16) (b : Book) (sheet : SheetReading) (code : Option Word) : Option SpoilCode :=
  match (s.jobCopy b).bind fun r => (r.sigFor k).map fun e => (e, r.tolerateNoread) with
  | some x => judgeSheet x.1 x.2 sheet code
  | none => judgeSheet ⟨0, 0, 0, true, 0⟩ false sheet code

/-- The book after a verdict: a pocket whose detector read a sheet joins the received mask (R69), a spoil code found is
recorded with the code taken (R63). -/
def Book.afterVerdict (k : Fin 16) (sheet : SheetReading) (code : Option Word) (outcome : Option SpoilCode) (b : Book) : Book :=
  let b1 := if sheet = .noSheet then b else { b with mask := b.mask ||| (1 <<< k.val) }
  match outcome with
  | some c => b1.spoilWithCode c (chainPoint (k.val + 1)) code
  | none => b1

/-- The pocket after a verdict: cleared by an accepted sheet (R65), raised by a miss (R66). -/
def Pocket.afterVerdict (limit : Nat) (sheet : SheetReading) (accepted : Bool) (p : Pocket) : Pocket :=
  let p := { p with feed := none }
  match sheet with
  | .noSheet => if limit ≤ p.misses + 1 then { p with misses := limit, starved := true } else { p with misses := p.misses + 1 }
  | _ => if accepted then { p with misses := 0, starved := false } else p

/-- The verdict of a pocket with a feed in progress (R63 to R66); a pocket going STARVED posts one notice. -/
def State.pocketVerdict (io : CountInputs) (k : Fin 16) (s : State) : State :=
  let p := s.gathering.pockets[k]
  match p.feed with
  | none => s
  | some _ =>
    let sheet := io.sheets[k]
    let outcome := match s.cell (pocketPosition k) with
      | .holding b => s.sheetOutcome k b sheet p.code
      | _ => judgeSheet ⟨0, 0, 0, true, 0⟩ false sheet p.code
    let q := p.afterVerdict s.config.settings.missLimit sheet outcome.isNone
    let s1 := (s.modCell (pocketPosition k) (Book.afterVerdict k sheet p.code outcome)).updGathering fun g =>
      { g with pockets := g.pockets.set k q }
    if q.starved = true ∧ p.starved = false then s1.notify .pocketStarved else s1

/-- The verdicts of an engaged POCKET window end (R63). -/
def State.pocketVerdicts (io : CountInputs) (s : State) : State :=
  (List.finRange 16).foldl (fun s k => s.pocketVerdict io k) s

/-- The hand-over of an engaged LOAD window end (R71, R75). -/
def State.loadTransfer (s : State) : State :=
  match s.cell 17 with
  | .holding b => (s.setClamp 0 (.holding { b with clamp := some s.carousel.places[(0 : Fin 24)].number })).setCell 17 .empty
  | .unknown => (s.setClamp 0 .unknown).setCell 17 .empty
  | .empty => s

end Sys2Proof.Machine
end

