-- ==== Sys2Proof/Machine/Stations.lean ====
section
/-!
DEFINITION. What each station does at its window's start and end (chapters 4 to 7), served and unserved (R12 to R16).
-/

namespace Sys2Proof.Machine

/-- A station takes up the book at its position (R77). -/
def State.serve (w : Window) (s : State) : State :=
  s.updStations fun x => { x with serving := w :: x.serving.filter fun v => decide (v ≠ w) }

/-! ### GAUGE (R91, R92) -/

/-- An engaged GAUGE window start (R91). -/
def State.gaugeStart (s : State) : State :=
  match s.clampAt 2 with
  | .holding b =>
    if b.good then
      (s.serve .gauge).updFormat fun f => ⟨f.converter.gaugeRequest s.now, some ⟨0, 0⟩⟩
    else s
  | _ => s

/-- An engaged GAUGE window end (R92, R101): the sequence is ended, a served book's format is computed from the copy it
is locked to, the lock is released. -/
def State.gaugeEnd (s : State) : State :=
  let q := s.format.gauge.getD ⟨0, 0⟩
  let s1 := s.updFormat FormatUnit.endSequence
  let s2 :=
    if s.isServing .gauge then
      match s.clampAt 2 with
      | .holding b =>
        match s.jobCopy b with
        | some r => s1.setClamp 2 (.holding (formatBook s.config.settings r q b))
        | none => s1
      | _ => s1
    else s1
  s2.releaseClamp 2

/-! ### MILL (R107 to R109) -/

/-- An engaged MILL window start (R107). -/
def State.millStart (s : State) : State :=
  match (s.clampAt 4).goodFormat with
  | some g =>
    let s1 := s.serve .mill
    if s.miller.drive.standsAt g.millDepth then s1.updMiller fun m => { m with integrating := true, load := 0 }
    else s1.modClamp 4 (Book.spoilWith .millLate (carouselPoint 4) (word32 g.millDepth) false)
  | none => s

/-- The expected load of a book (R108). -/
def expectedLoad (c : Settings) (g : GaugeFormat) : Nat := g.tMeas * g.millDepth * c.millCal / 1000000000

/-- The wear ratio of a load (R108). -/
def wearRatio (load expected : Nat) : Nat := min 65535 (load * 1000 / expected)

/-- A ratio is appended; the oldest of 16 goes first (R109). -/
def wearAppend (ratio : Nat) (l : List Nat) : List Nat := (if 16 ≤ l.length then l.tail else l) ++ [ratio]

/-- The wear judgement after an append (R109). -/
def State.judgeWear (s : State) : State :=
  let limit := s.config.settings.wearLimit
  let index := wearIndex s.miller.wear
  if s.miller.armed = true ∧ limit < index then
    (s.updMiller fun m => { m with armed := false }).notify .wear
  else if s.miller.armed = false ∧ index < limit * 9 / 10 then s.updMiller fun m => { m with armed := true }
  else s

/-- An engaged MILL window end (R108, R109). -/
def State.millEnd (s : State) : State :=
  let s1 := s.updMiller fun m => { m with integrating := false }
  if s.miller.integrating then
    match s.clampAt 4 with
    | .holding b =>
      match b.gauged with
      | some g =>
        let e := expectedLoad s.config.settings g
        if e = 0 then s1
        else (s1.updMiller fun m => { m with wear := wearAppend (wearRatio s.miller.load e) m.wear }).judgeWear
      | none => s1
    | _ => s1
  else s1

/-! ### The glue valves (R115 to R118) -/

/-- The effective phases of a clipped pair, `none` for an empty line (R115). -/
def effectivePhases (w : Span) (comp open' close' : Nat) : Option (Nat × Nat) :=
  if close' ≤ open' ∨ close' - comp ≤ max w.first (open' - comp) then none
  else some (max w.first (open' - comp), close' - comp)

/-- A valve's station at a window start that serves a book (R115, R118). -/
def Valve.arm (phases : Option (Nat × Nat)) : Valve :=
  match phases with
  | some p => ⟨some p.1, some p.2, false, false, 0, false⟩
  | none => ⟨none, none, false, false, 0, true⟩

/-- The valve opens at its effective open (R116). -/
def Valve.openNow (v : Valve) : Valve := { v with openAt := none, isOpen := true, opened := true }

/-- The valve closes at its effective close (R116). -/
def Valve.closeNow (v : Valve) : Valve := { v with closeAt := none, isOpen := false }

/-- A valve at a window start; a point equal to the start is taken with it (R115, R116). -/
def Valve.atStart (w : Span) (comp open' close' : Nat) : Valve :=
  let v := Valve.arm (effectivePhases w comp open' close')
  if v.openAt = some w.first then v.openNow else v

/-- The flow check on a book with a latched count (R117). -/
def flowCheck (count : Nat) (b : Book) : Book :=
  match b.gauged with
  | some g =>
    if g.expectedFlow = 0 then b
    else if count < 3 * g.expectedFlow / 4 then b.spoilWith .glueStarved (carouselPoint 6) (word32 count) false
    else if 3 * g.expectedFlow / 2 < count then { b with warnings := { b.warnings with glueHeavy := true } }
    else b
  | none => b

/-- An engaged SPINE_GLUE window start (R115). -/
def State.spineStart (s : State) : State :=
  let s1 := s.updGlue fun g => { g with spine := Valve.atRest }
  match (s.clampAt 6).goodFormat with
  | some g =>
    let s2 := s1.serve .spineGlue
    if s.pot.inBand then
      s2.updGlue fun x => { x with spine := Valve.atStart s.config.settings.wSpineGlue s.phase.comp g.spineOpen g.spineClose }
    else s2.modClamp 6 (Book.spoilWith .glueTemp (carouselPoint 6) (word32 (s.pot.temp.getD 0)) false)
  | none => s1

/-- The spine valve opens at its phase point (R116). -/
def State.spineOpens (s : State) : State := s.updGlue fun g => { g with spine := g.spine.openNow }

/-- The spine valve closes at its phase point, and the flow check is made (R116, R117). -/
def State.spineCloses (s : State) : State :=
  (s.updGlue fun g => { g with spine := g.spine.closeNow }).modClamp 6 (flowCheck s.glue.spine.flow)

/-- An engaged SPINE_GLUE window end (R79, R116, R117): a close equal to the end is taken first, an empty line is
checked with a count of 0, the glue-applied mark records that the valve opened. That the flow count and the valve-opened
mark are cleared here, with the phases and the empty-line mark, and not at the next start only, is the model's choice
(assumption log, entry 35). -/
def State.spineEnd (s : State) : State :=
  let s1 := if s.glue.spine.closeAt.isSome then s.spineCloses else s
  let s2 := if s.isServing .spineGlue = true ∧ s.glue.spine.emptyLine = true then s1.modClamp 6 (flowCheck 0) else s1
  let s3 := if s.isServing .spineGlue = true ∧ s.glue.spine.opened = true then s2.modClamp 6 fun b => { b with glued := true } else s2
  s3.updGlue fun g => { g with spine := Valve.atRest }

/-- An engaged SIDE_GLUE window start (R118). -/
def State.sideStart (s : State) : State :=
  let s1 := s.updGlue fun g => { g with side := Valve.atRest }
  match (s.clampAt 7).goodFormat with
  | some g =>
    (s1.serve .sideGlue).updGlue fun x =>
      { x with side := Valve.atStart s.config.settings.wSideGlue s.phase.comp g.sideOpen g.sideClose }
  | none => s1

/-- The side valve opens at its phase point (R118). -/
def State.sideOpens (s : State) : State := s.updGlue fun g => { g with side := g.side.openNow }

/-- The side valve closes at its phase point (R118). -/
def State.sideCloses (s : State) : State := s.updGlue fun g => { g with side := g.side.closeNow }

/-- An engaged SIDE_GLUE window end (R118): no mark is recorded. The valve's state is cleared as at the spine station's end
(assumption log, entry 35). -/
def State.sideEnd (s : State) : State := s.updGlue fun g => { g with side := Valve.atRest }

/-! ### COVER (R77, R78, R122 to R124) -/

/-- The code check of a fed cover (R123): the spoil code found, and whether COVER_SEQUENCE is reported. -/
def coverCheck (l : LaunchFormat) (code : Option Word) : Option SpoilCode × Bool :=
  match l.mode with
  | .noCover => (none, false)
  | .title =>
    match code with
    | some c => if highHalf c = l.coverTitle then (none, false) else (some .coverMismatch, false)
    | none => (some .coverNoread, false)
  | .personal =>
    match code with
    | some c =>
      if highHalf c = l.coverTitle ∧ lowHalf c = l.personal.toNat then (none, false) else (some .coverMismatch, true)
    | none => (some .coverMismatch, true)

/-- A cover is drawn, scored or not, and its code checked (R122 check 3, R123). -/
def State.feedCover (l : LaunchFormat) (code : Option Word) (scored : Bool) (b : Book) (s : State) : State :=
  let c := coverCheck l code
  let b1 := match c.1 with
    | some x => b.spoilWithCode x (carouselPoint 9) code
    | none => b
  let s1 := (s.setClamp 9 (.holding b1)).updCover fun k => { k with fed := some ⟨l.magazine, code, scored⟩ }
  if c.2 then s1.raiseCause .coverSequence else s1

/-- Whether the scorer stands at the book's four positions (R122 check 1). -/
def State.scorerReady (s : State) (b : Book) : Bool :=
  match b.gauged.bind (·.cover) with
  | some k => s.cover.scorer.standsAt k.scores
  | none => false

/-- The score position s1 of a book as a detail value (R145). -/
def Book.scoreDetail (b : Book) : Word :=
  match b.gauged.bind (·.cover) with
  | some k => word32 k.scores.s1.toNat
  | none => 0

/-- The checks of R122 in order for a served book with a cover. -/
def State.coverChecks (l : LaunchFormat) (code : Option Word) (b : Book) (s : State) : State :=
  let late := (b.good || decide (l.mode ≠ .personal)) && !s.scorerReady b
  let b1 := if late then b.spoilWith .scoreLate (carouselPoint 9) b.scoreDetail false else b
  if late = true ∧ l.mode = .title then s.setClamp 9 (.holding b1)
  else if s.magazineEmpty l.magazine then
    s.setClamp 9 (.holding (b1.spoilWith .coverMissing (carouselPoint 9) (word32 (magazineNumber l.magazine)) false))
  else s.feedCover l code (b.good && !late) b1

/-- An engaged COVER window start (R77, R78, R122). -/
def State.coverStart (code : Option Word) (s : State) : State :=
  match s.clampAt 9 with
  | .holding b =>
    match b.atLaunch with
    | some l =>
      if b.good = true ∨ l.mode = .personal then
        let s1 := s.serve .cover
        if l.mode = .noCover then s1 else s1.coverChecks l code b
      else s
    | none => s
  | _ => s

/-- An engaged COVER window end (R79, R124). -/
def State.coverEnd (s : State) : State :=
  let s1 := if s.isServing .cover = true ∧ s.cover.fed.isSome = true then
      s.modClamp 9 fun b => { b with covered := true } else s
  s1.updCover fun c => { c with fed := none }

/-! ### NIP (R125) -/

/-- An engaged NIP window start (R125). -/
def State.nipStart (s : State) : State :=
  match s.clampAt 10 with
  | .holding b => if b.good then (s.serve .nip).updCover fun c => { c with nipClosed := b.covered } else s
  | _ => s

/-- An engaged NIP window end (R79, R125). -/
def State.nipEnd (s : State) : State :=
  (if s.isServing .nip then s.modClamp 10 fun b => { b with nipped := true } else s).updCover fun c => { c with nipClosed := false }

/-! ### DELIVER (R15, R81, R83) -/

/-- The clamp at position 17 opens with gate 1 toward a destination; the gate then returns to rest (R81). -/
def State.openClamp (gate : Gate1) (s : State) : State :=
  (s.setClamp 17 .empty).updCarousel fun c => { c with gate1 := .toReject, lastDrop := some gate }

/-- An engaged DELIVER window end (R81). -/
def State.deliverEnd (s : State) : State :=
  match s.clampAt 17 with
  | .holding b =>
    if b.good then
      if s.trim.queue.length < 12 then (s.openClamp .toConveyor).appendBook b
      else (s.openClamp .toReject).postBook (b.spoilWith .queueFull (carouselPoint 17) 12 false) .deliver
    else (s.openClamp .toReject).postBook b .deliver
  | _ => s.openClamp .toReject

/-- An unserved DELIVER window end (R15). -/
def State.deliverUnserved (s : State) : State :=
  match s.clampAt 17 with
  | .holding b => (s.openClamp .toReject).postBook (b.inched (carouselPoint 17)) .deliver
  | _ => s.openClamp .toReject

/-! ### Window starts and ends -/

/-- The carousel position of a station that marks its book at an unserved end (R13). -/
def stationPosition : Window → Option (Fin 24)
  | .gauge => some 2
  | .mill => some 4
  | .spineGlue => some 6
  | .sideGlue => some 7
  | .cover => some 9
  | .nip => some 10
  | _ => none

/-- The work of an engaged station at its window start (R61, R91, R107, R115, R118, R122, R125). -/
def State.startWork (w : Window) (io : CountInputs) (s : State) : State :=
  match w with
  | .launch => s
  | .pocket => s.feedAll
  | .load => s
  | .gauge => s.gaugeStart
  | .mill => s.millStart
  | .spineGlue => s.spineStart
  | .sideGlue => s.sideStart
  | .cover => s.coverStart io.cover
  | .nip => s.nipStart
  | .deliver => s

/-- The work of an engaged station at its window end (R63, R71, R79, R81, R92, R108, R117, R124, R125). -/
def State.endWork (w : Window) (io : CountInputs) (s : State) : State :=
  match w with
  | .launch => s
  | .pocket => s.pocketVerdicts io
  | .load => s.loadTransfer
  | .gauge => s.gaugeEnd
  | .mill => s.millEnd
  | .spineGlue => s.spineEnd
  | .sideGlue => s.sideEnd
  | .cover => s.coverEnd
  | .nip => s.nipEnd
  | .deliver => s.deliverEnd

/-- The chain positions under the pockets. -/
def pocketPositions : List (Fin 18) := (List.finRange 16).map pocketPosition

/-- An unserved window end (R13, R15); at LOAD nothing is done before the next cycle index event (R14). -/
def State.unservedEnd (w : Window) (s : State) : State :=
  match w with
  | .launch => s
  | .load => s
  | .pocket => pocketPositions.foldl (fun s p => s.modCell p (Book.inched (chainPoint p))) s
  | .deliver => s.deliverUnserved
  | w =>
    match stationPosition w with
    | some p =>
      let s1 := s.modClamp p (Book.inched (carouselPoint p))
      if w = .gauge then s1.releaseClamp p else s1
    | none => s

/-- A changeover point of a station: made in an acting mode, left pending in any other (R9, R16). -/
def State.changeover (w : Window) (s : State) : State :=
  match w with
  | .mill => if s.line.mode.acting then s.millChangeover else s.updMiller fun m => { m with pending := true }
  | .cover => if s.line.mode.acting then s.coverChangeover else s.updCover fun c => { c with pending := true }
  | _ => s

/-- A changeover point that was not raised leaves the changeover pending (R80). -/
def State.leavePending (w : Window) (s : State) : State :=
  match w with
  | .mill => s.updMiller fun m => { m with pending := true }
  | .cover => s.updCover fun c => { c with pending := true }
  | _ => s

/-- A window start event (R7, R12, R23, R53). -/
def State.windowStart (w : Window) (io : CountInputs) (s : State) : State :=
  let s1 := s.updPhase fun p => { p with startTaken := w :: p.startTaken }
  let s2 := if s.line.mode.acting then s1.updStations fun x => { x with engaged := w :: x.engaged } else s1
  let s3 := if w = .pocket then s2.usePoints else s2
  let s4 := if w = .launch then s3.launchDemand else s3
  if s.line.mode.acting then s4.startWork w io else s4

/-- A window end event (R7, R12, R13, R15, R16): served when the station is engaged, and its changeover point. -/
def State.windowEnd (w : Window) (io : CountInputs) (s : State) : State :=
  let s1 := s.updPhase fun p => { p with endTaken := w :: p.endTaken }
  let s2 := if s.isEngaged w then (s1.endWork w io).updStations (Stations.drop w) else s1.unservedEnd w
  let s3 := s2.changeover w
  if w = .deliver then s3.emptyingCheck else s3

end Sys2Proof.Machine
end

