-- ==== Sys2Proof/Machine/Phase.lean ====
section
/-!
DEFINITION. The Phase unit (chapter 1): the cycle index event, the events of the counter's values, the index mark; and
the meanings of the three shaft commands.
-/

namespace Sys2Proof.Machine

/-! ### The cycle index event (R2, R14, R80) -/

/-- One station at a cycle index event: when its end was not taken, it is dealt with as at an end taken while
disengaged, and its changeover is left pending (R80). -/
def State.dealUntakenAt (w : Window) (s : State) : State :=
  if w ∈ s.phase.endTaken then s else ((s.disengage w).unservedEnd w).leavePending w

/-- Every station whose end was not taken (R80). -/
def State.dealUntaken (s : State) : State := allWindows.foldl (fun s w => s.dealUntakenAt w) s

/-- A record that still stands at chain position 17 leaves its cell, which becomes UNKNOWN, and is posted (R14). -/
def State.chainEnd (s : State) : State :=
  match s.cell 17 with
  | .holding b => ((s.setCell 17 .unknown).freeLock b).postBook (b.inched (chainPoint 17)) .chainEnd
  | _ => s

/-- Every chain cell and every clamp advances one position (R2). -/
def State.advance (s : State) : State :=
  (s.updGathering fun g => { g with cells := Vector.ofFn fun p : Fin 18 => g.cells[p - 1] }).updCarousel fun c =>
    { c with places := Vector.ofFn fun p : Fin 24 => c.places[p - 1] }

/-- The Phase unit at a cycle index event: the cycle count, the count since index, the taken marks, the cycle time
(R2, R7, R10). -/
def PhaseUnit.atIndex (now : Nat) (p : PhaseUnit) : PhaseUnit :=
  { p with
    cycleCount := p.cycleCount + 1
    sinceIndex := 0
    startTaken := []
    endTaken := []
    lastCycle := if p.startMark then p.lastCycle else min 10000000 (now - p.lastIndexAt)
    startMark := false
    lastIndexAt := now }

/-- The cycle index event (R2): the dealings of R80, the chain end of R14, the advance, the Phase unit's own part, the
two tests for an empty line (R160, R166), and last the snapshot (R179). -/
def State.cycleIndex (s : State) : State :=
  let s1 := s.dealUntaken.chainEnd.advance
  let s2 := (s1.updPhase (PhaseUnit.atIndex s.now)).recomputeComp
  s2.emptyingCheck.levelOne.snapshot

/-! ### The events of one value of the counter (R7, R116) -/

/-- The value of the counter at which an event is still to be taken, if it is. -/
def State.eventValue (s : State) : PhaseEvent → Option Nat
  | .opens w => if w ∈ s.phase.startTaken then none else some (s.config.settings.window w).first
  | .closes w => if w ∈ s.phase.endTaken then none else some (s.config.settings.window w).last
  | .spineOpen => if s.isEngaged .spineGlue then s.glue.spine.openAt else none
  | .spineClose => if s.isEngaged .spineGlue then s.glue.spine.closeAt else none
  | .sideOpen => if s.isEngaged .sideGlue then s.glue.side.openAt else none
  | .sideClose => if s.isEngaged .sideGlue then s.glue.side.closeAt else none

/-- An event is taken. -/
def State.takeEvent (io : CountInputs) (e : PhaseEvent) (s : State) : State :=
  match e with
  | .opens w => s.windowStart w io
  | .closes w => s.windowEnd w io
  | .spineOpen => s.spineOpens
  | .spineClose => s.spineCloses
  | .sideOpen => s.sideOpens
  | .sideClose => s.sideCloses

/-- An event is taken when its value is the one given and it is still to be taken. -/
def State.eventAt (p : Nat) (io : CountInputs) (s : State) (e : PhaseEvent) : State :=
  if s.eventValue e = some p then s.takeEvent io e else s

/-- The window starts. -/
def startEvents : List PhaseEvent := allWindows.map PhaseEvent.opens

/-- Every event: the starts, the valve phase points, the ends. -/
def defaultOrder : List PhaseEvent :=
  startEvents ++ [.spineOpen, .spineClose, .sideOpen, .sideClose] ++ allWindows.map PhaseEvent.closes

/-- The events of one value of the counter, each once; the operand says which go first (assumption log, entry 6). -/
def State.eventsAt (p : Nat) (io : CountInputs) (s : State) : State :=
  (io.order ++ defaultOrder).foldl (fun s e => s.eventAt p io e) s

/-- Whether an event is a window end. -/
def isEndEvent : PhaseEvent → Bool
  | .closes _ => true
  | _ => false

/-- The events of one skipped value, a start before an end of the same value (R4). -/
def State.skippedAt (p : Nat) (io : CountInputs) (s : State) : State :=
  (io.order.filter (fun e => !isEndEvent e) ++ startEvents ++ io.order ++ defaultOrder).foldl (fun s e => s.eventAt p io e) s

/-- The events of the last `n` values of the counter, 4,096 − n to 4,095, in ascending order (R4). -/
def State.runSpan (io : CountInputs) : Nat → State → State
  | 0, s => s
  | n + 1, s => State.runSpan io n (s.skippedAt (4095 - n) io)

/-! ### The encoder count (R1) -/

/-- The counter and the count since index at a forward count (R1). -/
def PhaseUnit.count (p : PhaseUnit) : PhaseUnit :=
  { p with counter := if 4095 ≤ p.counter then 0 else p.counter + 1, sinceIndex := min 65 (p.sinceIndex + 1) }

/-- A forward count: while synchronised, the wrap raises the cycle index event and any other value its events (R1, R2,
R5, R7). -/
def State.forwardCount (io : CountInputs) (s : State) : State :=
  let s1 := s.updPhase PhaseUnit.count
  if s.phase.synced then
    if 4095 ≤ s.phase.counter then s1.cycleIndex else s1.eventsAt (s.phase.counter + 1) io
  else s1

/-! ### The index mark (R3 to R6) -/

/-- The deviation of a mark (R3). -/
def deviation (v : Nat) : Nat := min v (4096 - v)

/-- The counter is forced to 0: an early mark first raises the events of the skipped span, and a cycle index event is
raised when the count since index is 65 (R3, R4). -/
def State.forcePhase (io : CountInputs) (s : State) : State :=
  let v := s.phase.counter
  let s1 := if 2048 ≤ v then s.runSpan io (4095 - v) else s
  let s2 := s1.updPhase fun p => { p with counter := 0 }
  if s.phase.sinceIndex = 65 then s2.cycleIndex else s2.updPhase fun p => { p with sinceIndex := 0 }

/-- JAM after a mark, reported in both directions (R6). -/
def State.judgeJam (d : Nat) (s : State) : State :=
  if 65 ≤ d then (s.updPhase fun p => { p with jam := true }).raiseCause .jam
  else (s.updPhase fun p => { p with jam := false }).clearCause .jam

/-- The first mark after a reset (R5). -/
def State.synchronise (s : State) : State :=
  ((s.updPhase fun p => { p with counter := 0 }).cycleIndex).updPhase fun p => { p with synced := true }

/-- An index mark (R3, R5). JAM is reported after the index event (assumption log, entry 10). -/
def State.indexMark (io : CountInputs) (s : State) : State :=
  if s.phase.synced then
    let d := deviation s.phase.counter
    (if d ≤ 8 then s else s.forcePhase io).judgeJam d
  else s.synchronise

/-! ### Meanings -/

/-- FORWARD_ENCODER_COUNT (R1, R2, R7). -/
def execForwardEncoderCount (dt : Nat) (io : CountInputs) (s : State) : Host.Outcome State Fault Refusal :=
  .next ((s.elapse dt).forwardCount io)

/-- REVERSE_ENCODER_COUNT (R1): counted nowhere. -/
def execReverseEncoderCount (dt : Nat) (s : State) : Host.Outcome State Fault Refusal := .next (s.elapse dt)

/-- INDEX_MARK (R3 to R6). -/
def execIndexMark (dt : Nat) (io : CountInputs) (s : State) : Host.Outcome State Fault Refusal :=
  .next ((s.elapse dt).indexMark io)

end Sys2Proof.Machine
end

