-- ==== Sys2Proof/WellFormed.lean ====
section
/-!
DEFINITION. Which command terms stand for an event of their own row.
-/

namespace Sys2Proof

/-- A byte address that names a word of the 64 KiB shared memory (R170). -/
def isWordAddress (addr : Nat) : Bool := decide (addr < 0x10000) && decide (addr % 4 = 0)

/-- A host write that has a row of its own in the table: to the schedule-notice word, to an attention word of the
host's, and ISSUED to the command state word (R171, R172, R178). -/
def hasOwnRow (addr : Nat) (value : Word) : Bool :=
  decide (addr = 0x01C) || decide (addr = 0x040) || (decide (0x064 ≤ addr) && decide (addr < 0x084)) ||
    (decide (addr = 0x020) && decide (value = 1))

/-- A command code outside 1 to 11 (R173). -/
def isUnknownCode (code : Word) : Bool := decide (code.toNat = 0) || decide (11 < code.toNat)

/-- The checks on a command term: an unknown command's code is no command's, and a host word write names a word of
the memory whose write belongs to no other row. Every other operand is admitted by its type. A term that names an event of
another row is not refused: it has that event's effect. -/
def WellFormed : Instr → Bool
  | .unknownCommand _ code => isUnknownCode code
  | .hostWordWrite _ addr value => isWordAddress addr && !hasOwnRow addr value
  | _ => true

end Sys2Proof
end

