-- ==== Sys2Proof/Machine/Commands.lean ====
section
/-!
DEFINITION. The meanings of what the host does: the command slot and its commands (R34, R54, R85, R157, R163 to R165,
R171 to R176), the schedule notice (R168), and word writes (R170, R177, R178).
-/

namespace Sys2Proof.Machine

/-! ### Host writes (R170) -/

/-- A host write of one word. The two readings that take time keep what it replaces (assumption log, entry 8). -/
def State.hostWrite (a : Nat) (w : Word) (s : State) : State :=
  ((s.updCache fun c =>
      { c with fetch := c.fetch.map fun f =>
          if f.waitUntil.isNone then { f with writes := logWrite s.mem a f.writes } else f }).updPort fun p =>
    { p with reading := p.reading.map (logWrite s.mem a) }).putWord a w

/-! ### The command slot (R172, R173) -/

/-- The results (R173). -/
inductive Result where
  | ok | busy | badArg | badConfig | faultPresent | unknownCommand
deriving DecidableEq, Repr

/-- The value of a result. -/
def Result.number : Result → Nat
  | .ok => 0
  | .busy => 1
  | .badArg => 2
  | .badConfig => 3
  | .faultPresent => 4
  | .unknownCommand => 5

/-- The answer of a command: its result and result detail. -/
structure Reply where
  result : Result
  detail : Word
deriving DecidableEq, Repr

/-- A result with detail 0. -/
def Reply.plain (r : Result) : Reply := ⟨r, 0⟩

/-- The host writes a command's code, its argument where it has one, and ISSUED (R172; assumption log, entry 4). -/
def State.hostIssue (code : Word) (arg1 : Option Word) (s : State) : State :=
  let s1 := s.hostWrite Header.commandCode code
  let s2 := match arg1 with
    | some w => s1.hostWrite Header.arg1 w
    | none => s1
  s2.hostWrite Header.commandState 1

/-- The slot takes the command: TAKEN is written (R172). -/
def State.slotTaken (s : State) : State := (s.putWord Header.commandState 2).updPort fun p => { p with taken := true }

/-- A command's execution ends: result detail, result, DONE, the slot IDLE, one notice (R172). -/
def State.slotDone (r : Reply) (s : State) : State :=
  ((((s.putWord Header.resultDetail r.detail).putNat Header.result r.result.number).putWord Header.commandState
    3).updPort fun p => { p with taken := false }).notify .commandDone

/-- A command executed whole within its arrival: TAKEN, its effect, its answer (R172). -/
def State.carryOut (run : State → State × Reply) (s : State) : State :=
  let r := run s.slotTaken
  r.1.slotDone r.2

/-- The row of a command executed whole within its arrival; while the slot is TAKEN the arrival is ignored (R172). -/
def State.command (code : Word) (arg1 : Option Word) (run : State → State × Reply) (s : State) : State :=
  let s1 := s.hostIssue code arg1
  if s1.port.taken then s1 else s1.carryOut run

/-! ### The mode commands (R157, R163 to R165) -/

/-- The line enters WARMING with the run-when-ready mark given (R157, R168). -/
def State.beginWarming (runWhenReady : Bool) (s : State) : State :=
  (s.changeMode .warming).updLine fun l => { l with runWhenReady := runWhenReady }

/-- WARM (R157). -/
def State.runWarm (s : State) : State × Reply :=
  if s.line.mode = .cold ∨ s.line.mode = .setback then
    if s.line.causes.any then (s, ⟨.faultPresent, s.line.causes.word⟩) else (s.beginWarming false, .plain .ok)
  else (s, .plain .busy)

/-- A mode command accepted in some modes (R157). -/
def State.modeCommand (accepted : LineMode → Bool) (mode : LineMode) (s : State) : State × Reply :=
  if accepted s.line.mode then (s.changeMode mode, .plain .ok) else (s, .plain .busy)

/-- START (R157). -/
def State.runStart : State → State × Reply := State.modeCommand (fun m => decide (m = .ready)) .running

/-- SETBACK (R157). -/
def State.runSetback : State → State × Reply := State.modeCommand (fun m => decide (m = .ready)) .setback

/-- COOL (R157). -/
def State.runCool : State → State × Reply :=
  State.modeCommand (fun m => decide (m = .ready) || decide (m = .setback) || decide (m = .warming)) .cold

/-- RUN_OUT (R157, R160). -/
def State.runRunOut (s : State) : State × Reply :=
  let r := s.modeCommand (fun m => decide (m = .running)) .emptying
  (r.1.emptyingCheck, r.2)

/-- HALT (R163). -/
def State.runHalt (s : State) : State × Reply :=
  if s.line.mode.halts then (s.raiseCause .hostHalt, .plain .ok) else (s, .plain .busy)

/-- A book at a RESUME under the open-time rule (R165). -/
def Book.openTime (point : DetectionPoint) (duration : Nat) (b : Book) : Book :=
  if b.glued = true ∧ b.nipped = false then
    b.spoilWith .haltSpoil point (BitVec.ofNat 32 (min 4294967295 duration)) false
  else b

/-- The open-time rule on every clamp (R165). -/
def State.openTimeRule (duration : Nat) (s : State) : State :=
  if s.config.settings.openTime ≤ duration then
    s.updCarousel fun c =>
      { c with places := Vector.ofFn fun p : Fin 24 =>
          { c.places[p] with slot := c.places[p].slot.mapBook (Book.openTime (carouselPoint p) duration) } }
  else s

/-- The halt duration in ms (R164; assumption log, entry 18). -/
def State.haltDuration (s : State) : Nat :=
  match s.line.haltStart with
  | some t => (s.now - t) / 1000
  | none => 0

/-- RESUME (R164). -/
def State.runResume (s : State) : State × Reply :=
  if s.line.mode ≠ .halted then (s, .plain .busy)
  else if s.line.causes.blocking then (s, ⟨.faultPresent, s.line.causes.word⟩)
  else
    let s1 := (s.clearCause .coverSequence).clearCause .hostHalt
    let s2 := (s1.openTimeRule s.haltDuration).updLine fun l => { l with haltStart := none }
    (s2.changeMode .running, .plain .ok)

/-! ### CLEAR_CLAMP, PURGE_CACHE, SET_CURSOR (R85, R54, R34) -/

/-- The carousel position of the clamp of a number (R73). -/
def State.clampPosition (s : State) (n : Nat) : Option (Fin 24) :=
  (List.finRange 24).find? fun p => decide (s.carousel.places[p].number = n)

/-- The clamp at a position is cleared (R85). -/
def State.clearPlace (p : Fin 24) (s : State) : State × Reply :=
  match s.clampAt p with
  | .holding b =>
    (((s.setClamp p .empty).freeLock b).postBook (b.spoilWith .removed (carouselPoint p) 0 false) .clearClamp, ⟨.ok, b.serial⟩)
  | _ => (s.setClamp p .empty, .plain .ok)

/-- CLEAR_CLAMP (R85). -/
def State.runClearClamp (arg1 : Word) (s : State) : State × Reply :=
  if 23 < arg1.toNat then (s, .plain .badArg)
  else if s.line.mode ≠ .halted then (s, .plain .busy)
  else
    match s.clampPosition arg1.toNat with
    | some p => s.clearPlace p
    | none => (s, .plain .ok)

/-- PURGE_CACHE (R54). -/
def State.runPurge (s : State) : State × Reply := (s.purge, .plain .ok)

/-- A code that is no command's (R173). -/
def State.runUnknown (s : State) : State × Reply := (s, .plain .unknownCommand)

/-- SET_CURSOR (R34). -/
def State.runSetCursor (arg1 : Word) (s : State) : State × Reply :=
  if 255 < arg1.toNat then (s, .plain .badArg)
  else if s.sched.held = [] ∧ s.sched.remakes = [] then (s.setCursor arg1.toNat, .plain .ok)
  else (s, .plain .busy)

/-! ### LOAD_CONFIG (R174 to R176) -/

/-- The acceptance conditions of LOAD_CONFIG (R175). -/
def State.loadAccepted (s : State) : Bool :=
  (decide (s.line.mode = .cold) || decide (s.line.mode = .ready) || decide (s.line.mode = .setback)) &&
    decide (s.inFlight = 0) && !s.anyUnknown

/-- LOAD_CONFIG taken by the slot: it ends BUSY or its reading begins (R175). -/
def State.loadTaken (s : State) : State :=
  if s.loadAccepted then s.slotTaken.updPort fun p => { p with reading := some [] }
  else s.slotTaken.slotDone (.plain .busy)

/-- The row of LOAD_CONFIG; while the slot is TAKEN the arrival is ignored (R172, R175). -/
def State.loadBegin (s : State) : State :=
  let s1 := s.hostIssue 1 none
  if s1.port.taken then s1 else s1.loadTaken

/-- The taken marks under a new configuration: those of values at or below the counter (R8). -/
def PhaseUnit.marksFor (c : Settings) (p : PhaseUnit) : PhaseUnit :=
  { p with
    startTaken := allWindows.filter fun w => decide ((c.window w).first ≤ p.counter)
    endTaken := allWindows.filter fun w => decide ((c.window w).last ≤ p.counter) }

/-- A record becomes the configuration in force (R8, R10, R11, R175). -/
def State.takeSettings (c : Settings) (s : State) : State :=
  let s1 := (s.updConfig fun _ => ⟨c, true⟩).putWord Header.source 1
  (s1.updPhase (PhaseUnit.marksFor c)).driveStart

/-- The record read is judged (R175, R176). -/
def State.judgeRecord (ws : List Word) (s : State) : State × Reply :=
  match firstBadField ws with
  | some i => (s, ⟨.badConfig, BitVec.ofNat 32 i⟩)
  | none => if s.loadAccepted then (s.takeSettings (settingsOfWords ws), .plain .ok) else (s, .plain .busy)

/-- The end of LOAD_CONFIG's reading (R175). -/
def State.loadEnd (lags : List Nat) (s : State) : State :=
  match s.port.reading with
  | none => s
  | some log =>
    let r := (s.updPort fun p => { p with reading := none }).judgeRecord (configReads s.mem log lags)
    r.1.slotDone r.2

/-! ### The schedule notice (R168) -/

/-- Line control's answer to a schedule-notice event (R168). -/
def State.notice (s : State) : State :=
  let w := s.word Header.wakeEnables
  match s.line.mode with
  | .ready => if w.getLsbD 0 then s.changeMode .running else s
  | .warming => if w.getLsbD 0 then s.updLine fun l => { l with runWhenReady := true } else s
  | .setback => if w.getLsbD 1 = true ∧ s.line.causes.any = false then s.beginWarming true else s
  | .cold => if w.getLsbD 2 = true ∧ s.line.causes.any = false then s.beginWarming true else s
  | _ => s

/-! ### An arrival by its code, and word writes (R171 to R173, R178) -/

/-- An arrival of ISSUED with the code and arg1 that stand in the slot's words: the code selects the command (R173); while
the slot is TAKEN the arrival is ignored (R172). -/
def State.arrival (code arg1 : Word) (s : State) : State :=
  if s.port.taken then s
  else
    match code.toNat with
    | 1 => s.loadTaken
    | 2 => s.carryOut State.runWarm
    | 3 => s.carryOut State.runStart
    | 4 => s.carryOut State.runRunOut
    | 5 => s.carryOut State.runResume
    | 6 => s.carryOut (State.runClearClamp arg1)
    | 7 => s.carryOut State.runPurge
    | 8 => s.carryOut (State.runSetCursor arg1)
    | 9 => s.carryOut State.runSetback
    | 10 => s.carryOut State.runCool
    | 11 => s.carryOut State.runHalt
    | _ => s.carryOut State.runUnknown

/-- Whether a write to an address ends with a judgment of the attention line: a count, a seen count, the enable word
(R178). -/
def isAttentionAddr (a : Nat) : Bool :=
  decide (a = Header.attentionEnables) || (List.range 8).any fun c => decide (a = Header.count c) || decide (a = Header.seen c)

/-- A host write of a word, with what the part does at it: an arrival at ISSUED in the command state word and at any value
in the schedule-notice word, a judgment of the attention line at its words, nothing at any other (R170 to R172, R178). -/
def State.wordWritten (a : Nat) (w : Word) (s : State) : State :=
  let s1 := s.hostWrite a w
  if a = Header.scheduleNotice then s1.notice
  else if a = Header.commandState ∧ w = 1 then s1.arrival (s1.word Header.commandCode) (s1.word Header.arg1)
  else if isAttentionAddr a then s1.judgeAttention
  else s1

/-! ### Meanings -/

/-- SCHEDULE_NOTICE (R168, R171). -/
def execScheduleNotice (dt : Nat) (value : Word) (s : State) : Host.Outcome State Fault Refusal :=
  .next ((s.elapse dt).hostWrite Header.scheduleNotice value).notice

/-- LOAD_CONFIG (R175). -/
def execLoadConfig (dt : Nat) (s : State) : Host.Outcome State Fault Refusal := .next (s.elapse dt).loadBegin

/-- LOAD_CONFIG_READ_END (R175, R176). -/
def execLoadConfigReadEnd (dt : Nat) (lags : List Nat) (s : State) : Host.Outcome State Fault Refusal :=
  .next ((s.elapse dt).loadEnd lags)

/-- WARM (R157). -/
def execWarm (dt : Nat) (s : State) : Host.Outcome State Fault Refusal :=
  .next ((s.elapse dt).command 2 none State.runWarm)

/-- START (R157). -/
def execStart (dt : Nat) (s : State) : Host.Outcome State Fault Refusal :=
  .next ((s.elapse dt).command 3 none State.runStart)

/-- RUN_OUT (R157, R160). -/
def execRunOut (dt : Nat) (s : State) : Host.Outcome State Fault Refusal :=
  .next ((s.elapse dt).command 4 none State.runRunOut)

/-- RESUME (R164, R165). -/
def execResume (dt : Nat) (s : State) : Host.Outcome State Fault Refusal :=
  .next ((s.elapse dt).command 5 none State.runResume)

/-- CLEAR_CLAMP (R85). -/
def execClearClamp (dt : Nat) (arg1 : Word) (s : State) : Host.Outcome State Fault Refusal :=
  .next ((s.elapse dt).command 6 (some arg1) (State.runClearClamp arg1))

/-- PURGE_CACHE (R54). -/
def execPurgeCache (dt : Nat) (s : State) : Host.Outcome State Fault Refusal :=
  .next ((s.elapse dt).command 7 none State.runPurge)

/-- SET_CURSOR (R34). -/
def execSetCursor (dt : Nat) (arg1 : Word) (s : State) : Host.Outcome State Fault Refusal :=
  .next ((s.elapse dt).command 8 (some arg1) (State.runSetCursor arg1))

/-- SETBACK (R157). -/
def execSetback (dt : Nat) (s : State) : Host.Outcome State Fault Refusal :=
  .next ((s.elapse dt).command 9 none State.runSetback)

/-- COOL (R157). -/
def execCool (dt : Nat) (s : State) : Host.Outcome State Fault Refusal :=
  .next ((s.elapse dt).command 10 none State.runCool)

/-- HALT (R163). -/
def execHalt (dt : Nat) (s : State) : Host.Outcome State Fault Refusal :=
  .next ((s.elapse dt).command 11 none State.runHalt)

/-- UNKNOWN_COMMAND (R172, R173): the host writes the code and ISSUED, and the code selects what the part does. A code
outside 1 to 11 is answered UNKNOWN_COMMAND; one of 1 to 11 is that command's, with arg1 as it stands (assumption log,
entry 5). -/
def execUnknownCommand (dt : Nat) (code : Word) (s : State) : Host.Outcome State Fault Refusal :=
  .next (((s.elapse dt).hostIssue code none).arrival code (s.word Header.arg1))

/-- The address of an attention word of the host's. -/
def attentionAddr : AttentionWord → Nat
  | .enables => Header.attentionEnables
  | .seen c => Header.seen c

/-- ATTENTION_WRITE (R177, R178). -/
def execAttentionWrite (dt : Nat) (word : AttentionWord) (value : Word) (s : State) : Host.Outcome State Fault Refusal :=
  .next ((s.elapse dt).hostWrite (attentionAddr word) value).judgeAttention

/-- HOST_WORD_WRITE (R170 to R172, R178): any word of the memory; a write that has a row of its own has that row's effect
(assumption log, entry 5). -/
def execHostWordWrite (dt : Nat) (addr : Nat) (value : Word) (s : State) : Host.Outcome State Fault Refusal :=
  if Memory.size ≤ addr then .fault .noSuchAddress
  else if addr % 4 ≠ 0 then .fault .notAWord
  else .next ((s.elapse dt).wordWritten addr value)

end Sys2Proof.Machine
end

