-- ==== Sys2Proof/Machine/Inputs.lean ====
section
/-!
DEFINITION. The meanings of the inputs from the machine and the operator: pockets, pump, miller, scorer, magazines,
knives, beam, emergency stop, guard and start key.
-/

namespace Sys2Proof.Machine

/-! ### Pockets (R62, R67) -/

/-- A code read is taken during a feed in progress, and ignored otherwise (R62). -/
def Pocket.takeCode (code : Word) (p : Pocket) : Pocket := if p.feed.isSome then { p with code := some code } else p

/-- The miss counter is cleared and the pocket is ACTIVE (R67). -/
def Pocket.reload (p : Pocket) : Pocket := { p with misses := 0, starved := false }

/-- One pocket is changed. -/
def State.modPocket (k : Fin 16) (f : Pocket → Pocket) (s : State) : State :=
  s.updGathering fun g => { g with pockets := g.pockets.set k (f g.pockets[k]) }

/-- POCKET_CODE_REPORT (R62). -/
def execPocketCodeReport (dt : Nat) (pocket : Fin 16) (code : Word) (s : State) : Host.Outcome State Fault Refusal :=
  .next ((s.elapse dt).modPocket pocket (Pocket.takeCode code))

/-- POCKET_RELOADED (R67). -/
def execPocketReloaded (dt : Nat) (pocket : Fin 16) (s : State) : Host.Outcome State Fault Refusal :=
  .next ((s.elapse dt).modPocket pocket Pocket.reload)

/-! ### Pump, miller and scorer -/

/-- GLUE_PUMP_PULSE (R116): counted while the spine valve is open, held at 65,535. -/
def execGluePumpPulse (dt : Nat) (s : State) : Host.Outcome State Fault Refusal :=
  .next ((s.elapse dt).updGlue fun g =>
    { g with spine := if g.spine.isOpen then { g.spine with flow := min 65535 (g.spine.flow + 1) } else g.spine })

/-- MILL_MOTION_COMPLETE (R106). -/
def execMillMotionComplete (dt : Nat) (s : State) : Host.Outcome State Fault Refusal :=
  .next ((s.elapse dt).updMiller fun m => { m with drive := m.drive.report })

/-- SPINDLE_LOAD_PULSE (R108): counted while integrating, held at 65,535. -/
def execSpindleLoadPulse (dt : Nat) (s : State) : Host.Outcome State Fault Refusal :=
  .next ((s.elapse dt).updMiller fun m => if m.integrating then { m with load := min 65535 (m.load + 1) } else m)

/-- SCORER_MOTION_COMPLETE (R121). -/
def execScorerMotionComplete (dt : Nat) (s : State) : Host.Outcome State Fault Refusal :=
  .next ((s.elapse dt).updCover fun c => { c with scorer := c.scorer.report })

/-! ### Magazines (R120) -/

/-- The cover station with a magazine's state. -/
def CoverStation.setMagazine (m : Magazine) (empty : Bool) (c : CoverStation) : CoverStation :=
  match m with
  | .a => { c with emptyA := empty }
  | .b => { c with emptyB := empty }

/-- The pins with a magazine sensor's level. -/
def Pins.setMagazine (m : Magazine) (empty : Bool) (p : Pins) : Pins :=
  match m with
  | .a => { p with emptyA := empty }
  | .b => { p with emptyB := empty }

/-- A magazine sensor comes to a level: the state follows, one notice at each going EMPTY (R120). -/
def State.magazineLevel (m : Magazine) (empty : Bool) (s : State) : State :=
  let s1 := (s.updPins (Pins.setMagazine m empty)).updCover (CoverStation.setMagazine m empty)
  if empty = true ∧ s.magazineEmpty m = false then s1.notify .magazineEmpty else s1

/-- MAGAZINE_SENSOR_CHANGE (R120). -/
def execMagazineSensorChange (dt : Nat) (magazine : Magazine) (empty : Bool) (s : State) : Host.Outcome State Fault Refusal :=
  .next ((s.elapse dt).magazineLevel magazine empty)

/-! ### Knives and beam (R130, R135, R139) -/

/-- A knife drive report, taken first by the drive; while the drive is IDLE it is ignored (R130, R135). -/
def State.knifeReport (s : State) : State :=
  if s.trim.knives.target.isSome then (s.updTrim fun t => { t with knives := t.knives.report }).afterReport else s

/-- KNIFE_POSITIONING_REPORT (R130, R135, R139). -/
def execKnifePositioningReport (dt : Nat) (s : State) : Host.Outcome State Fault Refusal := .next (s.elapse dt).knifeReport

/-- CUT_COMPLETE_INPUT (R139): the beam comes to its top position. -/
def execCutCompleteInput (dt : Nat) (s : State) : Host.Outcome State Fault Refusal := .next (s.elapse dt).beamTop

/-! ### Emergency stop and guard (R140, R158, R161) -/

/-- The trimmer's answer to the first of ESTOP and GUARD: `already` says that the other was present (R140). The
records posted may end EMPTYING (R160). -/
def State.guardTrimmer (already : Bool) (s : State) : State := if already then s else s.abortTrimmer.emptyingCheck

/-- An inch in progress stops (R158). -/
def LineControl.stopInch (l : LineControl) : LineControl := if l.drive = .inching then { l with drive := .stopped } else l

/-- ESTOP or GUARD becomes present: it reaches Line control and the trimmer, in the order of the operand (assumption
log, entry 9). -/
def State.guardSet (c : Cause) (abortFirst : Bool) (s : State) : State :=
  let already := s.line.causes.guarded
  if abortFirst then (s.guardTrimmer already).raiseCause c else (s.raiseCause c).guardTrimmer already

/-- ESTOP or GUARD goes: the last of the two to go lets the trimmer take (R132, R161). -/
def State.guardCleared (c : Cause) (s : State) : State := (s.clearCause c).testTake

/-- The emergency-stop input comes to a level. -/
def State.estopLevel (active abortFirst : Bool) (s : State) : State :=
  if active = s.pins.estop then s
  else
    let s1 := s.updPins fun p => { p with estop := active }
    if active then (s1.guardSet .estop abortFirst).updLine LineControl.stopInch else s1.guardCleared .estop

/-- EMERGENCY_STOP_INPUT (R140, R158, R161). -/
def execEmergencyStopInput (dt : Nat) (active abortFirst : Bool) (s : State) : Host.Outcome State Fault Refusal :=
  .next ((s.elapse dt).estopLevel active abortFirst)

/-- The guard input comes to a level. -/
def State.guardLevel (opened abortFirst : Bool) (s : State) : State :=
  if opened = s.pins.guardOpen then s
  else
    let s1 := s.updPins fun p => { p with guardOpen := opened }
    if opened then s1.guardSet .guardOpen abortFirst else s1.guardCleared .guardOpen

/-- GUARD_INPUT (R140, R161). -/
def execGuardInput (dt : Nat) (opened abortFirst : Bool) (s : State) : Host.Outcome State Fault Refusal :=
  .next ((s.elapse dt).guardLevel opened abortFirst)

/-! ### The start key (R158) -/

/-- An inch begins: a drive start (R10, R158). -/
def State.beginInch (s : State) : State := (s.updLine fun l => { l with drive := .inching }).driveStart

/-- A press of the start key acts by the mode. -/
def State.keyPress (s : State) : State :=
  if s.pins.startKey then s
  else
    let s1 := s.updPins fun p => { p with startKey := true }
    match s.line.mode with
    | .ready => s1.changeMode .running
    | .halted => if s.line.causes.estop then s1 else s1.beginInch
    | _ => s1

/-- START_KEY_PRESS (R158). -/
def execStartKeyPress (dt : Nat) (s : State) : Host.Outcome State Fault Refusal := .next (s.elapse dt).keyPress

/-- START_KEY_RELEASE (R158): an inch in progress ends. -/
def execStartKeyRelease (dt : Nat) (s : State) : Host.Outcome State Fault Refusal :=
  .next (((s.elapse dt).updPins fun p => { p with startKey := false }).updLine LineControl.stopInch)

end Sys2Proof.Machine
end

