-- ==== Sys2Proof/Machine/Resets.lean ====
section
/-!
DEFINITION. The meanings of the two resets (R22, R180).
-/

namespace Sys2Proof.Machine

/-- The pins as a power-on reset finds them; the start key is read by no reset (R120, R155). -/
def Pins.atPowerOn (levels : InputLevels) (key : Bool) : Pins := ⟨levels.estop, levels.guardOpen, levels.emptyA, levels.emptyB, key⟩

/-- POWER_ON_RESET (R180): the shared memory is zeroed, every block takes its reset state, the header is written. -/
def execPowerOnReset (dt : Nat) (levels : InputLevels) (s : State) : Host.Outcome State Fault Refusal :=
  .next (State.afterReset (s.now + dt) (Pins.atPowerOn levels s.pins.startKey) [] s.pending)

/-- A ticket found ACTIVE or DRAINING is written FAILED with end reason RESET and finish number 0 (R22), in the order of
R19. -/
def failTicket (m : Memory) (i : Nat) : Memory :=
  match Stage.ofWord (m.ticket i .stage) with
  | .active => m.writeWords (failWords i)
  | .draining => m.writeWords (failWords i)
  | _ => m
where
  failWords (i : Nat) : List (Nat × Word) :=
    [(ticketAddr i .endReason, BitVec.ofNat 32 EndReason.reset.number), (ticketAddr i .finish, 0),
     (ticketAddr i .stage, Stage.failed.word)]

/-- The scan of the ticket table at a controller reset (R22). -/
def scanTickets (m : Memory) : Memory := (List.range 256).foldl failTicket m

/-- CONTROLLER_RESET (R22, R180). -/
def execControllerReset (dt : Nat) (s : State) : Host.Outcome State Fault Refusal :=
  .next (State.afterReset (s.now + dt) s.pins (scanTickets s.mem) s.pending)

end Sys2Proof.Machine
end

