-- ==== Sys2Proof/Machine/Timers.lean ====
section
/-!
DEFINITION. The meanings of the card's own timers, of the converter's completions and of the fetch engine's events. A
timer's event has its effect when the timer runs and its time has come; before that, only time passes (assumption log,
entry 2).
-/

namespace Sys2Proof.Machine

/-- Whether a timer runs and its time has come. -/
def due (now : Nat) : Option Nat → Bool
  | some t => decide (t ≤ now)
  | none => false

/-! ### The fetch engine (R46, R50) -/

/-- The end of an attempt's reads, when the engine is READING (R46). -/
def State.attemptEnd (lags : List Nat) (s : State) : State :=
  match s.cache.fetch with
  | some f => if f.waitUntil.isNone then s.endAttempt f (attemptReads s.mem f.writes f.job lags) else s
  | none => s

/-- FETCH_ATTEMPT_END (R46, R48, R49). -/
def execFetchAttemptEnd (dt : Nat) (lags : List Nat) (s : State) : Host.Outcome State Fault Refusal :=
  .next ((s.elapse dt).attemptEnd lags)

/-- The 1 ms wait is over (R46). -/
def State.waitExpiry (s : State) : State :=
  match s.cache.fetch with
  | some f => if due s.now f.waitUntil then s.setFetch (some f.retry) else s
  | none => s

/-- FETCH_WAIT_EXPIRY (R46). -/
def execFetchWaitExpiry (dt : Nat) (s : State) : Host.Outcome State Fault Refusal := .next (s.elapse dt).waitExpiry

/-- The limit of a fetch, 500 ms in µs (R50). -/
def fetchLimit : Nat := 500000

/-- The limit of a fetch is reached (R50). -/
def State.fetchExpiry (s : State) : State :=
  match s.cache.fetch with
  | some f => if f.startedAt + fetchLimit ≤ s.now then s.timeoutFetch f else s
  | none => s

/-- FETCH_TIMEOUT (R50). -/
def execFetchTimeout (dt : Nat) (s : State) : Host.Outcome State Fault Refusal := .next (s.elapse dt).fetchExpiry

/-! ### The converter and the glue pot (R89 to R91, R110 to R114, R159) -/

/-- A reading joins the gauge sequence; a FAULT adds nothing (R91). -/
def GaugeSeq.take (result : Option (BitVec 10)) (q : GaugeSeq) : GaugeSeq :=
  match result with
  | some r => ⟨q.m + 1, q.sum + r.toNat⟩
  | none => q

/-- The pot temperature of a reading (R110). -/
def potTemperature (r : BitVec 10) : Nat := r.toNat * 3000 / 1024

/-- The setpoint a line mode calls for (R112). -/
def setpoint (c : Settings) : LineMode → Option Nat
  | .cold => none
  | .setback => some c.setbackSet
  | _ => some c.workingSet

/-- The duty for a setpoint and a temperature: floor((sp − t) × gain / 16) clamped to 0..255 (R112). -/
def dutyFor (c : Settings) (sp t : Nat) : Nat := min 255 ((sp - t) * c.gain / 16)

/-- The computed duty (R112): 0 without a setpoint, without a temperature, and while OVERHEAT is present. -/
def computedDuty (c : Settings) (mode : LineMode) (overheat : Bool) (t : Option Nat) : Nat :=
  match setpoint c mode, t with
  | some sp, some t => if overheat then 0 else dutyFor c sp t
  | _, _ => 0

/-- The band judgement (R111). -/
def bandJudgement (c : Settings) (t : Option Nat) : Bool :=
  match t with
  | some t => decide (gap t c.workingSet ≤ c.band)
  | none => false

/-- OVERHEAT is judged, and a change of it reported (R113). -/
def State.judgeOverheat (t : Option Nat) (s : State) : State :=
  match t with
  | none => s
  | some t =>
    if s.pot.overheat = false ∧ s.config.settings.workingSet + 300 < t then
      (s.updPot fun p => { p with overheat := true, applied := 0, heaterOn := false }).raiseCause .overheat
    else if s.pot.overheat = true ∧ t ≤ s.config.settings.workingSet then
      (s.updPot fun p => { p with overheat := false }).clearCause .overheat
    else s

/-- The stable timer after a band judgement in WARMING (R159). -/
def State.judgeStable (s : State) : State :=
  if s.line.mode = .warming then
    s.updLine fun l =>
      { l with stableAt :=
          if s.pot.inBand then
            match l.stableAt with
            | some t => some t
            | none => some (s.now + s.config.settings.stableTime * 1000000)
          else none }
  else s

/-- The glue pot takes a temperature result: temperature, band, duty, OVERHEAT, stable timer (R110 to R113, R159). -/
def State.takeTemperature (result : Option (BitVec 10)) (s : State) : State :=
  let t := result.map potTemperature
  let s1 := s.updPot fun p =>
    { p with
      temp := t
      inBand := bandJudgement s.config.settings t
      computed := computedDuty s.config.settings s.line.mode p.overheat t }
  (s1.judgeOverheat t).judgeStable

/-- A conversion ends: its result is handed on, then the next conversion is chosen (R90). -/
def State.conversionEnd (result : Option (BitVec 10)) (s : State) : State :=
  let c := s.format.converter
  if c.doing ≠ .idle ∧ c.endsAt ≤ s.now then
    let s1 :=
      match c.doing with
      | .gauge => if c.kept then s.updFormat fun f => { f with gauge := f.gauge.map (GaugeSeq.take result) } else s
      | .temp => s.takeTemperature result
      | .idle => s
    s1.updFormat fun f => { f with converter := f.converter.chooseNext s.now }
  else s

/-- CONVERSION_COMPLETE (R89, R90, R91, R110). -/
def execConversionComplete (dt : Nat) (result : Option (BitVec 10)) (s : State) : Host.Outcome State Fault Refusal :=
  .next ((s.elapse dt).conversionEnd result)

/-- The 100 ms conversion timer expires (R110). -/
def State.temperatureTimer (s : State) : State :=
  if s.pot.conversionAt ≤ s.now then
    (s.updPot fun p => { p with conversionAt := p.conversionAt + 100000 }).updFormat fun f =>
      { f with converter := f.converter.tempRequest s.now }
  else s

/-- TEMPERATURE_TIMER_EXPIRY (R110). -/
def execTemperatureTimerExpiry (dt : Nat) (s : State) : Host.Outcome State Fault Refusal := .next (s.elapse dt).temperatureTimer

/-- The length of a heater period, 1 s in µs (R114). -/
def heaterPeriod : Nat := 1000000

/-- The duty applied from the start of a period (R114). -/
def periodDuty (mode : LineMode) (p : GluePot) : Nat := if mode = .cold ∨ p.overheat = true then 0 else p.computed

/-- A heater period starts (R114). -/
def State.heaterStart (s : State) : State :=
  if s.pot.periodStart + heaterPeriod ≤ s.now then
    s.updPot fun p =>
      { p with
        periodStart := p.periodStart + heaterPeriod
        applied := periodDuty s.line.mode p
        heaterOn := decide (periodDuty s.line.mode p ≠ 0) }
  else s

/-- HEATER_PERIOD_START (R114). -/
def execHeaterPeriodStart (dt : Nat) (s : State) : Host.Outcome State Fault Refusal := .next (s.elapse dt).heaterStart

/-- The heater's on-time in the period is over: applied duty 256ths of the period (R114). -/
def State.heaterEnd (s : State) : State :=
  if s.pot.applied * heaterPeriod ≤ (s.now - s.pot.periodStart) * 256 then s.updPot fun p => { p with heaterOn := false } else s

/-- HEATER_ON_TIME_END (R114). -/
def execHeaterOnTimeEnd (dt : Nat) (s : State) : Host.Outcome State Fault Refusal := .next (s.elapse dt).heaterEnd

/-! ### The cooling queue and the trimmer (R128, R136, R137) -/

/-- The set-time timer of a queue entry expires (R128, R132). -/
def State.setTimeExpiry (place : Fin 12) (s : State) : State :=
  match s.trim.queue[place.val]? with
  | some e =>
    if e.eligible = false ∧ e.expiresAt ≤ s.now then
      (s.updTrim fun t => { t with queue := t.queue.set place.val { e with eligible := true } }).testTake
    else s
  | none => s

/-- SET_TIME_EXPIRY (R128, R132). -/
def execSetTimeExpiry (dt : Nat) (place : Fin 12) (s : State) : Host.Outcome State Fault Refusal :=
  .next ((s.elapse dt).setTimeExpiry place)

/-- The positioning limit expires (R136). -/
def State.limitExpiry (s : State) : State :=
  if s.trim.phase = .positioning ∧ due s.now s.trim.limitAt = true then s.trimFault .positioning else s

/-- POSITIONING_LIMIT_EXPIRY (R136). -/
def execPositioningLimitExpiry (dt : Nat) (s : State) : Host.Outcome State Fault Refusal := .next (s.elapse dt).limitExpiry

/-- The cut timer expires, and the beam is read (R137). -/
def State.cutExpiry (beamAtTop : Bool) (s : State) : State :=
  if s.trim.phase = .cutting ∧ due s.now s.trim.cutAt = true then
    if beamAtTop then s.cutComplete else s.trimFault .stroke
  else s

/-- CUT_TIMER_EXPIRY (R137, R138). -/
def execCutTimerExpiry (dt : Nat) (beamAtTop : Bool) (s : State) : Host.Outcome State Fault Refusal :=
  .next ((s.elapse dt).cutExpiry beamAtTop)

/-! ### Line control's timers (R159, R167) -/

/-- The stable timer expires: the warming ends (R159). -/
def State.stableExpiry (s : State) : State :=
  if s.line.mode = .warming ∧ due s.now s.line.stableAt = true then
    s.changeMode (if s.line.runWhenReady then .running else .ready)
  else s

/-- STABLE_TIMER_EXPIRY (R159). -/
def execStableTimerExpiry (dt : Nat) (s : State) : Host.Outcome State Fault Refusal := .next (s.elapse dt).stableExpiry

/-- The rest timer expires: level 2 or level 3 (R167). -/
def State.restExpiry (s : State) : State :=
  if due s.now s.line.restAt then
    match s.line.mode with
    | .ready => s.changeMode .setback
    | .setback => s.changeMode .cold
    | _ => s
  else s

/-- REST_TIMER_EXPIRY (R167). -/
def execRestTimerExpiry (dt : Nat) (s : State) : Host.Outcome State Fault Refusal := .next (s.elapse dt).restExpiry

end Sys2Proof.Machine
end

