-- ==== Sys2Proof/Machine/Dispatch.lean ====
section
/-!
DEFINITION. The meaning of each command: one arm for each row of the table.
-/

namespace Sys2Proof.Machine

/-- The effect of a command on everything but the queue of commands. -/
def exec (i : Instr) (s : State) : Host.Outcome State Fault Refusal :=
  match i with
  | .powerOnReset dt levels => Sys2Proof.Machine.execPowerOnReset dt levels s
  | .controllerReset dt => Sys2Proof.Machine.execControllerReset dt s
  | .forwardEncoderCount dt io => Sys2Proof.Machine.execForwardEncoderCount dt io s
  | .reverseEncoderCount dt => Sys2Proof.Machine.execReverseEncoderCount dt s
  | .indexMark dt io => Sys2Proof.Machine.execIndexMark dt io s
  | .pocketCodeReport dt pocket code => Sys2Proof.Machine.execPocketCodeReport dt pocket code s
  | .pocketReloaded dt pocket => Sys2Proof.Machine.execPocketReloaded dt pocket s
  | .gluePumpPulse dt => Sys2Proof.Machine.execGluePumpPulse dt s
  | .fetchAttemptEnd dt lags => Sys2Proof.Machine.execFetchAttemptEnd dt lags s
  | .fetchWaitExpiry dt => Sys2Proof.Machine.execFetchWaitExpiry dt s
  | .fetchTimeout dt => Sys2Proof.Machine.execFetchTimeout dt s
  | .conversionComplete dt result => Sys2Proof.Machine.execConversionComplete dt result s
  | .temperatureTimerExpiry dt => Sys2Proof.Machine.execTemperatureTimerExpiry dt s
  | .heaterPeriodStart dt => Sys2Proof.Machine.execHeaterPeriodStart dt s
  | .heaterOnTimeEnd dt => Sys2Proof.Machine.execHeaterOnTimeEnd dt s
  | .millMotionComplete dt => Sys2Proof.Machine.execMillMotionComplete dt s
  | .spindleLoadPulse dt => Sys2Proof.Machine.execSpindleLoadPulse dt s
  | .scorerMotionComplete dt => Sys2Proof.Machine.execScorerMotionComplete dt s
  | .magazineSensorChange dt magazine empty => Sys2Proof.Machine.execMagazineSensorChange dt magazine empty s
  | .setTimeExpiry dt place => Sys2Proof.Machine.execSetTimeExpiry dt place s
  | .knifePositioningReport dt => Sys2Proof.Machine.execKnifePositioningReport dt s
  | .positioningLimitExpiry dt => Sys2Proof.Machine.execPositioningLimitExpiry dt s
  | .cutTimerExpiry dt beamAtTop => Sys2Proof.Machine.execCutTimerExpiry dt beamAtTop s
  | .cutCompleteInput dt => Sys2Proof.Machine.execCutCompleteInput dt s
  | .emergencyStopInput dt active abortFirst => Sys2Proof.Machine.execEmergencyStopInput dt active abortFirst s
  | .guardInput dt opened abortFirst => Sys2Proof.Machine.execGuardInput dt opened abortFirst s
  | .startKeyPress dt => Sys2Proof.Machine.execStartKeyPress dt s
  | .startKeyRelease dt => Sys2Proof.Machine.execStartKeyRelease dt s
  | .stableTimerExpiry dt => Sys2Proof.Machine.execStableTimerExpiry dt s
  | .restTimerExpiry dt => Sys2Proof.Machine.execRestTimerExpiry dt s
  | .scheduleNotice dt value => Sys2Proof.Machine.execScheduleNotice dt value s
  | .loadConfig dt => Sys2Proof.Machine.execLoadConfig dt s
  | .loadConfigReadEnd dt lags => Sys2Proof.Machine.execLoadConfigReadEnd dt lags s
  | .warm dt => Sys2Proof.Machine.execWarm dt s
  | .start dt => Sys2Proof.Machine.execStart dt s
  | .runOut dt => Sys2Proof.Machine.execRunOut dt s
  | .resume dt => Sys2Proof.Machine.execResume dt s
  | .clearClamp dt arg1 => Sys2Proof.Machine.execClearClamp dt arg1 s
  | .purgeCache dt => Sys2Proof.Machine.execPurgeCache dt s
  | .setCursor dt arg1 => Sys2Proof.Machine.execSetCursor dt arg1 s
  | .setback dt => Sys2Proof.Machine.execSetback dt s
  | .cool dt => Sys2Proof.Machine.execCool dt s
  | .halt dt => Sys2Proof.Machine.execHalt dt s
  | .unknownCommand dt code => Sys2Proof.Machine.execUnknownCommand dt code s
  | .attentionWrite dt word value => Sys2Proof.Machine.execAttentionWrite dt word value s
  | .hostWordWrite dt addr value => Sys2Proof.Machine.execHostWordWrite dt addr value s

end Sys2Proof.Machine
end

