-- ==== Sys2Proof/Machine/Step.lean ====
section
/-!
DEFINITION. One step of the card: the command at the front of the queue.
-/

namespace Sys2Proof.Machine

/-- One step: the command that has waited longest is taken and run on the state with the rest of the queue; with no
command waiting the card stands as it is (assumption log, entry 3). -/
def step (s : State) : Host.Outcome State Fault Refusal :=
  match s.pending with
  | [] => .next s
  | c :: rest => exec c { s with pending := rest }

/-- The state with the command a word spells at the front of its queue; no word spells one (assumption log, entry
24). -/
def State.withFetchWord (s : State) (nbits w : Nat) : State :=
  match decodeTableWord nbits w with
  | some c => { s with pending := c :: s.pending }
  | none => s

end Sys2Proof.Machine
end

