-- ==== Sys2Proof/Safety.lean ====
section
/-!
DEFINITION. The words in which statements about the card are made: what a step leaves as it was, how the command slot
answers, and the invariants of every step.
-/

namespace Sys2Proof.Machine

/-! ### What stays as it was -/

/-- The parts of the state beside the shared memory. -/
inductive Part where
  | now | phase | stations | sched | cache | gathering | carousel | format | miller | pot | glue | cover | trim | line
  | port | config | pins | pending
deriving DecidableEq, Repr

/-- A part is the same in two states. -/
def Part.same (s t : State) : Part → Prop
  | .now => t.now = s.now
  | .phase => t.phase = s.phase
  | .stations => t.stations = s.stations
  | .sched => t.sched = s.sched
  | .cache => t.cache = s.cache
  | .gathering => t.gathering = s.gathering
  | .carousel => t.carousel = s.carousel
  | .format => t.format = s.format
  | .miller => t.miller = s.miller
  | .pot => t.pot = s.pot
  | .glue => t.glue = s.glue
  | .cover => t.cover = s.cover
  | .trim => t.trim = s.trim
  | .line => t.line = s.line
  | .port => t.port = s.port
  | .config => t.config = s.config
  | .pins => t.pins = s.pins
  | .pending => t.pending = s.pending

/-- Every part not listed is the same. -/
def SameBut (ps : List Part) (s t : State) : Prop := ∀ p : Part, p ∉ ps → p.same s t

/-- Every byte outside the listed words reads as before. -/
def BytesBut (words : List Nat) (s t : State) : Prop :=
  ∀ a, (∀ w ∈ words, a < w ∨ w + 4 ≤ a) → t.mem.read a = s.mem.read a

/-- The time that passes before a command has passed. -/
def Later (dt : Nat) (s t : State) : Prop := t.now = s.now + dt

/-- Every book waiting for the fetch into an entry is marked UNFORMATTED unless it already carries a spoil code, FAILED,
and without its lock; every other book, and the pockets, gates and clamp numbers, are as before (R49, R50). The mark's detail 0 before the posting
is the model's choice (assumption log, entry 44). -/
def UnformattedWaiting (e : Fin 16) (s t : State) : Prop :=
  (∀ p : Fin 18, t.cell p =
    match s.cell p with
    | .holding b =>
      if b.entry = some e ∧ b.format = .pending then
        .holding
          { b with
            format := .failed
            entry := none
            spoil := if b.spoil = none then some ⟨.unformatted, ⟨false, p.val⟩, 0, false⟩ else b.spoil }
      else s.cell p
    | _ => s.cell p) ∧
  (∀ p : Fin 24, t.clampAt p =
    match s.clampAt p with
    | .holding b =>
      if b.entry = some e ∧ b.format = .pending then
        .holding
          { b with
            format := .failed
            entry := none
            spoil := if b.spoil = none then some ⟨.unformatted, ⟨true, p.val⟩, 0, false⟩ else b.spoil }
      else s.clampAt p
    | _ => s.clampAt p) ∧
  t.gathering.pockets = s.gathering.pockets ∧
  (∀ p : Fin 24, t.carousel.places[p].number = s.carousel.places[p].number) ∧
  t.carousel = { s.carousel with places := t.carousel.places }

/-! ### The command slot -/

/-- The words a command and its answer write in the slot, and the count of COMMAND_DONE (R172). -/
def slotWords : List Nat :=
  [Header.commandState, Header.commandCode, Header.result, Header.resultDetail, Header.count 0]

/-- The slot words of a command that carries arg1. -/
def slotWordsArg : List Nat := Header.arg1 :: slotWords

/-- The snapshot words and their sequence word (R179). -/
def snapshotArea : List Nat :=
  [Header.snapSeq, Header.cycleCount, Header.lastCycle, Header.inFlight, Header.queue, Header.trimmer,
   Header.temperature, Header.duty, Header.starved, Header.magazines, Header.wear]

/-- The words a mode change can write: the mode, the counts of MODE_CHANGED and HALTED, the snapshot (R156). -/
def modeWords : List Nat := Header.mode :: Header.count 3 :: Header.count 4 :: snapshotArea

/-- The code and the argument that a command issued through the slot writes there (R173). -/
def slotCommand : Instr → Option (Word × Option Word)
  | .loadConfig _ => some (1, none)
  | .warm _ => some (2, none)
  | .start _ => some (3, none)
  | .runOut _ => some (4, none)
  | .resume _ => some (5, none)
  | .clearClamp _ w => some (6, some w)
  | .purgeCache _ => some (7, none)
  | .setCursor _ w => some (8, some w)
  | .setback _ => some (9, none)
  | .cool _ => some (10, none)
  | .halt _ => some (11, none)
  | .unknownCommand _ w => some (w, none)
  | _ => none

/-- The row of the command that a code selects, with its argument (R173). -/
def commandRow (dt : Nat) (code arg1 : Word) : Instr :=
  match code.toNat with
  | 1 => .loadConfig dt
  | 2 => .warm dt
  | 3 => .start dt
  | 4 => .runOut dt
  | 5 => .resume dt
  | 6 => .clearClamp dt arg1
  | 7 => .purgeCache dt
  | 8 => .setCursor dt arg1
  | 9 => .setback dt
  | 10 => .cool dt
  | 11 => .halt dt
  | _ => .unknownCommand dt code

/-- A command has been answered: result detail, result and DONE in place, the slot IDLE (R172). -/
def Answered (t : State) (r : Result) (detail : Word) : Prop :=
  t.word Header.resultDetail = detail ∧ t.word Header.result = BitVec.ofNat 32 r.number ∧
    t.word Header.commandState = 3 ∧ t.port.taken = false

/-- The notices posted between two states: each count raised by so many, and the header word of a raised count holding
it (R177). -/
def Noticed (n : Fin 8 → Nat) (s t : State) : Prop :=
  ∀ c : Fin 8, t.port.counts[c] = s.port.counts[c] + BitVec.ofNat 32 (n c) ∧
    (n c ≠ 0 → t.word (Header.count c) = t.port.counts[c])

/-- One notice of one cause. -/
def oneNotice (c : Attention) : Fin 8 → Nat := fun d => if d = c.number then 1 else 0

/-- The attention line is asserted exactly when an enabled cause has a count different from its seen count (R178). -/
abbrev AttentionInv (s : State) : Prop := s.port.attention = attentionNews s.port.counts s.mem

/-! ### Changes of the line mode -/

/-- What a change of the line mode to `m` makes of the line, the drive and its speed reference, and the header (R10, R12,
R114, R156, R159, R167, R169), the time having come to that of `t`; a motion toward a changeover setting runs on, and a
pending changeover stays so outside the acting modes (R12, R16). That the heater output is off at once in COLD is the
model's reading of the applied duty of 0 (assumption log, entry 29). -/
def Entered (m : LineMode) (s t : State) : Prop :=
  t.line.mode = m ∧ t.word Header.mode = BitVec.ofNat 32 m.number ∧
    t.line.drive = (if m.acting then (if s.line.mode.acting then s.line.drive else .running) else .stopped) ∧
    t.line.reference =
      (if m.acting then (if s.line.mode.acting then s.line.reference else some s.config.settings.speed) else none) ∧
    t.line.restAt =
      (match m with
       | .ready => expiryAfter t.now s.config.settings.setbackDelay
       | .setback => expiryAfter t.now s.config.settings.coldDelay
       | _ => none) ∧
    t.line.stableAt =
      (if m = .warming ∧ s.pot.inBand = true then some (t.now + s.config.settings.stableTime * 1000000) else none) ∧
    t.line.idle = (if m = .running then 0 else s.line.idle) ∧
    (m.acting = true → s.line.mode.acting = false →
      t.phase.lastCycle = s.config.settings.startCycle ∧ t.phase.startMark = true ∧
        t.phase.comp = compFor s.config.settings.valveLead s.config.settings.startCycle) ∧
    (m.acting = false → s.line.mode.acting = true → t.stations.engaged = []) ∧
    (m = .cold → t.pot.applied = 0 ∧ t.pot.heaterOn = false) ∧
    (m.acting = false →
      t.miller.drive = s.miller.drive ∧ t.miller.pending = s.miller.pending ∧ t.cover.scorer = s.cover.scorer ∧
        t.cover.pending = s.cover.pending) ∧
    t.port.snapSeq = (if m.acting then s.port.snapSeq else s.port.snapSeq + 2)

/-- A drive at a changeover with a target, or with none (R105, R121): its next target while it moves, no motion where it
stands. -/
def Drive.toward {α : Type} [DecidableEq α] (target : Option α) (d : Drive α) : Drive α :=
  match target with
  | none => d
  | some k =>
    if d.target ≠ none then { d with next := some k }
    else if d.setting = some k then d
    else { d with target := some k }

/-- The values of the book without a spoil code in a clamp, if it holds one. -/
def Slot.goodValues : Slot → Option GaugeFormat
  | .holding b => if b.spoil = none then b.gauged else none
  | _ => none

/-- The pending changeovers of an entry to an acting mode (R16): the miller sets out toward the depth of the book at carousel
position 3 and the scorer toward the positions of the book at 8, none of them for no book, a spoiled one or, at 8, one
without a cover; and neither changeover is pending any more. -/
def PendingTaken (s t : State) : Prop :=
  t.miller =
      (if s.miller.pending then
        { s.miller with
          pending := false, drive := s.miller.drive.toward ((s.clampAt 3).goodValues.map (·.millDepth)) }
       else s.miller) ∧
    t.cover =
      (if s.cover.pending then
        { s.cover with
          pending := false
          scorer := s.cover.scorer.toward ((s.clampAt 8).goodValues.bind fun g => g.cover.map (·.scores)) }
       else s.cover)

/-- What a change of the line mode to `m` leaves as it was, and the changeovers of an entry to an acting mode (R16). -/
def ModeFrame (m : LineMode) (s t : State) : Prop :=
  SameBut [.now, .phase, .stations, .gathering, .carousel, .format, .miller, .pot, .glue, .cover, .line, .port] s t ∧
    t.gathering.cells = s.gathering.cells ∧ t.carousel.places = s.carousel.places ∧
    t.phase = { s.phase with lastCycle := t.phase.lastCycle, startMark := t.phase.startMark, comp := t.phase.comp } ∧
    ((m.acting = false ∨ s.line.mode.acting = true) → t.phase = s.phase) ∧
    ((m.acting = true ∨ s.line.mode.acting = false) →
      t.stations = s.stations ∧ t.gathering = s.gathering ∧ t.carousel = s.carousel ∧ t.format = s.format ∧ t.glue = s.glue) ∧
    (m.acting = s.line.mode.acting → t.miller = s.miller ∧ t.cover = s.cover) ∧
    (m.acting = true → s.line.mode.acting = false → PendingTaken s t) ∧
    t.miller.wear = s.miller.wear ∧ t.miller.armed = s.miller.armed ∧ t.cover.emptyA = s.cover.emptyA ∧
    t.cover.emptyB = s.cover.emptyB ∧ (m ≠ .cold → t.pot = s.pot) ∧
    t.pot = { s.pot with applied := t.pot.applied, heaterOn := t.pot.heaterOn } ∧ t.port.reading = s.port.reading

/-- A command is answered OK after one change of the line mode to `m`: the slot's and the mode's words, one notice of
COMMAND_DONE and one of MODE_CHANGED, and nothing else (R156, R157, R172). -/
def ModeCommandDone (m : LineMode) (s t : State) : Prop :=
  Entered m s t ∧ ModeFrame m s t ∧ Answered t .ok 0 ∧ Noticed (fun c => if c = 0 ∨ c = 3 then 1 else 0) s t ∧
    AttentionInv t ∧ BytesBut (slotWords ++ modeWords) s t

/-- A command is answered at once and changes nothing but the slot's words and the count of COMMAND_DONE (R172). -/
def OnlyAnswered (r : Result) (detail : Word) (s t : State) : Prop :=
  Answered t r detail ∧ Noticed (oneNotice .commandDone) s t ∧
    t.port = { s.port with taken := false, counts := t.port.counts, attention := t.port.attention } ∧
    SameBut [.now, .port] s t ∧ BytesBut slotWordsArg s t

/-! ### Events of the phase counter -/

/-- The next forward count takes one event and no other (R7, R116). -/
abbrev OnlyEvent (e : PhaseEvent) (s : State) : Prop :=
  s.phase.synced = true ∧ s.phase.counter < 4095 ∧ s.eventValue e = some (s.phase.counter + 1) ∧
    ∀ f ∈ defaultOrder, f ≠ e → s.eventValue f ≠ some (s.phase.counter + 1)

/-- The Phase unit after a count that took one more window end (R1, R7). -/
def PhaseUnit.afterEnd (w : Window) (p : PhaseUnit) : PhaseUnit :=
  { p with counter := p.counter + 1, sinceIndex := min 65 (p.sinceIndex + 1), endTaken := w :: p.endTaken }

/-- The sensors of an early index mark as counts in its place would have them: at each value of the skipped span the window
ends come last (R4), the rest as the operand orders it (assumption log, entry 6). -/
def startsFirst (io : CountInputs) : CountInputs :=
  { io with order := io.order.filter (fun e => !isEndEvent e) ++ allWindows.map PhaseEvent.opens ++ io.order }

/-- `n` forward counts in the same µs lead from one state to another (R1, R7). -/
def Counted (io : CountInputs) : Nat → State → State → Prop
  | 0, s, t => t = s
  | n + 1, s, t => ∃ u, exec (.forwardEncoderCount 0 io) s = .next u ∧ Counted io n u t

/-- The Phase unit after a cycle index event at the time `now` that raised no drive start (R2, R7, R10, R11). -/
def PhaseUnit.AtIndexEvent (now valveLead : Nat) (p q : PhaseUnit) : Prop :=
  q =
    { p with
      counter := 0
      sinceIndex := 0
      cycleCount := p.cycleCount + 1
      startTaken := []
      endTaken := []
      lastIndexAt := now
      lastCycle := if p.startMark then p.lastCycle else min 10000000 (now - p.lastIndexAt)
      startMark := false
      comp := compFor valveLead q.lastCycle }

/-- Neither the end of EMPTYING nor level 1 of the rest is due at a cycle index event that posts nothing (R160, R166). -/
abbrev ModeStays (s : State) : Prop :=
  (s.line.mode = .emptying → s.inFlight ≠ 0) ∧
    (s.line.mode = .running →
      s.config.settings.idleLimit = 0 ∨ s.line.idle < s.config.settings.idleLimit ∨ s.inFlight ≠ 0 ∨ s.anyUnknown = true)

/-! ### Books -/

/-- A book at an unserved window end: INCHED unless it already carries a spoil code (R13). The mark's detail 0 before the
posting is the model's choice (assumption log, entry 44). -/
def Book.markInched (point : DetectionPoint) (b : Book) : Book :=
  { b with spoil := some (b.spoil.getD ⟨.inched, point, 0, false⟩) }

/-- The content of a place after an unserved window end there (R13). -/
def Slot.markInched (point : DetectionPoint) : Slot → Slot
  | .holding b => .holding (b.markInched point)
  | x => x

/-- A book after the flow check on a count, against floor(3E / 4) and floor(3E / 2), with no check at E = 0 (R117). -/
def Book.flowJudged (flow expected : Nat) (b : Book) : Book :=
  { b with
    spoil :=
      if b.spoil = none ∧ expected ≠ 0 ∧ flow < 3 * expected / 4 then
        some ⟨.glueStarved, ⟨true, 6⟩, word32 flow, false⟩
      else b.spoil
    warnings :=
      if expected ≠ 0 ∧ 3 * expected / 2 < flow then { b.warnings with glueHeavy := true } else b.warnings }

/-- The lock of a book is released, the occupancy being written when a stale entry goes with its last lock (R44, R51,
R55). -/
def LockReleased (e : Fin 16) (s t : State) : Prop :=
  t.cache.entries[e] =
      (if s.cache.entries[e].stale = true ∧ s.cache.entries[e].locks ≤ 1 then CacheEntry.emptyEntry
       else { s.cache.entries[e] with locks := s.cache.entries[e].locks - 1 }) ∧
    (∀ f : Fin 16, f ≠ e → t.cache.entries[f] = s.cache.entries[f]) ∧ t.cache.stock = s.cache.stock ∧
    t.cache.fetch = s.cache.fetch

/-- A spoiled posting has written its entry in the defect log: serial, code, posting point, and where the spoil was found
(R146, R148, R149). That the bits beside the carousel bit are 0 is the model's choice (assumption log, entry 39). -/
def SpoilLogged (serial : Word) (code posting : Nat) (point : DetectionPoint) (s t : State) : Prop :=
  t.port.counts[(2 : Fin 8)] = s.port.counts[(2 : Fin 8)] + 1 ∧
    t.mem.readWord (logSlot s.port.counts[(2 : Fin 8)]) = s.port.counts[(2 : Fin 8)] + 1 ∧
    t.mem.readWord (logSlot s.port.counts[(2 : Fin 8)] + 4) = serial ∧
    t.mem.read (logSlot s.port.counts[(2 : Fin 8)] + 12) = BitVec.ofNat 8 code ∧
    t.mem.read (logSlot s.port.counts[(2 : Fin 8)] + 13) = 0 ∧
    t.mem.read (logSlot s.port.counts[(2 : Fin 8)] + 15) = BitVec.ofNat 8 posting ∧
    t.mem.read (logSlot s.port.counts[(2 : Fin 8)] + 16) = BitVec.ofNat 8 point.position ∧
    t.mem.read (logSlot s.port.counts[(2 : Fin 8)] + 17) = (if point.onCarousel then 1 else 0)

/-! ### Takes from the cooling queue -/

/-- A take of the head entry `e` of a queue `e :: rest` by an idle trimmer `u` (R132 to R134, R137, R142): the entry behind it
goes with it exactly when the five conditions of a two-up cut hold; the trimmer cuts when the knives stand at the
positions, and positions them under the 3,000 ms limit otherwise. -/
def Taken (now : Nat) (c : Settings) (e : QueueEntry) (rest : List QueueEntry) (g : GaugeFormat) (u v : Trimmer) : Prop :=
  ∀ two : Bool,
    two =
      (match rest.head? with
       | some e2 =>
         match e2.book.gauged with
         | some g2 =>
           c.twoUp && g.twoUp && g2.twoUp && e2.eligible && decide (g.knives.front = g2.knives.front) &&
             decide (g.knives.head = g2.knives.head) && decide (g.knives.foot = g2.knives.foot) &&
             decide (g.tMeas + g2.tMeas ≤ c.stackLimit) && decide (e.book.warnings = ⟨false, false, false⟩) &&
             decide (e2.book.warnings = ⟨false, false, false⟩)
         | none => false
       | none => false) →
    v =
      { u with
        queue := if two then rest.tail else rest
        books := e.book :: (if two then (rest.take 1).map (·.book) else [])
        target := some g.knives
        gate2 := .toTrimmer
        infeed := .openFor (if two then 2 else 1)
        phase := v.phase
        knives := v.knives
        limitAt := v.limitAt
        cutAt := v.cutAt
        reason := v.reason } ∧
      if u.knives.target = none ∧ u.knives.setting = some g.knives then
        v.phase = .cutting ∧ v.knives = u.knives ∧ v.limitAt = none ∧ v.cutAt = some (now + c.cutTime * 1000) ∧
          v.reason = .noFault
      else
        v.phase = .positioning ∧ v.limitAt = some (now + 3000000) ∧ v.cutAt = u.cutAt ∧ v.reason = u.reason ∧
          v.knives =
            (if u.knives.target = none then { u.knives with target := some g.knives }
             else if u.knives.target = some g.knives then { u.knives with next := none }
             else { u.knives with next := some g.knives })

/-! ### Tickets, launches and fetches -/

/-- The counts of a held ticket leave it neither DONE nor with nothing left to come: it stays at an end check (R39). -/
abbrev HeldTicket.stays (x : HeldTicket) : Prop := x.made < x.qty ∧ x.made + x.spoiled < x.launched

/-- The counts of a held ticket end it when it is stopped (R39). -/
abbrev HeldTicket.endsStopped (x : HeldTicket) : Prop :=
  x.made = x.qty ∨ (x.made < x.qty ∧ x.made + x.spoiled = x.launched ∧ x.spoiled = x.short + x.remade)

/-- A ticket that was not held has ended FAILED (R19, R33, R40): its words, the finished count, the cursor moved on. -/
def RefusedTicket (i : Nat) (reason code : Nat) (s t : State) : Prop :=
  t.mem.ticket i .stage = 5 ∧ t.mem.ticket i .endReason = BitVec.ofNat 32 reason ∧
    t.mem.ticket i .lastDefect = BitVec.ofNat 32 code ∧
    (∀ f ∈ [TicketField.launched, .made, .spoiled, .remade, .short, .firstSerial, .lastSerial], t.mem.ticket i f = 0) ∧
    t.mem.ticket i .finish = s.port.counts[(1 : Fin 8)] + 1 ∧ Noticed (oneNotice .ticketFinished) s t ∧
    t.sched.cursor = (s.sched.cursor + 1) % 256 ∧ t.word Header.cursor = BitVec.ofNat 32 t.sched.cursor

/-- None of the hold checks of R29 applies to a launch with the format PRESENT on a job copy. -/
abbrev NoHold (r : JobRecord) (s : State) : Prop :=
  (∀ g ∈ r.entries, ∀ k : Fin 16, g.pocket = k.val + 1 → s.gathering.pockets[k].starved = false) ∧
    (r.coverMode = 1 ∨ r.coverMode = 2 → (match r.mag with | .a => s.cover.emptyA | .b => s.cover.emptyB) = false) ∧
    s.pot.inBand = true ∧ s.cell 0 = .empty

/-- The first hold check that applies to a launch with the format PRESENT on a job copy (R29). -/
def HoldApplies (r : JobRecord) (hold : HoldReason) (s : State) : Prop :=
  if ∃ g ∈ r.entries, ∃ k : Fin 16, g.pocket = k.val + 1 ∧ s.gathering.pockets[k].starved = true then
    hold = .pocketStarved
  else if (r.coverMode = 1 ∨ r.coverMode = 2) ∧ (match r.mag with | .a => s.cover.emptyA | .b => s.cover.emptyB) = true then
    hold = .magazineEmpty
  else if s.pot.inBand = false then hold = .glueTemp
  else s.cell 0 = .unknown ∧ hold = .cellUnknown

/-- The first quantity check that fails on a POSTED ticket (R28). -/
def QtyFault (r : JobRecord) (qty limit code : Nat) : Prop :=
  if qty < 1 ∨ 9999 < qty then code = 1
  else if r.mode = .personal ∧ qty ≠ 1 then code = 2
  else 15 < limit ∧ code = 3

/-- A decision in RUNNING that launches nothing: the hold reason kept and written, the idle count raised, LAUNCH engaged
(R12, R23, R166). -/
def GapTaken (hold : HoldReason) (s t : State) : Prop :=
  t.sched.hold = hold ∧ t.word Header.hold = BitVec.ofNat 32 hold.number ∧
    t.line = { s.line with idle := min 65535 (s.line.idle + 1) } ∧
    t.stations = { s.stations with engaged := .launch :: s.stations.engaged }

/-- The entry that the start of a fetch chooses (R45): the lowest EMPTY one without a lock; else the lowest without a lock
and without the used mark; else the lowest without a lock. -/
def FetchTarget (c : JobCache) (e : Fin 16) : Prop :=
  c.entries[e].locks = 0 ∧
    if ∃ f : Fin 16, c.entries[f].locks = 0 ∧ c.entries[f].state = .empty then
      c.entries[e].state = .empty ∧ ∀ f : Fin 16, f < e → ¬ (c.entries[f].locks = 0 ∧ c.entries[f].state = .empty)
    else if ∃ f : Fin 16, c.entries[f].locks = 0 ∧ c.entries[f].used = false then
      c.entries[e].used = false ∧ ∀ f : Fin 16, f < e → ¬ (c.entries[f].locks = 0 ∧ c.entries[f].used = false)
    else ∀ f : Fin 16, f < e → c.entries[f].locks ≠ 0

/-- A fetch of a job has started (R45, R46): its target is FILLING, the engine reads its first attempt, the used marks of
the entries without a lock are cleared when every one of them was set and none was EMPTY, and the occupancy is written
when it grew. -/
def FetchStarted (job : Nat) (s t : State) : Prop :=
  ∃ e, FetchTarget s.cache e ∧ t.cache.fetch = some ⟨job, e, t.now, none, []⟩ ∧
    t.cache.entries[e] = ⟨.filling, some job, none, 0, true, false⟩ ∧
    (∀ f : Fin 16, f ≠ e → t.cache.entries[f] =
      if s.cache.entries[f].locks = 0 ∧
          ∀ g : Fin 16, s.cache.entries[g].locks = 0 → s.cache.entries[g].state ≠ .empty ∧ s.cache.entries[g].used = true then
        { s.cache.entries[f] with used := false }
      else s.cache.entries[f]) ∧
    t.cache.stock = s.cache.stock ∧
    (s.cache.entries[e].state = .empty →
      t.word Header.occupancy =
        BitVec.ofNat 32 ((List.finRange 16).filter fun f => decide (t.cache.entries[f].state ≠ .empty)).length)

/-! ### The checks in the spec's numbers -/

/-- The fields of the configuration record that have a range: index, lowest and highest value (R176). -/
def fieldRanges : List (Nat × Nat × Nat) :=
  [(0, 1, 1), (1, 300000, 700000), (2, 1000, 6000), (3, 100000, 10000000), (14, 0, 4095), (15, 0, 4095), (16, 0, 20000),
   (17, 0, 63), (18, 8000, 128000), (19, 1000, 2200), (20, 20, 300), (21, 500, 2200), (22, 1, 255), (23, 0, 600),
   (24, 0, 10000), (25, 0, 86400), (26, 0, 86400), (27, 1000, 600000), (28, 1, 12), (29, 0, 1), (30, 20000, 120000),
   (31, 200, 2000), (32, 1, 15), (33, 1000, 200000), (34, 1000, 10000)]

/-- A field of a configuration record passes (R8, R176): a range; for index 4 to 13 a window, its start value in the low
half and its end value in the high half; and the setback setpoint not above the working setpoint. -/
def FieldPasses (ws : List Word) (i : Nat) : Prop :=
  (∀ x ∈ fieldRanges, x.1 = i → x.2.1 ≤ (ws.getD i 0).toNat ∧ (ws.getD i 0).toNat ≤ x.2.2) ∧
    (4 ≤ i ∧ i ≤ 13 →
      1 ≤ (ws.getD i 0).toNat % 65536 ∧ (ws.getD i 0).toNat / 65536 ≤ 4095 ∧
        (ws.getD i 0).toNat % 65536 + 64 ≤ (ws.getD i 0).toNat / 65536) ∧
    (i = 21 → (ws.getD 21 0).toNat ≤ (ws.getD 19 0).toNat)

/-- The expected thickness in µm: the floor of the sum of leaves × caliper × compression over 1,000 (R88). -/
def thicknessSum (r : JobRecord) (stock : Nat → Option StockCopy) : Nat :=
  (r.entries.map fun g => match stock g.stock with | some c => g.leaves * c.caliper * c.compression | none => 0).sum / 1000

/-- A job check of R28, sub-code 2 to 11, passes. -/
def JobPasses (r : JobRecord) (stock : Nat → Option StockCopy) : Nat → Prop
  | 2 => r.defined = true
  | 3 => 1 ≤ r.sigCount ∧ r.sigCount ≤ 16
  | 4 => (r.entries.map (·.pocket)).Pairwise (· < ·) ∧ ∀ g ∈ r.entries, 1 ≤ g.pocket ∧ g.pocket ≤ 16
  | 5 => ∀ g ∈ r.entries, 1 ≤ g.leaves ∧ g.leaves ≤ 64
  | 6 => ∀ g ∈ r.entries, g.stock ≤ 63 ∧ ∃ c, stock g.stock = some c ∧ c.defined = true
  | 7 => r.coverMode ≤ 2 ∧ (r.coverMode ≠ 0 → r.magazine ≤ 1)
  | 8 =>
    (r.coverMode = 1 ∨ r.coverMode = 2 →
      150000 ≤ r.coverWidth ∧ r.coverWidth ≤ 700000 ∧ r.allowance ≤ 2000 ∧ 2000 ≤ r.designSpine ∧ r.designSpine ≤ 70000 ∧
        r.driftLimit ≤ 5000 ∧ r.hinge ≤ 12000 ∧ r.hinge % 50 = 0) ∧
      100000 ≤ r.height ∧ r.height ≤ 380000 ∧ 80000 ≤ r.width ∧ r.width ≤ 300000 ∧ r.millDepth ≤ 4000 ∧
      r.glueMargin ≤ 20000
  | 9 => 5 ≤ r.tolerance ∧ r.tolerance ≤ 100 ∧ r.flowFactor ≤ 255 ∧ r.setTime ≤ 60000
  | 10 =>
    2000 ≤ (r.width : Int) - r.millDepth - r.finalWidth ∧ (r.width : Int) - r.millDepth - r.finalWidth ≤ 20000 ∧
      2000 ≤ r.headTrim ∧ r.headTrim ≤ 20000 ∧ 2000 ≤ (r.height : Int) - r.finalHeight - r.headTrim ∧
      (r.height : Int) - r.finalHeight - r.headTrim ≤ 20000
  | 11 => 3000 ≤ thicknessSum r stock ∧ thicknessSum r stock ≤ 60000
  | _ => True

/-! ### Addresses -/

/-- The words of a slot of the defect log (R148). -/
def logWordsAt (count : Word) : List Nat := (List.range 8).map fun i => logSlot count + 4 * i

/-- The words of a ticket (R18, R19). -/
def ticketWordsAt (i : Nat) : List Nat := (List.range 16).map fun j => ticketBase i + 4 * j

/-- The areas of the shared memory that belong to the host read as before: the configuration record, the stock table,
the job table, and the area the part does not use (R170). -/
def HostAreasSame (s t : State) : Prop :=
  ∀ a, (0x0200 ≤ a ∧ a < 0x4800) ∨ 0x9800 ≤ a → t.mem.read a = s.mem.read a

/-- The commands that write the host's areas: the host's own word writes, and a power-on reset. -/
def writesHostAreas : Instr → Bool
  | .hostWordWrite _ _ _ => true
  | .powerOnReset _ _ => true
  | _ => false

/-- The commands that can change the configuration in force (R174). -/
def changesConfiguration : Instr → Bool
  | .loadConfigReadEnd _ _ => true
  | .powerOnReset _ _ => true
  | .controllerReset _ => true
  | _ => false

/-- Nothing lets the trimmer take from a queue (R132). -/
abbrev NoTake (s : State) (queue : List QueueEntry) : Prop :=
  s.trim.phase ≠ .idle ∨ s.line.causes.guarded = true ∨ ∀ e ∈ queue.head?, e.eligible = false

/-! ### Resets -/

/-- The header words after either reset (R180); the part code, revision and layout version are those of 11, section
11.2. -/
def headerAfterReset (pins : Pins) : List (Nat × Word) :=
  [(0x000, 24), (0x004, 1), (0x008, 1), (0x00C, 0), (0x010, 0),
   (0x014, (if pins.estop then 1 else 0) + (if pins.guardOpen then 2 else 0)), (0x018, 0), (0x01C, 0), (0x020, 0),
   (0x024, 0), (0x028, 0), (0x02C, 0), (0x030, 0), (0x034, 0), (0x040, 0), (0x090, 1), (0x094, 0), (0x098, 0),
   (0x09C, 0), (0x0A0, 1), (0x0C0, 2), (0x0C4, 0), (0x0C8, 1200000), (0x0CC, 0), (0x0D0, 0), (0x0D4, 0),
   (0x0D8, 0xFFFFFFFF), (0x0DC, 0), (0x0E0, 0), (0x0E4, (if pins.emptyA then 1 else 0) + (if pins.emptyB then 2 else 0)),
   (0x0E8, 0)] ++
  (List.range 16).map fun c => (0x044 + 4 * c, 0)

/-- The values the chapters give the blocks after either reset (R1, R5, R6, R8, R10 to R12, R16, R22, R23, R33, R38, R56,
R57, R60, R73, R81, R89, R104, R109, R110, R111, R113, R115, R120, R121, R127, R130, R131, R142, R155, R156, R172, R174,
R177). -/
def AtReset (pins : Pins) (t : State) : Prop :=
  t.phase.counter = 0 ∧ t.phase.sinceIndex = 65 ∧ t.phase.cycleCount = 0 ∧ t.phase.synced = false ∧
    t.phase.lastCycle = 1200000 ∧ t.phase.startMark = true ∧ t.phase.comp = 10 ∧ t.phase.jam = false ∧
    t.phase.startTaken = [] ∧ t.phase.endTaken = [] ∧ t.stations = ⟨[], []⟩ ∧ t.sched = ⟨[], 0, [], 1, .notRunning⟩ ∧
    (∀ e : Fin 16, t.cache.entries[e] = ⟨.empty, none, none, 0, false, false⟩) ∧ (∀ c : Fin 64, t.cache.stock[c] = none) ∧
    t.cache.fetch = none ∧ (∀ p : Fin 18, t.cell p = .unknown) ∧
    (∀ k : Fin 16, t.gathering.pockets[k] = ⟨false, 0, none, none⟩) ∧
    (∀ p : Fin 24, t.carousel.places[p] = ⟨p.val, if p.val ≤ 17 then .unknown else .empty⟩) ∧
    t.carousel.gate1 = .toReject ∧ t.format.converter.doing = .idle ∧ t.format.converter.outstanding = 0 ∧
    t.format.converter.tempWaiting = false ∧ t.format.gauge = none ∧ t.miller.drive = ⟨none, none, none⟩ ∧
    t.miller.integrating = false ∧ t.miller.wear = [] ∧ t.miller.armed = true ∧ t.miller.pending = false ∧
    t.pot.temp = none ∧ t.pot.inBand = false ∧ t.pot.computed = 0 ∧ t.pot.applied = 0 ∧ t.pot.overheat = false ∧
    t.pot.conversionAt = t.now + 100000 ∧ t.pot.periodStart = t.now ∧ t.glue.spine.isOpen = false ∧
    t.glue.side.isOpen = false ∧ t.glue.spine.opened = false ∧ t.glue.side.opened = false ∧
    t.cover.emptyA = pins.emptyA ∧ t.cover.emptyB = pins.emptyB ∧
    t.cover.scorer = ⟨none, none, none⟩ ∧ t.cover.pending = false ∧ t.cover.fed = none ∧ t.cover.nipClosed = false ∧
    t.trim.queue = [] ∧ t.trim.phase = .idle ∧ t.trim.books = [] ∧ t.trim.target = none ∧ t.trim.knives = ⟨none, none, none⟩ ∧
    t.trim.limitAt = none ∧ t.trim.cutAt = none ∧ t.trim.reason = .noFault ∧ t.trim.gate2 = .toReject ∧
    t.trim.infeed = .standingOpen ∧ t.line.mode = .cold ∧
    t.line.causes = ⟨pins.estop, pins.guardOpen, false, false, false, false, false⟩ ∧ t.line.haltStart = none ∧
    t.line.runWhenReady = false ∧ t.line.stableAt = none ∧ t.line.idle = 0 ∧ t.line.restAt = none ∧
    t.line.drive = .stopped ∧ t.line.reference = none ∧ t.port = ⟨false, none, Vector.replicate 8 0, false, 2⟩ ∧
    t.config = ⟨Settings.defaults, false⟩ ∧ ∀ x ∈ headerAfterReset pins, t.word x.1 = x.2

/-! ### Invariants of every step -/

/-- The shared memory is in its canonical form, and the cursor and the held tickets name tickets of the table (R33,
R170). -/
abbrev MemoryInv (s : State) : Prop :=
  s.mem.wf = true ∧ s.sched.cursor < 256 ∧ ∀ t ∈ s.sched.held, t.index < 256

/-- The phase counter is within 0 to 4,095, the count since index at most 65, comp at most 1,024 (R1, R11). -/
abbrev PhaseInv (s : State) : Prop := s.phase.counter ≤ 4095 ∧ s.phase.sinceIndex ≤ 65 ∧ s.phase.comp ≤ 1024

/-- The cooling queue and the trimmer (R127, R131, R138): at most 12 entries and two records, none with a spoil code;
the trimmer's books, timers and fault reason as its state has them; that the fault reason is none outside FAULT is the
model's reading (assumption log, entry 42). -/
abbrev TrimmerInv (s : State) : Prop :=
  s.trim.queue.length ≤ 12 ∧ s.trim.books.length ≤ 2 ∧ (∀ e ∈ s.trim.queue, e.book.good = true) ∧
    (∀ b ∈ s.trim.books, b.good = true) ∧ (s.trim.phase = .idle → s.trim.books = []) ∧
    (s.trim.phase = .positioning ∨ s.trim.phase = .cutting → s.trim.books ≠ []) ∧
    (s.trim.limitAt.isSome = true ↔ s.trim.phase = .positioning) ∧
    (s.trim.cutAt.isSome = true ↔ s.trim.phase = .cutting) ∧ (s.trim.reason = .noFault ↔ s.trim.phase ≠ .fault)

/-- The heater (R112, R114): duties within 0 to 255, the applied one 0 in COLD and while OVERHEAT is present; and the
heater output on only while the applied duty is not 0 (the model's choice: assumption log, entry 29). -/
abbrev HeaterInv (s : State) : Prop :=
  s.pot.computed ≤ 255 ∧ s.pot.applied ≤ 255 ∧ (s.line.mode = .cold → s.pot.applied = 0) ∧
    (s.pot.overheat = true → s.pot.applied = 0) ∧ (s.pot.heaterOn = true → s.pot.applied ≠ 0)

/-- The stations (R12, R156, R158, R169): engaged only in the acting modes, serving, work in progress and outputs away from
rest only while engaged, reject gate 1 at rest between events, the drive as the mode has it, and its speed reference that of
the speed setpoint in force while it runs and none at any other time (R156, R169; that an inch has none is assumption
log, entry 38). -/
abbrev StationInv (s : State) : Prop :=
  (s.line.mode.acting = false → s.stations.engaged = []) ∧ (∀ w ∈ s.stations.serving, w ∈ s.stations.engaged) ∧
    (∀ k : Fin 16, s.gathering.pockets[k].feed.isSome = true → .pocket ∈ s.stations.engaged) ∧
    (s.format.gauge.isSome = true → .gauge ∈ s.stations.engaged) ∧
    (s.miller.integrating = true → .mill ∈ s.stations.engaged) ∧
    (s.glue.spine.isOpen = true → .spineGlue ∈ s.stations.engaged) ∧
    (s.glue.side.isOpen = true → .sideGlue ∈ s.stations.engaged) ∧
    (s.cover.fed.isSome = true → .cover ∈ s.stations.engaged) ∧
    (s.cover.nipClosed = true → .nip ∈ s.stations.engaged) ∧ s.carousel.gate1 = .toReject ∧
    (s.line.drive = .running ↔ s.line.mode.acting = true) ∧ (s.line.drive = .inching → s.line.mode = .halted) ∧
    s.line.reference = (if s.line.mode.acting then some s.config.settings.speed else none)

/-- The halt causes (R157, R161): each as its source has it, and none present in READY, WARMING, RUNNING and
EMPTYING. -/
abbrev CauseInv (s : State) : Prop :=
  s.line.causes.estop = s.pins.estop ∧ s.line.causes.guardOpen = s.pins.guardOpen ∧ s.line.causes.jam = s.phase.jam ∧
    s.line.causes.overheat = s.pot.overheat ∧ (s.line.causes.trimmer = true ↔ s.trim.phase = .fault) ∧
    (s.line.mode.halts = true → s.line.causes.any = false)

/-- The times of Line control (R155, R159, R162, R164, R167): a halt start time exactly in HALTED, the stable timer and
the run-when-ready mark only in WARMING, the rest timer only in READY and SETBACK. -/
abbrev TimerInv (s : State) : Prop :=
  (s.line.haltStart.isSome = true ↔ s.line.mode = .halted) ∧ (s.line.stableAt.isSome = true → s.line.mode = .warming) ∧
    (s.line.runWhenReady = true → s.line.mode = .warming) ∧
    (s.line.restAt.isSome = true → s.line.mode = .ready ∨ s.line.mode = .setback) ∧ s.line.idle ≤ 65535

/-- The Job cache (R43 to R45, R55): FILLING is the target of the fetch and nothing else, an EMPTY entry holds nothing, a
FILLED entry holds a copy and a job number unless stale, a stale entry is locked, no two entries have one job number. And
what bounds the expected thickness by 409,600 µm (R103): a copy has at most 16 signatures of at most 64 leaves, and no
stock place holds a caliper above 400 or a compression above 1,000 (what the copy of an entry out of range holds is the
model's choice: assumption log, entry 37). -/
abbrev CacheInv (s : State) : Prop :=
  (∀ e : Fin 16, s.cache.entries[e].state = .filling ↔ s.cache.fetch.map (·.target) = some e) ∧
    (∀ e : Fin 16, s.cache.entries[e].state = .filling →
      s.cache.entries[e].stale = false ∧ s.cache.entries[e].job = s.cache.fetch.map (·.job)) ∧
    (∀ e : Fin 16, s.cache.entries[e].state = .empty →
      s.cache.entries[e] = { CacheEntry.emptyEntry with used := s.cache.entries[e].used }) ∧
    (∀ e : Fin 16, s.cache.entries[e].state = .filled →
      s.cache.entries[e].copy.isSome = true ∧ (s.cache.entries[e].job.isSome = true ↔ s.cache.entries[e].stale = false)) ∧
    (∀ e : Fin 16, s.cache.entries[e].stale = true → s.cache.entries[e].locks ≠ 0) ∧
    (∀ e f : Fin 16, e ≠ f → s.cache.entries[e].job.isSome = true → s.cache.entries[e].job ≠ s.cache.entries[f].job) ∧
    (∀ e : Fin 16, ∀ r ∈ s.cache.entries[e].copy, r.sigCount ≤ 16 ∧ ∀ g ∈ r.entries, g.leaves ≤ 64) ∧
    (∀ c : Fin 64, ∀ x ∈ s.cache.stock[c], x.caliper ≤ 400 ∧ x.compression ≤ 1000)

/-- The Schedule unit (R20, R30, R38): at most 32 remakes, the next serial never 0, no ticket held twice. -/
abbrev ScheduleInv (s : State) : Prop :=
  s.sched.remakes.length ≤ 32 ∧ s.sched.nextSerial ≠ 0 ∧ (s.sched.held.map (·.index)).Nodup

/-- Whether a place holds a book that waits for its format (R53). -/
def Slot.waits : Slot → Bool
  | .holding b => decide (b.format = .pending)
  | _ => false

end Sys2Proof.Machine
end

