-- ==== Sys2Proof/Certificates/Slice0/Obligations.lean ====
section
/-!
DEFINITION. The statements for the provers.
-/

open Sys2Proof Sys2Proof.Machine

/-! ### The step and the invariants -/

/-- A step takes the command that has waited longest and is `exec` of it on the state with the rest of the queue; with
no command waiting the state stays (the model's choice: assumption log, entries 3 and 24). -/
def Obligations.StepTakesTheFrontCommand : Prop :=
  (∀ (c : Instr) (s : State), step { s with pending := c :: s.pending } = exec c s) ∧
    ∀ s : State, s.pending = [] → step s = .next s

/-- `State.reset` holds the reset values of the chapters and meets every invariant of a step (the input levels it is
taken with, no emergency stop, guard closed and magazines not empty, are the model's choice: assumption log, entry
11). -/
def Obligations.ResetMeetsTheInvariants : Prop :=
  AtReset ⟨false, false, false, false, false⟩ State.reset ∧
  MemoryInv State.reset ∧ PhaseInv State.reset ∧ AttentionInv State.reset ∧ TrimmerInv State.reset ∧
    HeaterInv State.reset ∧ StationInv State.reset ∧ CauseInv State.reset ∧ TimerInv State.reset ∧
    CacheInv State.reset ∧ ScheduleInv State.reset

/-- Every step keeps the shared memory in its canonical form within the 64 KiB of R170, and the cursor and the held
tickets within the ticket table (R33). The canonical form is the model's (assumption log, entry 27). -/
def Obligations.StepKeepsMemoryCanonical : Prop := ∀ s t : State, MemoryInv s → step s = .next t → MemoryInv t

/-- Every step keeps the phase counter within 0 to 4,095, the count since index at most 65 and comp at most 1,024 (R1,
R11). -/
def Obligations.StepKeepsPhaseBounds : Prop := ∀ s t : State, PhaseInv s → step s = .next t → PhaseInv t

/-- After every step the attention line is asserted exactly when an enabled cause has a count different from its seen
count (R178). -/
def Obligations.StepKeepsAttentionLine : Prop := ∀ s t : State, AttentionInv s → step s = .next t → AttentionInv t

/-- Every step keeps the bounds of the cooling queue and the trimmer, the records there without a spoil code, and the
trimmer's books, timers and fault reason as its state has them (R127, R131). That the fault reason is none outside FAULT
is the model's reading (assumption log, entry 42). -/
def Obligations.StepKeepsTrimmerBounds : Prop := ∀ s t : State, TrimmerInv s → step s = .next t → TrimmerInv t

/-- Every step keeps the duties within 0 to 255 and the applied duty 0 in COLD and while OVERHEAT is present (R112,
R114). That the heater output is never on at an applied duty of 0 is the model's choice (assumption log, entry 29). -/
def Obligations.StepKeepsHeaterDuty : Prop := ∀ s t : State, HeaterInv s → step s = .next t → HeaterInv t

/-- Every step keeps the stations' work, service and outputs to the engaged ones, and those to the acting modes, and the
drive's speed reference the configured setpoint while the drive runs and none at any other time (R12, R156, R169). That an
inch has no speed reference is the model's reading (assumption log, entry 38). -/
def Obligations.StepKeepsStationsAtRest : Prop := ∀ s t : State, StationInv s → step s = .next t → StationInv t

/-- Every step keeps the halt causes as their sources have them and none present in RUNNING, EMPTYING, READY and WARMING
(R157, R161); and it keeps the halt start time to HALTED, the stable timer and the run-when-ready mark to WARMING, and
the rest timer to READY and SETBACK (R155, R159, R162, R167). -/
def Obligations.StepKeepsLineControl : Prop :=
  (∀ s t : State, CauseInv s → step s = .next t → CauseInv t) ∧ ∀ s t : State, TimerInv s → step s = .next t → TimerInv t

/-- Every step keeps the Job cache's entries and its fetch in agreement (R44, R45, R55), and the copies and stock places
within what bounds the expected thickness by 409,600 µm (R43, R103). What the copy of a stock entry out of range holds is
the model's choice (assumption log, entry 37). -/
def Obligations.StepKeepsCacheConsistent : Prop := ∀ s t : State, CacheInv s → step s = .next t → CacheInv t

/-- Every step keeps the remake list within 32 entries, the next serial other than 0, and no ticket held twice (R20, R30,
R38). -/
def Obligations.StepKeepsScheduleBounds : Prop :=
  ∀ s t : State, ScheduleInv s → step s = .next t → ScheduleInv t

/-- The part writes nothing to the areas of the shared memory that are the host's, whatever the command, but for the
zeroing at a power-on reset; and the configuration in force changes at no command but the end of LOAD_CONFIG's reading
and the two resets (R170, R174). -/
def Obligations.PartNeverWritesHostAreas : Prop :=
  ∀ (c : Instr) (s t : State), MemoryInv s → exec c s = .next t →
    (writesHostAreas c = false → HostAreasSame s t) ∧ (changesConfiguration c = false → t.config = s.config)

/-! ### The Phase unit (chapter 1) -/

/-- R1: the phase counter and the count since index at a forward count, in every line mode; a reverse count counts
nowhere; a cycle index event sets the count since index to 0; the values after the two resets. -/
def Obligations.EncoderCounts : Prop :=
  (∀ (s : State) (dt : Nat) (io : CountInputs), s.phase.counter ≤ 4095 →
    ∃ t, exec (.forwardEncoderCount dt io) s = .next t ∧
      t.phase.counter = (if s.phase.counter = 4095 then 0 else s.phase.counter + 1) ∧ t.phase.counter ≤ 4095 ∧
      t.phase.sinceIndex =
        (if s.phase.synced = true ∧ s.phase.counter = 4095 then 0
         else if s.phase.sinceIndex < 65 then s.phase.sinceIndex + 1 else 65)) ∧
  (∀ (s : State) (dt : Nat), exec (.reverseEncoderCount dt) s = .next { s with now := s.now + dt }) ∧
  (∀ s : State, s.cycleIndex.phase.sinceIndex = 0) ∧
  (∀ (s : State) (dt : Nat) (levels : InputLevels), ∃ t, exec (.powerOnReset dt levels) s = .next t ∧
    t.phase.counter = 0 ∧ t.phase.sinceIndex = 65 ∧ t.phase.cycleCount = 0) ∧
  (∀ (s : State) (dt : Nat), ∃ t, exec (.controllerReset dt) s = .next t ∧
    t.phase.counter = 0 ∧ t.phase.sinceIndex = 65 ∧ t.phase.cycleCount = 0)

/-- A forward count at which no window event and no valve point falls, and any below the wrap of a Phase unit that is
not synchronised, changes the two counts and nothing else (R1, R5, R7). -/
def Obligations.ForwardCountBetweenEvents : Prop :=
  ∀ (s : State) (dt : Nat) (io : CountInputs), PhaseInv s →
    (s.phase.synced = false ∨
      (s.phase.counter < 4095 ∧ ∀ e ∈ defaultOrder, s.eventValue e ≠ some (s.phase.counter + 1))) →
    exec (.forwardEncoderCount dt io) s =
      .next { s with
        now := s.now + dt
        phase := { s.phase with
          counter := if s.phase.counter = 4095 then 0 else s.phase.counter + 1
          sinceIndex := if s.phase.sinceIndex = 65 then 65 else s.phase.sinceIndex + 1 } }

/-- The wrap while synchronised, every window end having been taken (R2, R7, R10, R11, R14, R160, R166, R179): the cells
and clamps advance, the Phase unit takes the cycle time and recomputes comp, the taken marks go, and the snapshot is
written with its sequence word raised by two. A record left at chain position 17 loses its lock, leaves an UNKNOWN cell
and is posted from the chain end, under INCHED or its own code, and in EMPTYING the posting of the last record takes the
line to READY. When no record is in flight an EMPTYING line, and a RUNNING one at its idle limit with nothing UNKNOWN,
goes to READY: its drive stops, its rest timer starts, and the snapshot is written twice. The zeros beside the listed
bits of the entry's word 0x10 are the model's choice (assumption log, entry 39). -/
def Obligations.WrapAdvancesTheLine : Prop :=
  ∀ (s : State) (dt : Nat) (io : CountInputs), s.phase.synced = true → s.phase.counter = 4095 →
    (∀ w : Window, w ∈ s.phase.endTaken) →
    ((s.cell 17).isHolding = false → ModeStays s →
      ∃ t, exec (.forwardEncoderCount dt io) s = .next t ∧ Later dt s t ∧
        (∀ p : Fin 18, t.cell p = s.cell (p - 1)) ∧ t.gathering.pockets = s.gathering.pockets ∧
        (∀ p : Fin 24, t.carousel.places[p] = s.carousel.places[p - 1]) ∧ t.carousel.gate1 = s.carousel.gate1 ∧
        t.carousel.lastDrop = s.carousel.lastDrop ∧
        PhaseUnit.AtIndexEvent t.now s.config.settings.valveLead s.phase t.phase ∧
        t.port = { s.port with snapSeq := s.port.snapSeq + 2 } ∧ t.word Header.snapSeq = s.port.snapSeq + 2 ∧
        (∀ x ∈ t.snapshotWords, t.word x.1 = x.2) ∧
        SameBut [.now, .phase, .gathering, .carousel, .port] s t ∧ BytesBut snapshotArea s t) ∧
    (∀ b, s.cell 17 = .holding b → (s.line.mode = .emptying → s.inFlight ≠ 1) → MemoryInv s →
      ∃ t, exec (.forwardEncoderCount dt io) s = .next t ∧ Later dt s t ∧ t.cell 0 = .unknown ∧
        (∀ p : Fin 18, p ≠ 0 → t.cell p = s.cell (p - 1)) ∧ t.gathering.pockets = s.gathering.pockets ∧
        (∀ p : Fin 24, t.carousel.places[p] = s.carousel.places[p - 1]) ∧
        PhaseUnit.AtIndexEvent t.now s.config.settings.valveLead s.phase t.phase ∧
        (∀ m, (b.markInched ⟨false, 17⟩).spoil = some m → SpoilLogged b.serial m.code.number 0 m.point s t) ∧
        (b.entry = none → t.cache = s.cache) ∧ (∀ e, b.entry = some e → LockReleased e s t) ∧
        t.port.snapSeq = s.port.snapSeq + 2 ∧ (∀ x ∈ t.snapshotWords, t.word x.1 = x.2) ∧
        SameBut [.now, .phase, .sched, .cache, .gathering, .carousel, .port] s t) ∧
    (∀ b, s.cell 17 = .holding b → s.line.mode = .emptying → s.inFlight = 1 → MemoryInv s →
      ∃ t, exec (.forwardEncoderCount dt io) s = .next t ∧ Later dt s t ∧ t.cell 0 = .unknown ∧
        (∀ p : Fin 18, p ≠ 0 → t.cell p = s.cell (p - 1)) ∧
        (∀ p : Fin 24, t.carousel.places[p] = s.carousel.places[p - 1]) ∧
        PhaseUnit.AtIndexEvent t.now s.config.settings.valveLead s.phase t.phase ∧
        (∀ m, (b.markInched ⟨false, 17⟩).spoil = some m → SpoilLogged b.serial m.code.number 0 m.point s t) ∧
        (b.entry = none → t.cache = s.cache) ∧ (∀ e, b.entry = some e → LockReleased e s t) ∧
        t.line =
          { s.line with
            mode := .ready
            drive := .stopped
            reference := none
            stableAt := none
            restAt :=
              if s.config.settings.setbackDelay = 0 then none
              else some (t.now + s.config.settings.setbackDelay * 1000000) } ∧
        t.word Header.mode = 2 ∧ t.stations.engaged = [] ∧
        t.port.counts[(3 : Fin 8)] = s.port.counts[(3 : Fin 8)] + 1 ∧ t.port.snapSeq = s.port.snapSeq + 4 ∧
        (∀ x ∈ t.snapshotWords, t.word x.1 = x.2) ∧ t.miller.drive = s.miller.drive ∧
        t.cover.scorer = s.cover.scorer ∧
        SameBut [.now, .phase, .stations, .sched, .cache, .gathering, .carousel, .format, .miller, .glue, .cover, .line, .port]
          s t) ∧
    (s.inFlight = 0 →
      s.line.mode = .emptying ∨
        (s.line.mode = .running ∧ 0 < s.config.settings.idleLimit ∧ s.config.settings.idleLimit ≤ s.line.idle ∧
          s.anyUnknown = false) →
      ∃ t, exec (.forwardEncoderCount dt io) s = .next t ∧ Later dt s t ∧
        t.line =
          { s.line with
            mode := .ready
            drive := .stopped
            reference := none
            stableAt := none
            restAt :=
              if s.config.settings.setbackDelay = 0 then none
              else some (t.now + s.config.settings.setbackDelay * 1000000) } ∧
        t.word Header.mode = 2 ∧ t.stations.engaged = [] ∧ (∀ p : Fin 18, t.cell p = s.cell (p - 1)) ∧
        (∀ p : Fin 24, t.carousel.places[p] = s.carousel.places[p - 1]) ∧
        PhaseUnit.AtIndexEvent t.now s.config.settings.valveLead s.phase t.phase ∧
        Noticed (oneNotice .modeChanged) s t ∧ t.port.snapSeq = s.port.snapSeq + 4 ∧
        (∀ x ∈ t.snapshotWords, t.word x.1 = x.2) ∧
        SameBut [.now, .phase, .stations, .gathering, .carousel, .format, .miller, .glue, .cover, .line, .port] s t ∧
        BytesBut modeWords s t)

/-- An index mark of a small deviation while synchronised (R3, R4, R6): at 0 to 8 counts the counter stands; 9 to 64
late with a count since index of 64 or less, the counter is forced to 0 and no index event is raised; 9 to 64 early
with a count since index of 65 and nothing left in the skipped span, the counter is forced to 0 and the index event is
raised. JAM is cleared in all three. Whatever is left in the skipped span of an early mark is raised first, as if the
counter had run through it: the mark leaves what that many forward counts leave, the last of them the wrap when the count
since index is 65, and no index event is raised when it is 64 or less. That the index event comes before the report of JAM
is the model's reading (assumption log, entry 10), and the order of the events of one value is an operand (entry 6). -/
def Obligations.SmallMarks : Prop :=
  ∀ (s : State) (dt : Nat) (io : CountInputs), s.phase.synced = true →
    ((s.phase.counter ≤ 8 ∨ (4088 ≤ s.phase.counter ∧ s.phase.counter ≤ 4095)) →
      ∃ t, exec (.indexMark dt io) s = .next t ∧ Later dt s t ∧ t.phase = { s.phase with jam := false } ∧
        t.line = { s.line with causes := { s.line.causes with jam := false } } ∧
        (s.line.causes.jam = true → t.word Header.causes = t.line.causes.word) ∧
        SameBut [.now, .phase, .line] s t ∧
        BytesBut (if s.line.causes.jam then [Header.causes] else []) s t) ∧
    (9 ≤ s.phase.counter → s.phase.counter ≤ 64 → s.phase.sinceIndex ≤ 64 →
      ∃ t, exec (.indexMark dt io) s = .next t ∧ Later dt s t ∧
        t.phase = { s.phase with counter := 0, sinceIndex := 0, jam := false } ∧
        t.line = { s.line with causes := { s.line.causes with jam := false } } ∧
        (s.line.causes.jam = true → t.word Header.causes = t.line.causes.word) ∧
        SameBut [.now, .phase, .line] s t ∧
        BytesBut (if s.line.causes.jam then [Header.causes] else []) s t) ∧
    (4032 ≤ s.phase.counter → s.phase.counter ≤ 4087 → s.phase.sinceIndex = 65 →
      (∀ e ∈ defaultOrder, ∀ v ∈ s.eventValue e, v ≤ s.phase.counter ∨ 4095 < v) → (∀ w : Window, w ∈ s.phase.endTaken) →
      (s.cell 17).isHolding = false → (s.line.mode = .emptying → s.inFlight ≠ 0) →
      (s.line.mode = .running → s.config.settings.idleLimit = 0 ∨ s.line.idle < s.config.settings.idleLimit) →
      ∃ t, exec (.indexMark dt io) s = .next t ∧ Later dt s t ∧ t.phase.counter = 0 ∧ t.phase.sinceIndex = 0 ∧
        t.phase.cycleCount = s.phase.cycleCount + 1 ∧ t.phase.startTaken = [] ∧ t.phase.endTaken = [] ∧
        t.phase.lastIndexAt = s.now + dt ∧ t.phase.startMark = false ∧
        t.phase.lastCycle =
          (if s.phase.startMark then s.phase.lastCycle else min 10000000 (s.now + dt - s.phase.lastIndexAt)) ∧
        t.phase.comp = compFor s.config.settings.valveLead t.phase.lastCycle ∧ t.phase.jam = false ∧
        t.phase.synced = true ∧ (∀ p : Fin 18, t.cell p = s.cell (p - 1)) ∧
        (∀ p : Fin 24, t.carousel.places[p] = s.carousel.places[p - 1]) ∧
        t.line = { s.line with causes := { s.line.causes with jam := false } } ∧
        (∀ x ∈ t.snapshotWords, t.word x.1 = x.2) ∧
        SameBut [.now, .phase, .gathering, .carousel, .line, .port] s t ∧
        BytesBut (Header.causes :: snapshotArea) s t) ∧
    (4032 ≤ s.phase.counter → s.phase.counter ≤ 4087 → s.phase.sinceIndex ≤ 65 →
      ∃ t u, exec (.indexMark dt io) s = .next t ∧ Later dt s t ∧
        Counted (startsFirst io) (if s.phase.sinceIndex = 65 then 4096 - s.phase.counter else 4095 - s.phase.counter)
          { s with now := s.now + dt } u ∧
        t.phase = { u.phase with counter := 0, sinceIndex := 0, jam := false } ∧
        t.line = { u.line with causes := { u.line.causes with jam := false } } ∧
        (u.line.causes.jam = true → t.word Header.causes = t.line.causes.word) ∧
        SameBut [.phase, .line] u t ∧ BytesBut (if u.line.causes.jam then [Header.causes] else []) u t)

/-- A late index mark that deviates by 65 counts or more (R3, R4, R6, R161, R162), the count since index being 65, every
window end taken and no record left at chain position 17: the counter is forced to 0, the index event is raised, JAM is
set and reported; RUNNING, EMPTYING, READY and WARMING become HALTED, and COLD, SETBACK and HALTED stay. And an early
one (R4): whatever is left in the skipped span is raised first, as if the counter had run through it, the index event
follows when the count since index is 65, and then JAM is set and reported. That the index event comes before the report
of JAM is the model's reading (assumption log, entry 10), and the order of the events of one value is an operand (entry
6). -/
def Obligations.JamMarkHalts : Prop :=
  (∀ (s : State) (dt : Nat) (io : CountInputs), s.phase.synced = true → 65 ≤ s.phase.counter → s.phase.counter ≤ 2047 →
    s.phase.sinceIndex = 65 → (∀ w : Window, w ∈ s.phase.endTaken) → (s.cell 17).isHolding = false →
    (s.line.mode = .emptying → s.inFlight ≠ 0) →
    (s.line.mode = .running → s.config.settings.idleLimit = 0 ∨ s.line.idle < s.config.settings.idleLimit) →
    ∃ t, exec (.indexMark dt io) s = .next t ∧ Later dt s t ∧ t.phase.counter = 0 ∧ t.phase.sinceIndex = 0 ∧
      t.phase.cycleCount = s.phase.cycleCount + 1 ∧ t.phase.startTaken = [] ∧ t.phase.endTaken = [] ∧
      t.phase.lastIndexAt = s.now + dt ∧ t.phase.startMark = false ∧ t.phase.jam = true ∧
      (∀ p : Fin 18, t.cell p = s.cell (p - 1)) ∧ (∀ p : Fin 24, t.clampAt p = s.clampAt (p - 1)) ∧
      t.line.causes = { s.line.causes with jam := true } ∧
      (s.line.causes.jam = false → t.word Header.causes = t.line.causes.word) ∧
      (s.line.mode.halts = true → t.line.mode = .halted ∧ t.line.haltStart = some (s.now + dt) ∧ t.line.drive = .stopped ∧
        t.word Header.mode = 6 ∧ (s.line.mode.acting = true → t.stations.engaged = []) ∧
        Noticed (fun c => if c = 3 ∨ c = 4 then 1 else 0) s t) ∧
      (s.line.mode.halts = false →
        t.line = { s.line with causes := { s.line.causes with jam := true } } ∧ Noticed (fun _ => 0) s t ∧
        SameBut [.now, .phase, .gathering, .carousel, .line, .port] s t) ∧
      (∀ x ∈ t.snapshotWords, t.word x.1 = x.2) ∧ t.trim = s.trim ∧ t.sched = s.sched ∧ t.cache = s.cache ∧
      t.config = s.config ∧ t.pins = s.pins ∧ t.pot = s.pot ∧ t.pending = s.pending ∧
      BytesBut (Header.causes :: modeWords) s t) ∧
  (∀ (s : State) (dt : Nat) (io : CountInputs), s.phase.synced = true → 2048 ≤ s.phase.counter →
    s.phase.counter ≤ 4031 → s.phase.sinceIndex ≤ 65 →
    ∃ t u, exec (.indexMark dt io) s = .next t ∧ Later dt s t ∧
      Counted (startsFirst io) (if s.phase.sinceIndex = 65 then 4096 - s.phase.counter else 4095 - s.phase.counter)
        { s with now := s.now + dt } u ∧
      t.phase = { u.phase with counter := 0, sinceIndex := 0, jam := true } ∧
      t.line.causes = { u.line.causes with jam := true } ∧
      (u.line.causes.jam = false → t.word Header.causes = t.line.causes.word) ∧
      (u.line.mode.halts = true → Entered .halted u t ∧ t.line.haltStart = some (s.now + dt) ∧
        Noticed (fun c => if c = 3 ∨ c = 4 then 1 else 0) u t) ∧
      (u.line.mode.halts = false → t.line = { u.line with causes := t.line.causes } ∧ SameBut [.phase, .line] u t) ∧
      t.gathering.cells = u.gathering.cells ∧ t.carousel.places = u.carousel.places ∧
      SameBut [.phase, .stations, .gathering, .carousel, .format, .miller, .glue, .cover, .line, .port] u t ∧
      BytesBut (Header.causes :: modeWords) u t)

/-- The first index mark after a reset (R2, R5, R10, R13, R80), in any line mode: the counter is forced to 0, the index
event is raised and the Phase unit is synchronised; JAM is not judged. No end having been taken, every end is dealt with
as unserved: the books under the pockets and at the marking stations are marked INCHED, the clamp at carousel position 17
opens, and both changeovers are left pending. That is said of a line whose index event posts nothing, releases no lock
and does not end the mode. The detail 0 of a new INCHED mark before its posting is the model's choice (assumption log,
entry 44). -/
def Obligations.FirstMarkSynchronises : Prop :=
  (∀ (s : State) (dt : Nat) (io : CountInputs), s.phase.synced = false →
    ∃ t, exec (.indexMark dt io) s = .next t ∧ Later dt s t ∧
      PhaseUnit.AtIndexEvent t.now s.config.settings.valveLead { s.phase with synced := true } t.phase) ∧
  (∀ (s : State) (dt : Nat) (io : CountInputs), s.phase.synced = false → s.phase.endTaken = [] → s.stations = ⟨[], []⟩ →
    (s.cell 17).isHolding = false → (s.clampAt 17).isHolding = false → (∀ b, s.clampAt 2 = .holding b → b.entry = none) →
    (s.line.mode = .emptying → s.inFlight ≠ 0) →
    (s.line.mode = .running →
      s.config.settings.idleLimit = 0 ∨ s.line.idle < s.config.settings.idleLimit ∨ s.inFlight ≠ 0) →
    ∃ t, exec (.indexMark dt io) s = .next t ∧ Later dt s t ∧
      PhaseUnit.AtIndexEvent t.now s.config.settings.valveLead { s.phase with synced := true } t.phase ∧
      (∀ p : Fin 18, t.cell p =
        if p = 1 then s.cell 0 else (s.cell (p - 1)).markInched ⟨false, (p - 1).val⟩) ∧
      t.gathering.pockets = s.gathering.pockets ∧
      (∀ p : Fin 24, t.clampAt p =
        if p = 18 then .empty
        else if p - 1 ∈ [(2 : Fin 24), 4, 6, 7, 9, 10] then (s.clampAt (p - 1)).markInched ⟨true, (p - 1).val⟩
        else s.clampAt (p - 1)) ∧
      (∀ p : Fin 24, t.carousel.places[p].number = s.carousel.places[p - 1].number) ∧
      t.miller = { s.miller with pending := true } ∧ t.cover = { s.cover with pending := true } ∧
      t.port = { s.port with snapSeq := s.port.snapSeq + 2 } ∧ (∀ x ∈ t.snapshotWords, t.word x.1 = x.2) ∧
      SameBut [.now, .phase, .gathering, .carousel, .miller, .cover, .port] s t ∧ BytesBut snapshotArea s t)

/-- A window end taken while its station is not engaged, in any line mode (R1, R7, R9, R12, R13, R15, R16, R51, R83).
LAUNCH and LOAD do nothing; at MILL, SPINE_GLUE, SIDE_GLUE, COVER, NIP and GAUGE the book at the station's position is
marked INCHED unless it already carries a spoil code, and at GAUGE its lock is released; at POCKET so are the books at
chain positions 1 to 16; at DELIVER the clamp at position 17 opens to the reject bin, and its record is posted under
INCHED or its own code, and in EMPTYING the posting of the last record takes the line to READY (R160). A changeover
point is made in RUNNING and EMPTYING and left pending in any other mode. The zeros beside the listed bits of the
entry's word 0x10 are the model's choice (assumption log, entry 39), and so is the detail 0 of a new INCHED mark before its
posting (entry 44). -/
def Obligations.UnservedEndMarksInched : Prop :=
  ∀ (s : State) (dt : Nat) (io : CountInputs) (w : Window), OnlyEvent (.closes w) s → w ∉ s.stations.engaged →
    (w = .launch ∨ w = .load →
      exec (.forwardEncoderCount dt io) s = .next { s with now := s.now + dt, phase := s.phase.afterEnd w }) ∧
    (∀ p, stationPosition w = some p → w ≠ .gauge →
      ∃ t, exec (.forwardEncoderCount dt io) s = .next t ∧ Later dt s t ∧ t.phase = s.phase.afterEnd w ∧
        t.clampAt p = (s.clampAt p).markInched ⟨true, p.val⟩ ∧ (∀ q : Fin 24, q ≠ p → t.clampAt q = s.clampAt q) ∧
        t.carousel = { s.carousel with places := t.carousel.places } ∧
        t.miller =
          (if w = .mill then
            if s.line.mode.acting then s.millChangeover.miller else { s.miller with pending := true }
           else s.miller) ∧
        t.cover =
          (if w = .cover then
            if s.line.mode.acting then s.coverChangeover.cover else { s.cover with pending := true }
           else s.cover) ∧
        SameBut [.now, .phase, .carousel, .miller, .cover] s t ∧ BytesBut [] s t) ∧
    (w = .gauge →
      ∃ t, exec (.forwardEncoderCount dt io) s = .next t ∧ Later dt s t ∧ t.phase = s.phase.afterEnd .gauge ∧
        t.clampAt 2 =
          (match s.clampAt 2 with
           | .holding b => .holding { b.markInched ⟨true, 2⟩ with entry := none }
           | x => x) ∧
        (∀ q : Fin 24, q ≠ 2 → t.clampAt q = s.clampAt q) ∧
        ((∀ b, s.clampAt 2 = .holding b → b.entry = none) → t.cache = s.cache) ∧
        (∀ b e, s.clampAt 2 = .holding b → b.entry = some e → LockReleased e s t) ∧
        SameBut [.now, .phase, .cache, .carousel] s t ∧ BytesBut [Header.occupancy] s t) ∧
    (w = .pocket →
      ∃ t, exec (.forwardEncoderCount dt io) s = .next t ∧ Later dt s t ∧ t.phase = s.phase.afterEnd .pocket ∧
        (∀ p : Fin 18, t.cell p = if p = 0 ∨ p = 17 then s.cell p else (s.cell p).markInched ⟨false, p.val⟩) ∧
        t.gathering.pockets = s.gathering.pockets ∧ SameBut [.now, .phase, .gathering] s t ∧ BytesBut [] s t) ∧
    (w = .deliver → (s.clampAt 17).isHolding = false → (s.line.mode = .emptying → s.inFlight ≠ 0) →
      ∃ t, exec (.forwardEncoderCount dt io) s = .next t ∧ Later dt s t ∧ t.phase = s.phase.afterEnd .deliver ∧
        t.clampAt 17 = .empty ∧ (∀ q : Fin 24, q ≠ 17 → t.clampAt q = s.clampAt q) ∧ t.carousel.gate1 = .toReject ∧
        t.carousel.lastDrop = some .toReject ∧ SameBut [.now, .phase, .carousel] s t ∧ BytesBut [] s t) ∧
    (w = .deliver → MemoryInv s → (s.line.mode = .emptying → s.inFlight ≠ 1) → ∀ b, s.clampAt 17 = .holding b →
      ∃ t, exec (.forwardEncoderCount dt io) s = .next t ∧ Later dt s t ∧ t.phase = s.phase.afterEnd .deliver ∧
        t.clampAt 17 = .empty ∧ (∀ q : Fin 24, q ≠ 17 → t.clampAt q = s.clampAt q) ∧ t.carousel.gate1 = .toReject ∧
        t.carousel.lastDrop = some .toReject ∧
        (∀ m, (b.markInched ⟨true, 17⟩).spoil = some m → SpoilLogged b.serial m.code.number 1 m.point s t) ∧
        SameBut [.now, .phase, .sched, .carousel, .port] s t) ∧
    (w = .deliver → MemoryInv s → s.line.mode = .emptying → s.inFlight = 1 → ∀ b, s.clampAt 17 = .holding b →
      ∃ t, exec (.forwardEncoderCount dt io) s = .next t ∧ Later dt s t ∧ Entered .ready s t ∧
        t.phase = s.phase.afterEnd .deliver ∧
        t.clampAt 17 = .empty ∧ (∀ q : Fin 24, q ≠ 17 → t.clampAt q = s.clampAt q) ∧ t.carousel.gate1 = .toReject ∧
        t.carousel.lastDrop = some .toReject ∧ t.line.causes = s.line.causes ∧
        t.port.counts[(3 : Fin 8)] = s.port.counts[(3 : Fin 8)] + 1 ∧
        t.word (Header.count 3) = t.port.counts[(3 : Fin 8)] ∧ (∀ x ∈ t.snapshotWords, t.word x.1 = x.2) ∧
        t.gathering.cells = s.gathering.cells ∧ t.trim = s.trim ∧
        (∀ m, (b.markInched ⟨true, 17⟩).spoil = some m → SpoilLogged b.serial m.code.number 1 m.point s t) ∧
        SameBut [.now, .phase, .stations, .sched, .gathering, .carousel, .format, .miller, .glue, .cover, .line, .port] s t)

/-! ### Launching, gathering and the carousel (chapters 2, 4 and 5) -/

/-- A launch (R30, R58): the book record in the cell at chain position 0, the next serial, the ticket's counts and
serials, DRAINING and the cursor's advance after the last first launch, the remake list's head, and the lock and used
mark of the job's entry; nothing else. The expected thickness of a job with an absent stock place is a free value
(assumption log, entry 13). -/
def Obligations.LaunchMakesABook : Prop :=
  ∀ (s : State) (x : HeldTicket) (kind : BookKind) (format : FormatState) (e : Fin 16), s.held x.index = some x →
    ∀ t, s.launch x kind format e = t →
      t.cell 0 = .holding
        { serial := s.sched.nextSerial
          ticket := x.index
          job := x.job
          kind := kind
          format := format
          entry := some e
          mask := 0
          spoil := none
          warnings := ⟨false, false, false⟩
          clamp := none
          glued := false
          covered := false
          nipped := false
          atLaunch :=
            if format = .present then s.cache.entries[e].copy.map fun r => launchFormat r x.personal s.cache.stockPlace
            else none
          conversions := none
          gauged := none } ∧
      (∀ p : Fin 18, p ≠ 0 → t.cell p = s.cell p) ∧ t.gathering.pockets = s.gathering.pockets ∧
      t.sched.nextSerial = (if s.sched.nextSerial = 0xFFFFFFFF then 1 else s.sched.nextSerial + 1) ∧
      t.word Header.nextSerial = t.sched.nextSerial ∧ t.sched.hold = s.sched.hold ∧
      t.sched.remakes = (if kind = .remake then s.sched.remakes.tail else s.sched.remakes) ∧
      t.held x.index = some
        { x with
          launched := x.launched + 1
          remade := if kind = .remake then x.remade + 1 else x.remade
          firstSerial := if x.launched = 0 then s.sched.nextSerial else x.firstSerial
          lastSerial := s.sched.nextSerial
          stage := if kind = .first ∧ (x.qty : Int) = x.launched + 1 - x.remade then .draining else x.stage } ∧
      (∀ i, i ≠ x.index → t.held i = s.held i) ∧
      t.mem.ticket x.index .launched = BitVec.ofNat 32 (x.launched + 1) ∧
      (x.lastSerial ≠ s.sched.nextSerial → t.mem.ticket x.index .lastSerial = s.sched.nextSerial) ∧
      (if kind = .first ∧ (x.qty : Int) = x.launched + 1 - x.remade ∧ x.stage = .active then
        t.sched.cursor = (s.sched.cursor + 1) % 256 ∧ t.word Header.cursor = BitVec.ofNat 32 t.sched.cursor ∧
          t.mem.ticket x.index .stage = Stage.draining.word
       else t.sched.cursor = s.sched.cursor) ∧
      t.cache.entries[e] = { s.cache.entries[e] with locks := s.cache.entries[e].locks + 1, used := true } ∧
      (∀ f : Fin 16, f ≠ e → t.cache.entries[f] = s.cache.entries[f]) ∧ t.cache.stock = s.cache.stock ∧
      t.cache.fetch = s.cache.fetch ∧ SameBut [.sched, .cache, .gathering] s t ∧
      BytesBut
        ([Header.nextSerial, Header.remakeLength, Header.cursor] ++
          [TicketField.launched, .remade, .firstSerial, .lastSerial, .stage].map (ticketAddr x.index)) s t

/-- The launch demand at a LAUNCH window start (R7, R12, R20, R23 to R31, R33, R40, R45, R46, R166): NOT_RUNNING in
every mode but RUNNING; in RUNNING NO_ROOM at the high mark; else the head of the remake list, launched as a REMAKE or,
stopped, counted short; else the ticket under the cursor. POSTED it is cancelled, refused by number, job check or
quantity check, made ACTIVE and launched, or waits while its job is fetched; ACTIVE it is launched with its format
PRESENT or PENDING, is held back by the first hold check that applies, or, stopped, goes DRAINING; in any other stage it
stays. Then the ticket after the cursor has its job fetched ahead when nothing else is fetched. Where the whole of the
Schedule unit's other state is said to stay, no ticket is held twice (R20). That an activation writes the stage word
alone, the counts, serials and defect word standing as the host left them, is the model's reading (assumption log, entry
16), and so is a prefetch that takes the stage and the job of a held ticket from its held entry (entry 36). -/
def Obligations.LaunchDemandDecides : Prop :=
  ∀ (s : State) (dt : Nat) (io : CountInputs), OnlyEvent (.opens .launch) s →
    (s.line.mode ≠ .running →
      ∃ t, exec (.forwardEncoderCount dt io) s = .next t ∧ Later dt s t ∧ t.sched = { s.sched with hold := .notRunning } ∧
        t.word Header.hold = 1 ∧ SameBut [.now, .phase, .stations, .sched] s t ∧ BytesBut [Header.hold] s t) ∧
    (s.line.mode = .running → s.cache.fetch.isSome = true → s.config.settings.highMark ≤ s.trim.queue.length →
      s.line.idle ≤ 65535 →
      ∃ t, exec (.forwardEncoderCount dt io) s = .next t ∧ Later dt s t ∧ t.sched = { s.sched with hold := .noRoom } ∧
        t.word Header.hold = 2 ∧
        t.line = { s.line with idle := if s.line.idle = 65535 then 65535 else s.line.idle + 1 } ∧
        t.stations = { s.stations with engaged := .launch :: s.stations.engaged } ∧
        SameBut [.now, .phase, .stations, .sched, .line] s t ∧ BytesBut [Header.hold] s t) ∧
    (s.line.mode = .running → s.cache.fetch.isSome = true → s.trim.queue.length < s.config.settings.highMark →
      s.sched.remakes = [] → ∀ x, s.held s.sched.cursor = some x → x.stage = .active → x.stop = .noStop →
      s.mem.cancelled s.sched.cursor = false → ∀ e, s.cache.lookup x.job = some e →
      ∀ r, s.cache.entries[e].copy = some r →
      (NoHold r s →
        ∃ t, exec (.forwardEncoderCount dt io) s = .next t ∧ Later dt s t ∧
          t.cell 0 = .holding (newBook s x .first .present e) ∧ t.sched.hold = .launched ∧ t.word Header.hold = 0 ∧
          t.line = { s.line with idle := 0 } ∧
          t.cache.entries[e] = { s.cache.entries[e] with locks := s.cache.entries[e].locks + 1, used := true } ∧
          (∀ p : Fin 18, p ≠ 0 → t.cell p = s.cell p) ∧ t.gathering.pockets = s.gathering.pockets ∧
          SameBut [.now, .phase, .stations, .sched, .cache, .gathering, .line] s t ∧
          BytesBut
            ([Header.nextSerial, Header.cursor, Header.hold] ++
              [TicketField.launched, .remade, .firstSerial, .lastSerial, .stage].map (ticketAddr x.index)) s t) ∧
      (∀ hold, HoldApplies r hold s → ScheduleInv s →
        ∃ t, exec (.forwardEncoderCount dt io) s = .next t ∧ Later dt s t ∧ GapTaken hold s t ∧
          t.sched = { s.sched with hold := hold } ∧ SameBut [.now, .phase, .stations, .sched, .line] s t ∧
          BytesBut [Header.hold] s t)) ∧
    (s.line.mode = .running → s.trim.queue.length < s.config.settings.highMark → MemoryInv s →
      (∀ i rest, s.sched.remakes = i :: rest → s.cache.fetch.isSome = true → ∀ x, s.held i = some x →
        (x.stop = .noStop → s.mem.cancelled i = false → ∀ e, s.cache.lookup x.job = some e →
          ∀ r, s.cache.entries[e].copy = some r → NoHold r s →
          ∃ t, exec (.forwardEncoderCount dt io) s = .next t ∧ Later dt s t ∧
            t.cell 0 = .holding (newBook s x .remake .present e) ∧ (∀ p : Fin 18, p ≠ 0 → t.cell p = s.cell p) ∧
            t.sched.remakes = rest ∧ t.word Header.remakeLength = BitVec.ofNat 32 rest.length ∧
            t.held i = some
              { x with
                launched := x.launched + 1
                remade := x.remade + 1
                firstSerial := if x.launched = 0 then s.sched.nextSerial else x.firstSerial
                lastSerial := s.sched.nextSerial } ∧
            (∀ k, k ≠ i → t.held k = s.held k) ∧ t.sched.cursor = s.sched.cursor ∧
            t.mem.ticket i .launched = BitVec.ofNat 32 (x.launched + 1) ∧
            t.mem.ticket i .remade = BitVec.ofNat 32 (x.remade + 1) ∧ t.sched.hold = .launched ∧
            t.word Header.hold = 0 ∧ t.line = { s.line with idle := 0 } ∧
            t.cache.entries[e] = { s.cache.entries[e] with locks := s.cache.entries[e].locks + 1, used := true } ∧
            (∀ f : Fin 16, f ≠ e → t.cache.entries[f] = s.cache.entries[f]) ∧
            SameBut [.now, .phase, .stations, .sched, .cache, .gathering, .line] s t) ∧
        (x.stop ≠ .noStop ∨ s.mem.cancelled i = true → x.stays →
          ∃ t, exec (.forwardEncoderCount dt io) s = .next t ∧ Later dt s t ∧ GapTaken .noWork s t ∧
            t.sched.remakes = rest ∧ t.word Header.remakeLength = BitVec.ofNat 32 rest.length ∧
            t.held i = some
              { x with stop := if x.stop = .noStop then .cancelled else x.stop, short := x.short + 1 } ∧
            (∀ k, k ≠ i → t.held k = s.held k) ∧ t.mem.ticket i .short = BitVec.ofNat 32 (x.short + 1) ∧
            t.sched.cursor = s.sched.cursor ∧ SameBut [.now, .phase, .stations, .sched, .line] s t ∧
            BytesBut [Header.hold, Header.remakeLength, ticketAddr i .short] s t)) ∧
      (s.sched.remakes = [] → ∀ i, i = s.sched.cursor →
        (∀ x, s.held i = some x → x.stage = .active → x.stop ≠ .noStop ∨ s.mem.cancelled i = true → x.stays →
          s.cache.fetch.isSome = true →
          ∃ t, exec (.forwardEncoderCount dt io) s = .next t ∧ Later dt s t ∧ GapTaken .noWork s t ∧
            t.held i = some { x with stop := if x.stop = .noStop then .cancelled else x.stop, stage := .draining } ∧
            (∀ k, k ≠ i → t.held k = s.held k) ∧ t.mem.ticket i .stage = 3 ∧ t.sched.cursor = (i + 1) % 256 ∧
            t.word Header.cursor = BitVec.ofNat 32 ((i + 1) % 256) ∧ t.sched.remakes = [] ∧
            SameBut [.now, .phase, .stations, .sched, .line] s t ∧
            BytesBut [Header.hold, Header.cursor, ticketAddr i .stage] s t) ∧
        (s.cache.fetch.isSome = true → ScheduleInv s →
          (∃ x, s.held i = some x ∧ x.stage = .draining ∧ (x.stop ≠ .noStop ∨ s.mem.cancelled i = false)) ∨
            (s.held i = none ∧ s.mem.ticket i .stage ≠ 1) →
          ∃ t, exec (.forwardEncoderCount dt io) s = .next t ∧ Later dt s t ∧ GapTaken .noWork s t ∧
            t.sched = { s.sched with hold := .noWork } ∧ SameBut [.now, .phase, .stations, .sched, .line] s t ∧
            BytesBut [Header.hold] s t) ∧
        (∀ x, s.held i = some x → x.stage = .active → x.stop = .noStop → s.mem.cancelled i = false →
          s.cache.lookup x.job = none →
          (∀ f, s.cache.fetch = some f → f.job = x.job → x.mode ≠ .personal → s.pot.inBand = true → s.cell 0 = .empty →
            ∃ t, exec (.forwardEncoderCount dt io) s = .next t ∧ Later dt s t ∧
              t.cell 0 = .holding (newBook s x .first .pending f.target) ∧ (∀ p : Fin 18, p ≠ 0 → t.cell p = s.cell p) ∧
              t.cache.fetch = some f ∧
              t.cache.entries[f.target] =
                { s.cache.entries[f.target] with locks := s.cache.entries[f.target].locks + 1, used := true } ∧
              t.sched.hold = .launched ∧ t.word Header.hold = 0 ∧ t.line = { s.line with idle := 0 } ∧
              t.mem.ticket i .launched = BitVec.ofNat 32 (x.launched + 1) ∧
              SameBut [.now, .phase, .stations, .sched, .cache, .gathering, .line] s t) ∧
          (∀ f, s.cache.fetch = some f → f.job = x.job ∧ x.mode = .personal ∨ f.job ≠ x.job → ScheduleInv s →
            ∃ t, exec (.forwardEncoderCount dt io) s = .next t ∧ Later dt s t ∧
              GapTaken
                (if f.job ≠ x.job ∧ ∀ e : Fin 16, s.cache.entries[e].locks ≠ 0 then .cacheLocked else .cacheMiss) s t ∧
              t.sched = { s.sched with hold := t.sched.hold } ∧ SameBut [.now, .phase, .stations, .sched, .line] s t ∧
              BytesBut [Header.hold] s t) ∧
          (s.cache.fetch = none → (∃ e : Fin 16, s.cache.entries[e].locks = 0) → x.mode = .personal → ScheduleInv s →
            ∃ t, exec (.forwardEncoderCount dt io) s = .next t ∧ Later dt s t ∧ FetchStarted x.job s t ∧
              GapTaken .cacheMiss s t ∧ t.sched = { s.sched with hold := .cacheMiss } ∧
              SameBut [.now, .phase, .stations, .sched, .cache, .line] s t ∧
              BytesBut [Header.hold, Header.occupancy] s t) ∧
          (s.cache.fetch = none → (∃ e : Fin 16, s.cache.entries[e].locks = 0) → x.mode ≠ .personal →
            s.pot.inBand = true → s.cell 0 = .empty →
            ∃ t, exec (.forwardEncoderCount dt io) s = .next t ∧ Later dt s t ∧
              (∃ e, FetchTarget s.cache e ∧ t.cache.fetch = some ⟨x.job, e, t.now, none, []⟩ ∧
                t.cache.entries[e] = ⟨.filling, some x.job, none, 1, true, false⟩ ∧
                t.cell 0 = .holding (newBook s x .first .pending e)) ∧
              (∀ p : Fin 18, p ≠ 0 → t.cell p = s.cell p) ∧ t.sched.hold = .launched ∧ t.word Header.hold = 0 ∧
              t.line = { s.line with idle := 0 } ∧
              SameBut [.now, .phase, .stations, .sched, .cache, .gathering, .line] s t)) ∧
        (s.held i = none → s.mem.ticket i .stage = 1 → ∀ job qty limit, job = (s.mem.ticket i .job).toNat →
          qty = (s.mem.ticket i .qty).toNat → limit = (s.mem.ticket i .remakeLimit).toNat →
          (∀ reason code, s.cache.fetch.isSome = true →
            (s.mem.ticket i .request = 1 ∧ reason = 64 ∧ code = 0) ∨
              (s.mem.ticket i .request ≠ 1 ∧ 63 < job ∧ reason = 66 ∧ code = 1) ∨
              (s.mem.ticket i .request ≠ 1 ∧ job ≤ 63 ∧ ∃ e r, s.cache.lookup job = some e ∧
                s.cache.entries[e].copy = some r ∧
                ((badJob r s.cache.stockPlace = some code ∧ reason = 66) ∨
                  (badJob r s.cache.stockPlace = none ∧ QtyFault r qty limit code ∧ reason = 67))) →
            ∃ t, exec (.forwardEncoderCount dt io) s = .next t ∧ Later dt s t ∧ RefusedTicket i reason code s t ∧
              GapTaken .noWork s t ∧ t.sched = { s.sched with cursor := t.sched.cursor, hold := .noWork } ∧
              t.port = { s.port with counts := t.port.counts, attention := t.port.attention } ∧
              SameBut [.now, .phase, .stations, .sched, .line, .port] s t ∧
              BytesBut ([Header.hold, Header.count 1, Header.cursor] ++ ticketWordsAt i) s t) ∧
          (s.mem.ticket i .request ≠ 1 → job ≤ 63 → s.cache.fetch.isSome = true →
            ∀ e, s.cache.lookup job = some e → ∀ r, s.cache.entries[e].copy = some r →
            badJob r s.cache.stockPlace = none → (∀ code, ¬ QtyFault r qty limit code) →
            ∀ x, x = activated s i r.mode →
            (NoHold r s →
              ∃ t, exec (.forwardEncoderCount dt io) s = .next t ∧ Later dt s t ∧
                t.cell 0 = .holding (newBook s x .first .present e) ∧ (∀ p : Fin 18, p ≠ 0 → t.cell p = s.cell p) ∧
                t.held i = some
                  { x with
                    launched := 1
                    firstSerial := s.sched.nextSerial
                    lastSerial := s.sched.nextSerial
                    stage := if qty = 1 then .draining else .active } ∧
                (∀ k, k ≠ i → t.held k = s.held k) ∧ t.mem.ticket i .stage = (if qty = 1 then 3 else 2) ∧
                t.mem.ticket i .launched = 1 ∧ t.sched.cursor = (if qty = 1 then (i + 1) % 256 else i) ∧
                t.sched.hold = .launched ∧ t.word Header.hold = 0 ∧ t.line = { s.line with idle := 0 } ∧
                t.cache.entries[e] = { s.cache.entries[e] with locks := s.cache.entries[e].locks + 1, used := true } ∧
                SameBut [.now, .phase, .stations, .sched, .cache, .gathering, .line] s t) ∧
            (∀ hold, HoldApplies r hold s →
              ∃ t, exec (.forwardEncoderCount dt io) s = .next t ∧ Later dt s t ∧ GapTaken hold s t ∧
                t.held i = some x ∧ (∀ k, k ≠ i → t.held k = s.held k) ∧ t.mem.ticket i .stage = 2 ∧
                t.sched.cursor = i ∧ SameBut [.now, .phase, .stations, .sched, .line] s t ∧
                BytesBut [Header.hold, ticketAddr i .stage] s t)) ∧
          (s.mem.ticket i .request ≠ 1 → job ≤ 63 → s.cache.lookup job = none →
            (s.cache.fetch = none → (∃ e : Fin 16, s.cache.entries[e].locks = 0) →
              ∃ t, exec (.forwardEncoderCount dt io) s = .next t ∧ Later dt s t ∧ FetchStarted job s t ∧
                GapTaken .cacheMiss s t ∧ t.sched = { s.sched with hold := .cacheMiss } ∧
                SameBut [.now, .phase, .stations, .sched, .cache, .line] s t ∧
                BytesBut [Header.hold, Header.occupancy] s t) ∧
            (s.cache.fetch.isSome = true ∨ (∀ e : Fin 16, s.cache.entries[e].locks ≠ 0) →
              ∃ t, exec (.forwardEncoderCount dt io) s = .next t ∧ Later dt s t ∧
                GapTaken (if ∀ e : Fin 16, s.cache.entries[e].locks ≠ 0 then .cacheLocked else .cacheMiss) s t ∧
                t.sched = { s.sched with hold := t.sched.hold } ∧ SameBut [.now, .phase, .stations, .sched, .line] s t ∧
                BytesBut [Header.hold] s t))))) ∧
    (s.line.mode = .running → s.config.settings.highMark ≤ s.trim.queue.length → s.cache.fetch = none →
      ∀ next, next = (s.sched.cursor + 1) % 256 → ∀ job,
        (s.held next = none ∧ s.mem.ticket next .stage = 1 ∧ job = (s.mem.ticket next .job).toNat) ∨
          (∃ x, s.held next = some x ∧ x.stage = .active ∧ job = x.job) →
      ∃ t, exec (.forwardEncoderCount dt io) s = .next t ∧ Later dt s t ∧ GapTaken .noRoom s t ∧
        t.sched = { s.sched with hold := .noRoom } ∧
        (if job ≤ 63 ∧ s.cache.lookup job = none ∧ ∃ e : Fin 16, s.cache.entries[e].locks = 0 then FetchStarted job s t
         else t.cache = s.cache) ∧
        SameBut [.now, .phase, .stations, .sched, .cache, .line] s t ∧ BytesBut [Header.hold, Header.occupancy] s t)

/-- The POCKET window start (R7, R12, R53, R61). In an acting mode, where no book beyond the launch point waits for its
format, the station is engaged, and every pocket feeds exactly when the book at its position has its format, no spoil
code and an entry for that pocket in its job copy. In any line mode it is the use point of a book still PENDING at chain
position 1, the only one that waits: UNFORMATTED unless it carries its own code, FAILED, its lock released, not fed, the
fetch running on. The detail 0 of the new mark before its posting is the model's choice (assumption log, entry 44). -/
def Obligations.PocketStartFeeds : Prop :=
  (∀ (s : State) (dt : Nat) (io : CountInputs), OnlyEvent (.opens .pocket) s → s.line.mode.acting = true →
    (∀ p : Fin 18, p ≠ 0 → (s.cell p).waits = false) → (∀ p : Fin 24, (s.clampAt p).waits = false) →
    ∃ t, exec (.forwardEncoderCount dt io) s = .next t ∧ Later dt s t ∧
      (∀ k : Fin 16, t.gathering.pockets[k] =
        match s.cell (pocketPosition k) with
        | .holding b =>
          if b.format = .present ∧ b.spoil = none ∧
              ((s.jobCopy b).any fun r => r.entries.any fun g => decide (g.pocket = k.val + 1)) = true then
            { s.gathering.pockets[k] with feed := some b.serial, code := none }
          else { s.gathering.pockets[k] with feed := none }
        | _ => { s.gathering.pockets[k] with feed := none }) ∧
      t.gathering.cells = s.gathering.cells ∧
      t.stations = { s.stations with engaged := .pocket :: s.stations.engaged } ∧
      t.phase =
        { s.phase with
          counter := s.phase.counter + 1
          sinceIndex := min 65 (s.phase.sinceIndex + 1)
          startTaken := .pocket :: s.phase.startTaken } ∧
      SameBut [.now, .phase, .stations, .gathering] s t ∧ BytesBut [] s t) ∧
  (∀ (s : State) (dt : Nat) (io : CountInputs), OnlyEvent (.opens .pocket) s → ∀ b e, s.cell 1 = .holding b →
    b.format = .pending → b.entry = some e → s.cache.entries[e].stale = false →
    (∀ p : Fin 18, 1 < p → (s.cell p).waits = false) → (∀ p : Fin 24, (s.clampAt p).waits = false) →
    ∃ t, exec (.forwardEncoderCount dt io) s = .next t ∧ Later dt s t ∧
      t.cell 1 = .holding
        { b with
          format := .failed
          entry := none
          spoil := some (b.spoil.getD ⟨.unformatted, ⟨false, 1⟩, 0, false⟩) } ∧
      (∀ p : Fin 18, p ≠ 1 → t.cell p = s.cell p) ∧
      (∀ f : Fin 16, t.cache.entries[f] =
        if f = e then { s.cache.entries[e] with locks := s.cache.entries[e].locks - 1 } else s.cache.entries[f]) ∧
      t.cache.stock = s.cache.stock ∧ t.cache.fetch = s.cache.fetch ∧
      t.gathering.pockets[(0 : Fin 16)] =
        (if s.line.mode.acting then { s.gathering.pockets[(0 : Fin 16)] with feed := none }
         else s.gathering.pockets[(0 : Fin 16)]) ∧
      SameBut [.now, .phase, .stations, .cache, .gathering] s t ∧ BytesBut [] s t)

/-- The verdict of a pocket on the book it feeds (R63 to R66, R69): the outcome by the detector, the signature entry and
the code taken; the received mask; the spoil mark on a book without one; the miss counter, STARVED and its one
notice. That the code taken keeps its value after the verdict, and that a pocket already STARVED counts on under a raised
limit, is the model's choice (assumption log, entries 34 and 36). -/
def Obligations.PocketVerdict : Prop :=
  ∀ (s : State) (io : CountInputs) (k : Fin 16), s.gathering.pockets[k].feed.isSome = true →
    ∀ b, s.cell (pocketPosition k) = .holding b → ∀ r, s.jobCopy b = some r → ∀ g, r.sigFor k = some g → b.spoil = none →
    ∀ outcome : Option SpoilCode,
      outcome =
        (match io.sheets[k], s.gathering.pockets[k].code with
         | .double, _ => some .sigDouble
         | .noSheet, _ => some .sigMissing
         | .one, some c => if g.uncoded = true ∨ c = g.code then none else some .sigWrong
         | .one, none => if g.uncoded = true ∨ r.tolerateNoread = true then none else some .sigNoread) →
      ∀ starves : Bool,
        starves = (decide (io.sheets[k] = .noSheet) &&
          decide (s.config.settings.missLimit ≤ s.gathering.pockets[k].misses + 1)) →
        ∀ t, s.pocketVerdict io k = t →
          t.cell (pocketPosition k) = .holding
            { b with
              mask := if io.sheets[k] = .noSheet then b.mask else b.mask ||| (1 <<< k.val)
              spoil := outcome.map fun c =>
                ⟨c, ⟨false, k.val + 1⟩, s.gathering.pockets[k].code.getD 0, s.gathering.pockets[k].code.isNone⟩ } ∧
          (∀ p : Fin 18, p ≠ pocketPosition k → t.cell p = s.cell p) ∧
          t.gathering.pockets[k] =
            { s.gathering.pockets[k] with
              feed := none
              misses :=
                if starves then s.config.settings.missLimit
                else if io.sheets[k] = .noSheet then s.gathering.pockets[k].misses + 1
                else if outcome = none then 0 else s.gathering.pockets[k].misses
              starved := if outcome = none then false else s.gathering.pockets[k].starved || starves } ∧
          (∀ j : Fin 16, j ≠ k → t.gathering.pockets[j] = s.gathering.pockets[j]) ∧
          (if starves = true ∧ s.gathering.pockets[k].starved = false then
            Noticed (oneNotice .pocketStarved) s t ∧ AttentionInv t ∧ SameBut [.gathering, .port] s t ∧
              t.port = { s.port with counts := t.port.counts, attention := t.port.attention } ∧
              BytesBut [Header.count 5] s t
           else SameBut [.gathering] s t ∧ t.mem = s.mem)

/-- The hand-over at an engaged LOAD window end (R7, R71, R75): a book goes to the clamp at carousel position 0 and takes
its number, an UNKNOWN cell makes the clamp UNKNOWN, both leaving the cell EMPTY; an EMPTY cell changes nothing. And the
nip (R7, R77, R79, R125): at a NIP window start in an acting mode it takes up a book without spoil code and closes on it
exactly when it is covered; at an engaged end it opens, and a book it serves takes the nipped mark. -/
def Obligations.LoadAndNip : Prop :=
  (∀ (s : State) (dt : Nat) (io : CountInputs), OnlyEvent (.closes .load) s → .load ∈ s.stations.engaged →
    ∃ t, exec (.forwardEncoderCount dt io) s = .next t ∧ Later dt s t ∧ t.cell 17 = .empty ∧
      t.clampAt 0 =
        (match s.cell 17 with
         | .holding b => .holding { b with clamp := some s.carousel.places[(0 : Fin 24)].number }
         | .unknown => .unknown
         | .empty => s.clampAt 0) ∧
      (∀ p : Fin 18, p ≠ 17 → t.cell p = s.cell p) ∧ (∀ p : Fin 24, p ≠ 0 → t.clampAt p = s.clampAt p) ∧
      (∀ p : Fin 24, t.carousel.places[p].number = s.carousel.places[p].number) ∧
      t.carousel = { s.carousel with places := t.carousel.places } ∧ t.gathering.pockets = s.gathering.pockets ∧
      t.stations.engaged = s.stations.engaged.filter (fun w => decide (w ≠ .load)) ∧
      t.stations.serving = s.stations.serving.filter (fun w => decide (w ≠ .load)) ∧
      t.phase =
        { s.phase with
          counter := s.phase.counter + 1
          sinceIndex := min 65 (s.phase.sinceIndex + 1)
          endTaken := .load :: s.phase.endTaken } ∧
      SameBut [.now, .phase, .stations, .gathering, .carousel] s t ∧ BytesBut [] s t) ∧
  (∀ (s : State) (dt : Nat) (io : CountInputs), OnlyEvent (.opens .nip) s → s.line.mode.acting = true →
    ∀ b, s.clampAt 10 = .holding b → b.spoil = none →
    ∃ t, exec (.forwardEncoderCount dt io) s = .next t ∧ Later dt s t ∧
      t.cover = { s.cover with nipClosed := b.covered } ∧ t.stations.engaged = .nip :: s.stations.engaged ∧
      (∀ w : Window, w ∈ t.stations.serving ↔ w = .nip ∨ w ∈ s.stations.serving) ∧
      SameBut [.now, .phase, .stations, .cover] s t ∧ BytesBut [] s t) ∧
  (∀ (s : State) (dt : Nat) (io : CountInputs), OnlyEvent (.closes .nip) s → .nip ∈ s.stations.engaged →
    ∀ b, s.clampAt 10 = .holding b →
    ∃ t, exec (.forwardEncoderCount dt io) s = .next t ∧ Later dt s t ∧
      t.cover = { s.cover with nipClosed := false } ∧
      t.clampAt 10 = .holding { b with nipped := b.nipped || decide (.nip ∈ s.stations.serving) } ∧
      (∀ p : Fin 24, p ≠ 10 → t.clampAt p = s.clampAt p) ∧
      t.carousel = { s.carousel with places := t.carousel.places } ∧
      (∀ w : Window, w ∈ t.stations.engaged ↔ w ≠ .nip ∧ w ∈ s.stations.engaged) ∧
      SameBut [.now, .phase, .stations, .carousel, .cover] s t ∧ BytesBut [] s t)

/-! ### The gauge and the format (chapter 6) -/

/-- The GAUGE window (R7, R90 to R92, R101): at a start in an acting mode on a book without spoil code, an idle converter
begins the first of four conversions and the sequence starts at m = 0 and Σr = 0; at an engaged end of a served book,
whose numbers the record's own copy gives, the sequence ends, the book has its values formed and its lock is
released. -/
def Obligations.GaugeServes : Prop :=
  (∀ (s : State) (dt : Nat) (io : CountInputs), OnlyEvent (.opens .gauge) s → s.line.mode.acting = true →
    s.format.converter.doing = .idle → ∀ b, s.clampAt 2 = .holding b → b.spoil = none →
    ∃ t, exec (.forwardEncoderCount dt io) s = .next t ∧ Later dt s t ∧ t.format.gauge = some ⟨0, 0⟩ ∧
      t.format.converter =
        { s.format.converter with doing := .gauge, outstanding := 3, kept := true, endsAt := s.now + dt + 25 } ∧
      t.stations.engaged = .gauge :: s.stations.engaged ∧ .gauge ∈ t.stations.serving ∧
      SameBut [.now, .phase, .stations, .format] s t ∧ BytesBut [] s t) ∧
  (∀ (s : State) (dt : Nat) (io : CountInputs), OnlyEvent (.closes .gauge) s → .gauge ∈ s.stations.engaged →
    .gauge ∈ s.stations.serving → ∀ b, s.clampAt 2 = .holding b → ∀ e, b.entry = some e →
    ∀ r, s.cache.entries[e].copy = some r → s.cache.entries[e].stale = false → ∀ q, s.format.gauge = some q →
    ∃ t, exec (.forwardEncoderCount dt io) s = .next t ∧ Later dt s t ∧
      t.clampAt 2 = .holding { formatBook s.config.settings r q b with entry := none } ∧
      (∀ p : Fin 24, p ≠ 2 → t.clampAt p = s.clampAt p) ∧ t.format.gauge = none ∧
      t.format.converter.outstanding = (if s.format.converter.doing = .idle then s.format.converter.outstanding else 0) ∧
      t.cache.entries[e] = { s.cache.entries[e] with locks := s.cache.entries[e].locks - 1 } ∧
      (∀ f : Fin 16, f ≠ e → t.cache.entries[f] = s.cache.entries[f]) ∧ .gauge ∉ t.stations.engaged ∧
      SameBut [.now, .phase, .stations, .cache, .carousel, .format] s t ∧ BytesBut [] s t)

/-- The values formed for a book from m conversions with sum Σr (R93, R95 to R100): each formula in signed, exact
arithmetic, the spoil marks and warnings of its checks, and GAUGE_FAIL with nothing formed below two conversions. A
detail value that 32 bits cannot hold is a free value (assumption log, entry 14). -/
def Obligations.GaugeFormulas : Prop :=
  ∀ (c : Settings) (r : JobRecord) (q : GaugeSeq) (b : Book) (l : LaunchFormat), b.atLaunch = some l → b.spoil = none →
    b.warnings = ⟨false, false, false⟩ → r.glueMargin ≤ r.height →
    (q.m < 2 → formatBook c r q b =
      { b with conversions := some q.m, spoil := some ⟨.gaugeFail, ⟨true, 2⟩, BitVec.ofNat 32 q.m, false⟩ }) ∧
    (2 ≤ q.m → ∃ g : GaugeFormat, (formatBook c r q b).gauged = some g ∧
      (formatBook c r q b).conversions = some q.m ∧
      (g.tMeas : Int) = max 0 ((q.sum : Int) - q.m * c.gaugeZero) * c.gaugeSpan / (1024 * q.m) ∧
      (g.cover = none ↔ l.mode = .noCover) ∧
      (∀ k ∈ g.cover,
        k.spine % 50 = 0 ∧ 2 * k.spine ≤ 2 * (g.tMeas + r.allowance) + 50 ∧ 2 * (g.tMeas + r.allowance) < 2 * k.spine + 50 ∧
        k.scores.s1 = ((r.coverWidth : Int) - k.spine + 50) / 100 * 50 ∧ k.scores.s2 = k.scores.s1 + k.spine ∧
        k.scores.h1 = k.scores.s1 - r.hinge ∧ k.scores.h2 = k.scores.s2 + r.hinge) ∧
      (∀ o e : Nat, r.glueMargin * 4096 ≤ o * c.pitch → o * c.pitch < r.glueMargin * 4096 + c.pitch →
        e * c.pitch ≤ (r.height - r.glueMargin) * 4096 → (r.height - r.glueMargin) * 4096 < (e + 1) * c.pitch →
        g.spineOpen = max c.wSpineGlue.first (min c.wSpineGlue.last (c.leadSpine + o)) ∧
        g.spineClose = max c.wSpineGlue.first (min c.wSpineGlue.last (c.leadSpine + e)) ∧
        g.sideOpen = max c.wSideGlue.first (min c.wSideGlue.last (c.leadSide + o)) ∧
        g.sideClose = max c.wSideGlue.first (min c.wSideGlue.last (c.leadSide + e)) ∧
        ((formatBook c r q b).warnings.glueClipped = true ↔
          g.spineOpen ≠ c.leadSpine + o ∨ g.spineClose ≠ c.leadSpine + e ∨ g.sideOpen ≠ c.leadSide + o ∨
            g.sideClose ≠ c.leadSide + e)) ∧
      g.expectedFlow = (g.spineClose - g.spineOpen) * c.pitch * r.flowFactor / (4096 * 10000) ∧
      g.knives.front = (r.finalWidth + 5) / 10 * 10 ∧ g.knives.head = (r.headTrim + 5) / 10 * 10 ∧
      g.knives.foot = (r.headTrim + r.finalHeight + 5) / 10 * 10 ∧ g.millDepth = r.millDepth ∧ g.setTime = r.setTime ∧
      g.twoUp = r.twoUp ∧
      ((formatBook c r q b).warnings.spineDrift = true ↔
        ∃ k ∈ g.cover, (r.driftLimit : Int) < (k.spine : Int) - r.designSpine ∨
          (r.driftLimit : Int) < (r.designSpine : Int) - k.spine) ∧
      (formatBook c r q b).warnings.glueHeavy = false ∧
      (formatBook c r q b).spoil =
        (if (max 250 (l.tExp * r.tolerance / 1000) : Int) < |(g.tMeas : Int) - l.tExp| then
          some ⟨.thickMismatch, ⟨true, 2⟩, word32 l.tExp, false⟩
         else
          match g.cover with
          | some k =>
            if k.scores.h1 < 10000 ∨ (r.coverWidth : Int) - 10000 < k.scores.h2 then
              some ⟨.coverShort, ⟨true, 2⟩, word32 k.spine, false⟩
            else none
          | none => none))

/-! ### Milling, gluing and covering (chapter 7) -/

/-- The miller (R7, R77, R105, R107 to R109): at a MILL window start in an acting mode a book without spoil code is milled
when the drive stands at its depth and marked MILL_LATE otherwise; at an engaged end of a milled book, no book standing
at carousel position 3, the ratio joins the wear history and the WEAR mark is judged; a changeover takes up the depth
of the book at position 3. -/
def Obligations.MillerServes : Prop :=
  (∀ (s : State) (dt : Nat) (io : CountInputs), OnlyEvent (.opens .mill) s → s.line.mode.acting = true →
    ∀ b, s.clampAt 4 = .holding b → b.spoil = none → ∀ g, b.gauged = some g →
    ∃ t, exec (.forwardEncoderCount dt io) s = .next t ∧ Later dt s t ∧
      (if s.miller.drive.target = none ∧ s.miller.drive.setting = some g.millDepth then
        t.miller = { s.miller with integrating := true, load := 0 } ∧ t.carousel = s.carousel
       else
        t.miller = s.miller ∧
          t.clampAt 4 = .holding { b with spoil := some ⟨.millLate, ⟨true, 4⟩, word32 g.millDepth, false⟩ } ∧
          ∀ p : Fin 24, p ≠ 4 → t.clampAt p = s.clampAt p) ∧
      t.stations.engaged = .mill :: s.stations.engaged ∧ .mill ∈ t.stations.serving ∧
      SameBut [.now, .phase, .stations, .carousel, .miller] s t ∧ BytesBut [] s t) ∧
  (∀ (s : State) (dt : Nat) (io : CountInputs), OnlyEvent (.closes .mill) s → .mill ∈ s.stations.engaged →
    s.line.mode.acting = true → (s.clampAt 3).isHolding = false → s.miller.integrating = true →
    ∀ b, s.clampAt 4 = .holding b → ∀ g, b.gauged = some g →
    ∀ e, e = g.tMeas * g.millDepth * s.config.settings.millCal / 1000000000 →
    ∀ wear, wear =
      (if e = 0 then s.miller.wear
       else (if s.miller.wear.length < 16 then s.miller.wear else s.miller.wear.tail) ++
        [min 65535 (s.miller.load * 1000 / e)]) →
    ∀ index, index = (if wear = [] then 0 else wear.sum / wear.length) →
    ∀ rises : Bool, rises = (decide (e ≠ 0) && s.miller.armed && decide (s.config.settings.wearLimit < index)) →
    ∃ t, exec (.forwardEncoderCount dt io) s = .next t ∧ Later dt s t ∧
      t.miller =
        { s.miller with
          integrating := false
          pending := false
          wear := wear
          armed :=
            if e = 0 then s.miller.armed
            else if s.miller.armed then !decide (s.config.settings.wearLimit < index)
            else decide (index < s.config.settings.wearLimit * 9 / 10) } ∧
      (if rises then Noticed (oneNotice .wear) s t else Noticed (fun _ => 0) s t) ∧
      t.port = { s.port with counts := t.port.counts, attention := t.port.attention } ∧ .mill ∉ t.stations.engaged ∧
      SameBut [.now, .phase, .stations, .miller, .port] s t ∧
      BytesBut (if rises then [Header.count 7] else []) s t) ∧
  (∀ s : State, ∀ b, s.clampAt 3 = .holding b → b.spoil = none → ∀ g, b.gauged = some g →
    s.millChangeover.miller.pending = false ∧
      (if s.miller.drive.target = none then
        (s.miller.drive.setting = some g.millDepth → s.millChangeover.miller.drive = s.miller.drive) ∧
          (s.miller.drive.setting ≠ some g.millDepth →
            s.millChangeover.miller.drive = { s.miller.drive with target := some g.millDepth })
       else s.millChangeover.miller.drive = { s.miller.drive with next := some g.millDepth }) ∧
      SameBut [.miller] s s.millChangeover ∧ s.millChangeover.mem = s.mem)

/-- A glue station takes up a book without spoil code at its window start in an acting mode (R7, R77, R115, R116, R118):
the spine station marks it GLUE_TEMP when the pot is out of band; else, and at the side station always, the valve waits
for the effective phases, opens at once when the effective open is the window start, and stays closed for an empty line.
That the effective open becomes none when it is taken at the window start, and that the flow count is 0 there for a book
that gets no glue line too, is the model's choice (assumption log, entry 35). -/
def Obligations.GlueStationsStart : Prop :=
  (∀ (s : State) (dt : Nat) (io : CountInputs), OnlyEvent (.opens .spineGlue) s → s.line.mode.acting = true →
    ∀ b, s.clampAt 6 = .holding b → b.spoil = none → ∀ g, b.gauged = some g →
    ∀ first, first = s.config.settings.wSpineGlue.first →
    ∃ t, exec (.forwardEncoderCount dt io) s = .next t ∧ Later dt s t ∧ t.glue.side = s.glue.side ∧
      t.stations.engaged = .spineGlue :: s.stations.engaged ∧ .spineGlue ∈ t.stations.serving ∧
      (s.pot.inBand = false →
        t.glue.spine = ⟨none, none, false, false, 0, false⟩ ∧
          t.clampAt 6 = .holding { b with spoil := some ⟨.glueTemp, ⟨true, 6⟩, word32 (s.pot.temp.getD 0), false⟩ } ∧
          ∀ p : Fin 24, p ≠ 6 → t.clampAt p = s.clampAt p) ∧
      (s.pot.inBand = true → t.carousel = s.carousel ∧
        t.glue.spine =
          (if g.spineClose ≤ g.spineOpen ∨ (g.spineClose : Int) - s.phase.comp ≤ first ∨
              (g.spineClose : Int) - s.phase.comp ≤ (g.spineOpen : Int) - s.phase.comp then
            ⟨none, none, false, false, 0, true⟩
           else if g.spineOpen ≤ first + s.phase.comp then ⟨none, some (g.spineClose - s.phase.comp), true, true, 0, false⟩
           else ⟨some (g.spineOpen - s.phase.comp), some (g.spineClose - s.phase.comp), false, false, 0, false⟩)) ∧
      SameBut [.now, .phase, .stations, .carousel, .glue] s t ∧ BytesBut [] s t) ∧
  (∀ (s : State) (dt : Nat) (io : CountInputs), OnlyEvent (.opens .sideGlue) s → s.line.mode.acting = true →
    ∀ b, s.clampAt 7 = .holding b → b.spoil = none → ∀ g, b.gauged = some g →
    ∀ first, first = s.config.settings.wSideGlue.first →
    ∃ t, exec (.forwardEncoderCount dt io) s = .next t ∧ Later dt s t ∧ t.glue.spine = s.glue.spine ∧
      t.stations.engaged = .sideGlue :: s.stations.engaged ∧ .sideGlue ∈ t.stations.serving ∧
      t.glue.side =
        (if g.sideClose ≤ g.sideOpen ∨ (g.sideClose : Int) - s.phase.comp ≤ first ∨
            (g.sideClose : Int) - s.phase.comp ≤ (g.sideOpen : Int) - s.phase.comp then
          ⟨none, none, false, false, 0, true⟩
         else if g.sideOpen ≤ first + s.phase.comp then ⟨none, some (g.sideClose - s.phase.comp), true, true, 0, false⟩
         else ⟨some (g.sideOpen - s.phase.comp), some (g.sideClose - s.phase.comp), false, false, 0, false⟩) ∧
      SameBut [.now, .phase, .stations, .glue] s t ∧ BytesBut [] s t)

/-- The glue valves' phase points and the ends of their windows (R79, R116 to R118): a valve opens and records that it
opened; it closes, and at the spine valve the latched count is checked against floor(3E / 4) and floor(3E / 2), with no
check at E = 0. At an engaged SPINE_GLUE end a close equal to the end is taken first, an empty line is checked with a
count of 0, and a served book takes the glue-applied mark exactly when the valve opened; the SIDE_GLUE end records no
mark. That a phase becomes none when it is taken, and that both, the flow count, the valve-opened and the empty-line
mark are cleared at the end, is the model's choice (assumption log, entry 35). -/
def Obligations.SpineValvePoints : Prop :=
  (∀ (s : State) (dt : Nat) (io : CountInputs), OnlyEvent .spineOpen s →
    ∃ t, exec (.forwardEncoderCount dt io) s = .next t ∧ Later dt s t ∧
      t.glue = { s.glue with spine := { s.glue.spine with openAt := none, isOpen := true, opened := true } } ∧
      SameBut [.now, .phase, .glue] s t ∧ BytesBut [] s t) ∧
  (∀ (s : State) (dt : Nat) (io : CountInputs), OnlyEvent .sideOpen s →
    ∃ t, exec (.forwardEncoderCount dt io) s = .next t ∧ Later dt s t ∧
      t.glue = { s.glue with side := { s.glue.side with openAt := none, isOpen := true, opened := true } } ∧
      SameBut [.now, .phase, .glue] s t ∧ BytesBut [] s t) ∧
  (∀ (s : State) (dt : Nat) (io : CountInputs), OnlyEvent .sideClose s →
    ∃ t, exec (.forwardEncoderCount dt io) s = .next t ∧ Later dt s t ∧
      t.glue = { s.glue with side := { s.glue.side with closeAt := none, isOpen := false } } ∧
      SameBut [.now, .phase, .glue] s t ∧ BytesBut [] s t) ∧
  (∀ (s : State) (dt : Nat) (io : CountInputs), OnlyEvent (.closes .sideGlue) s → .sideGlue ∈ s.stations.engaged →
    ∃ t, exec (.forwardEncoderCount dt io) s = .next t ∧ Later dt s t ∧
      t.glue = { s.glue with side := ⟨none, none, false, false, 0, false⟩ } ∧ .sideGlue ∉ t.stations.engaged ∧
      SameBut [.now, .phase, .stations, .glue] s t ∧ BytesBut [] s t) ∧
  (∀ (s : State) (dt : Nat) (io : CountInputs), OnlyEvent .spineClose s →
    ∀ b, s.clampAt 6 = .holding b → ∀ g, b.gauged = some g →
    ∃ t, exec (.forwardEncoderCount dt io) s = .next t ∧ Later dt s t ∧
      t.glue = { s.glue with spine := { s.glue.spine with closeAt := none, isOpen := false } } ∧
      t.clampAt 6 = .holding (b.flowJudged s.glue.spine.flow g.expectedFlow) ∧
      (∀ p : Fin 24, p ≠ 6 → t.clampAt p = s.clampAt p) ∧
      SameBut [.now, .phase, .carousel, .glue] s t ∧ BytesBut [] s t) ∧
  (∀ (s : State) (dt : Nat) (io : CountInputs), s.phase.synced = true → s.phase.counter < 4095 →
    s.eventValue (.closes .spineGlue) = some (s.phase.counter + 1) →
    (∀ f ∈ defaultOrder, f ≠ .closes .spineGlue → f ≠ .spineClose → s.eventValue f ≠ some (s.phase.counter + 1)) →
    (s.glue.spine.closeAt = none ∨ s.glue.spine.closeAt = some (s.phase.counter + 1)) →
    .spineGlue ∈ s.stations.engaged → .spineGlue ∈ s.stations.serving →
    ∀ b, s.clampAt 6 = .holding b → ∀ g, b.gauged = some g →
    (s.glue.spine.emptyLine = true → s.glue.spine.closeAt = none) →
    ∃ t, exec (.forwardEncoderCount dt io) s = .next t ∧ Later dt s t ∧
      t.clampAt 6 = .holding
        { (if s.glue.spine.emptyLine then b.flowJudged 0 g.expectedFlow
           else if s.glue.spine.closeAt = none then b else b.flowJudged s.glue.spine.flow g.expectedFlow) with
          glued := b.glued || s.glue.spine.opened } ∧
      (∀ p : Fin 24, p ≠ 6 → t.clampAt p = s.clampAt p) ∧ t.glue.spine = ⟨none, none, false, false, 0, false⟩ ∧
      t.glue.side = s.glue.side ∧ .spineGlue ∉ t.stations.engaged ∧
      SameBut [.now, .phase, .stations, .carousel, .glue] s t ∧ BytesBut [] s t)

/-- The COVER window (R7, R77 to R79, R121 to R124, R161, R162). At a start in an acting mode on a book without spoil code:
nothing for cover mode NONE; SCORE_LATE when the scorer does not stand at its four positions, a TITLE book then getting
no cover; COVER_MISSING when its magazine is EMPTY; else the cover is drawn, scored and its code checked, and a PERSONAL
book whose code is other than its own halts the line under COVER_SEQUENCE, the feed being given up. A spoiled PERSONAL
book takes its cover unscored and keeps its own code. At an engaged end a served book with a cover takes the
cover-applied mark, and the scorer's changeover takes up the book at carousel position 8. The personal code is compared
as a whole word (assumption log, entry 15). -/
def Obligations.CoverStartChecksCode : Prop :=
  (∀ (s : State) (dt : Nat) (io : CountInputs), OnlyEvent (.opens .cover) s → s.line.mode.acting = true →
    ∀ b, s.clampAt 9 = .holding b → b.spoil = none → ∀ l, b.atLaunch = some l → ∀ g, b.gauged = some g →
    ∀ k, g.cover = some k → s.cover.scorer.target = none → s.cover.scorer.setting = some k.scores →
    (l.magazine = .a → s.cover.emptyA = false) → (l.magazine = .b → s.cover.emptyB = false) →
    (l.mode = .title →
      ∃ t, exec (.forwardEncoderCount dt io) s = .next t ∧ Later dt s t ∧
        t.cover = { s.cover with fed := some ⟨l.magazine, io.cover, true⟩ } ∧
        t.clampAt 9 = .holding
          { b with
            spoil :=
              match io.cover with
              | some c =>
                if c.toNat / 65536 = l.coverTitle then none else some ⟨.coverMismatch, ⟨true, 9⟩, c, false⟩
              | none => some ⟨.coverNoread, ⟨true, 9⟩, 0, true⟩ } ∧
        (∀ p : Fin 24, p ≠ 9 → t.clampAt p = s.clampAt p) ∧ t.stations.engaged = .cover :: s.stations.engaged ∧
        .cover ∈ t.stations.serving ∧ SameBut [.now, .phase, .stations, .carousel, .cover] s t ∧ BytesBut [] s t) ∧
    (l.mode = .personal → (∃ c ∈ io.cover, c.toNat / 65536 = l.coverTitle ∧ c.toNat % 65536 = l.personal.toNat) →
      ∃ t, exec (.forwardEncoderCount dt io) s = .next t ∧ Later dt s t ∧
        t.cover = { s.cover with fed := some ⟨l.magazine, io.cover, true⟩ } ∧
        t.clampAt 9 = .holding b ∧ (∀ p : Fin 24, p ≠ 9 → t.clampAt p = s.clampAt p) ∧
        SameBut [.now, .phase, .stations, .carousel, .cover] s t ∧ BytesBut [] s t) ∧
    (l.mode = .personal → (∀ c ∈ io.cover, c.toNat / 65536 ≠ l.coverTitle ∨ c.toNat % 65536 ≠ l.personal.toNat) →
      ∃ t, exec (.forwardEncoderCount dt io) s = .next t ∧ Later dt s t ∧ Entered .halted s t ∧
        t.line.causes = { s.line.causes with coverSequence := true } ∧ t.line.haltStart = some (s.now + dt) ∧
        t.clampAt 9 = .holding
          { b with spoil := some ⟨.coverMismatch, ⟨true, 9⟩, io.cover.getD 0, io.cover.isNone⟩ } ∧
        t.cover.fed = none ∧ (∀ p : Fin 24, p ≠ 9 → t.clampAt p = s.clampAt p) ∧ t.gathering.cells = s.gathering.cells ∧
        Noticed (fun c => if c = 3 ∨ c = 4 then 1 else 0) s t ∧
        SameBut [.now, .phase, .stations, .gathering, .carousel, .format, .miller, .glue, .cover, .line, .port] s t ∧
        BytesBut (Header.causes :: modeWords) s t)) ∧
  (∀ (s : State) (dt : Nat) (io : CountInputs), OnlyEvent (.opens .cover) s → s.line.mode.acting = true →
    ∀ b, s.clampAt 9 = .holding b → ∀ l, b.atLaunch = some l →
    ∀ empty : Bool, empty = (match l.magazine with | .a => s.cover.emptyA | .b => s.cover.emptyB) →
    ∀ own : Bool,
      own =
        (match io.cover with
         | some c => decide (c.toNat / 65536 = l.coverTitle) && decide (c.toNat % 65536 = l.personal.toNat)
         | none => false) →
    (b.spoil = none ∧ l.mode = .noCover ∨ b.spoil ≠ none ∧ (l.mode ≠ .personal ∨ empty = true) →
      ∃ t, exec (.forwardEncoderCount dt io) s = .next t ∧ Later dt s t ∧
        t.stations.engaged = .cover :: s.stations.engaged ∧ SameBut [.now, .phase, .stations, .carousel] s t ∧
        (∀ p : Fin 24, t.clampAt p = s.clampAt p) ∧ BytesBut [] s t) ∧
    (b.spoil = none → ∀ g, b.gauged = some g → ∀ k, g.cover = some k → l.mode ≠ .noCover →
      (s.cover.scorer.target ≠ none ∨ s.cover.scorer.setting ≠ some k.scores) →
      ∀ late, late = { b with spoil := some ⟨.scoreLate, ⟨true, 9⟩, word32 k.scores.s1.toNat, false⟩ } →
      (l.mode = .title ∨ empty = true →
        ∃ t, exec (.forwardEncoderCount dt io) s = .next t ∧ Later dt s t ∧ t.clampAt 9 = .holding late ∧
          (∀ p : Fin 24, p ≠ 9 → t.clampAt p = s.clampAt p) ∧ .cover ∈ t.stations.serving ∧
          SameBut [.now, .phase, .stations, .carousel] s t ∧ BytesBut [] s t) ∧
      (l.mode = .personal → empty = false → own = true →
        ∃ t, exec (.forwardEncoderCount dt io) s = .next t ∧ Later dt s t ∧ t.clampAt 9 = .holding late ∧
          (∀ p : Fin 24, p ≠ 9 → t.clampAt p = s.clampAt p) ∧ .cover ∈ t.stations.serving ∧
          t.cover = { s.cover with fed := some ⟨l.magazine, io.cover, false⟩ } ∧
          SameBut [.now, .phase, .stations, .carousel, .cover] s t ∧ BytesBut [] s t)) ∧
    (b.spoil = none → ∀ g, b.gauged = some g → ∀ k, g.cover = some k → l.mode ≠ .noCover →
      s.cover.scorer.target = none → s.cover.scorer.setting = some k.scores → empty = true →
      ∃ t, exec (.forwardEncoderCount dt io) s = .next t ∧ Later dt s t ∧
        t.clampAt 9 = .holding
          { b with
            spoil := some
              ⟨.coverMissing, ⟨true, 9⟩, (match l.magazine with | .a => 0 | .b => 1), false⟩ } ∧
        (∀ p : Fin 24, p ≠ 9 → t.clampAt p = s.clampAt p) ∧ .cover ∈ t.stations.serving ∧
        SameBut [.now, .phase, .stations, .carousel] s t ∧ BytesBut [] s t) ∧
    (b.spoil ≠ none → l.mode = .personal → empty = false →
      (own = true →
        ∃ t, exec (.forwardEncoderCount dt io) s = .next t ∧ Later dt s t ∧
          t.cover = { s.cover with fed := some ⟨l.magazine, io.cover, false⟩ } ∧
          (∀ p : Fin 24, t.clampAt p = s.clampAt p) ∧ .cover ∈ t.stations.serving ∧
          SameBut [.now, .phase, .stations, .carousel, .cover] s t ∧ BytesBut [] s t) ∧
      (own = false →
        ∃ t, exec (.forwardEncoderCount dt io) s = .next t ∧ Later dt s t ∧ Entered .halted s t ∧
          t.line.causes = { s.line.causes with coverSequence := true } ∧ t.cover.fed = none ∧
          (∀ p : Fin 24, t.clampAt p = s.clampAt p) ∧ Noticed (fun c => if c = 3 ∨ c = 4 then 1 else 0) s t))) ∧
  (∀ (s : State) (dt : Nat) (io : CountInputs), OnlyEvent (.closes .cover) s → .cover ∈ s.stations.engaged →
    s.line.mode.acting = true → ∀ b, s.clampAt 9 = .holding b →
    ∃ t, exec (.forwardEncoderCount dt io) s = .next t ∧ Later dt s t ∧
      t.clampAt 9 = .holding
        { b with covered := b.covered || (decide (.cover ∈ s.stations.serving) && s.cover.fed.isSome) } ∧
      (∀ p : Fin 24, p ≠ 9 → t.clampAt p = s.clampAt p) ∧ t.cover = { s.coverChangeover.cover with fed := none } ∧
      .cover ∉ t.stations.engaged ∧ SameBut [.now, .phase, .stations, .carousel, .cover] s t ∧ BytesBut [] s t) ∧
  (∀ s : State, SameBut [.cover] s s.coverChangeover ∧ s.coverChangeover.mem = s.mem ∧
    s.coverChangeover.cover = { s.cover with pending := false, scorer := s.coverChangeover.cover.scorer } ∧
    ((∀ b, s.clampAt 8 = .holding b → b.spoil = none → ∀ g, b.gauged = some g → g.cover = none) →
      s.coverChangeover.cover.scorer = s.cover.scorer) ∧
    (∀ b, s.clampAt 8 = .holding b → b.spoil = none → ∀ g, b.gauged = some g → ∀ k, g.cover = some k →
      s.coverChangeover.cover.scorer =
        (if s.cover.scorer.target = none then
          if s.cover.scorer.setting = some k.scores then s.cover.scorer
          else { s.cover.scorer with target := some k.scores }
         else { s.cover.scorer with next := some k.scores })))

/-! ### Delivery and postings (chapters 5, 8 and 9) -/

/-- The DELIVER window end at an engaged station, nothing letting the trimmer take (R7, R81 to R83, R128, R142): a book
without spoil code goes to the tail of a queue of fewer than 12 with its arrival time, a clamp without a record opens to
the reject bin, a book with a spoil code is dropped there and posted under its own code, and a book that finds the queue
full is posted QUEUE_FULL. In EMPTYING the line stays so while a record is left, and the posting of the last one takes
it to READY (R160). The field lastDrop, which keeps where gate 1 stood, is the model's own (assumption log, entry 12).
The zeros beside the listed bits of the entry's word 0x10 are the model's choice (assumption log, entry 39). -/
def Obligations.DeliverEndServed : Prop :=
  ∀ (s : State) (dt : Nat) (io : CountInputs), OnlyEvent (.closes .deliver) s → .deliver ∈ s.stations.engaged →
    MemoryInv s →
    (∀ b, s.clampAt 17 = .holding b → b.spoil = none → ∀ g, b.gauged = some g → s.trim.queue.length < 12 →
      NoTake s (s.trim.queue ++ [⟨b, s.now + dt, decide (g.setTime = 0)⟩]) →
      ∃ t, exec (.forwardEncoderCount dt io) s = .next t ∧ Later dt s t ∧
        t.trim =
          { s.trim with
            queue := s.trim.queue ++ [⟨b, s.now + dt, decide (g.setTime = 0)⟩]
            infeed := if s.trim.queue = [] then .closed else s.trim.infeed } ∧
        t.clampAt 17 = .empty ∧ (∀ p : Fin 24, p ≠ 17 → t.clampAt p = s.clampAt p) ∧ t.carousel.gate1 = .toReject ∧
        t.carousel.lastDrop = some .toConveyor ∧ SameBut [.now, .phase, .stations, .carousel, .trim] s t ∧
        BytesBut [] s t) ∧
    ((s.clampAt 17).isHolding = false → (s.line.mode = .emptying → s.inFlight ≠ 0) →
      ∃ t, exec (.forwardEncoderCount dt io) s = .next t ∧ Later dt s t ∧ t.clampAt 17 = .empty ∧
        (∀ p : Fin 24, p ≠ 17 → t.clampAt p = s.clampAt p) ∧ t.carousel.gate1 = .toReject ∧
        t.carousel.lastDrop = some .toReject ∧ SameBut [.now, .phase, .stations, .carousel] s t ∧ BytesBut [] s t) ∧
    (∀ b, s.clampAt 17 = .holding b → b.spoil = none → 12 ≤ s.trim.queue.length →
      ∃ t, exec (.forwardEncoderCount dt io) s = .next t ∧ Later dt s t ∧ t.clampAt 17 = .empty ∧
        (∀ p : Fin 24, p ≠ 17 → t.clampAt p = s.clampAt p) ∧ t.carousel.lastDrop = some .toReject ∧
        t.trim = s.trim ∧ t.cache = s.cache ∧ t.gathering = s.gathering ∧
        t.port.counts[(2 : Fin 8)] = s.port.counts[(2 : Fin 8)] + 1 ∧
        t.mem.readWord (logSlot s.port.counts[(2 : Fin 8)] + 4) = b.serial ∧
        t.mem.read (logSlot s.port.counts[(2 : Fin 8)] + 12) = 19 ∧
        t.mem.read (logSlot s.port.counts[(2 : Fin 8)] + 15) = 1) ∧
    (∀ b m, s.clampAt 17 = .holding b → b.spoil = some m → (s.line.mode = .emptying → s.inFlight ≠ 1) →
      ∃ t, exec (.forwardEncoderCount dt io) s = .next t ∧ Later dt s t ∧ t.clampAt 17 = .empty ∧
        (∀ p : Fin 24, p ≠ 17 → t.clampAt p = s.clampAt p) ∧ t.carousel.gate1 = .toReject ∧
        t.carousel.lastDrop = some .toReject ∧ SpoilLogged b.serial m.code.number 1 m.point s t ∧
        SameBut [.now, .phase, .stations, .sched, .carousel, .port] s t) ∧
    (∀ b m, s.clampAt 17 = .holding b → b.spoil = some m → s.line.mode = .emptying → s.inFlight = 1 →
      ∃ t, exec (.forwardEncoderCount dt io) s = .next t ∧ Later dt s t ∧ Entered .ready s t ∧ t.clampAt 17 = .empty ∧
        (∀ q : Fin 24, q ≠ 17 → t.clampAt q = s.clampAt q) ∧ t.carousel.gate1 = .toReject ∧
        t.carousel.lastDrop = some .toReject ∧ t.line.causes = s.line.causes ∧
        t.port.counts[(3 : Fin 8)] = s.port.counts[(3 : Fin 8)] + 1 ∧
        t.word (Header.count 3) = t.port.counts[(3 : Fin 8)] ∧ (∀ x ∈ t.snapshotWords, t.word x.1 = x.2) ∧
        t.gathering.cells = s.gathering.cells ∧ t.trim = s.trim ∧
        SpoilLogged b.serial m.code.number 1 m.point s t ∧
        SameBut [.now, .phase, .stations, .sched, .gathering, .carousel, .format, .miller, .glue, .cover, .line, .port] s t)

/-- A spoiled posting that is not its ticket's last book in flight (R36, R37, R148 to R152): the consult, the spoiled
count and last defect code, the remake decision by its five conditions, the entry of the defect log with its one notice,
and the ticket's changed words. And the end check that every posting runs (R19, R33, R39, R40): DONE at the quantity;
FAILED under SHORT, CANCELLED or BAD_JOB when nothing is left to come; else the ticket stays as it is. A thickness that
32 bits cannot hold is a free value (entry 14). The zeros beside the listed bits of the entry's word 0x10 are the
model's choice (assumption log, entry 39). -/
def Obligations.SpoilPostingRemake : Prop :=
  (∀ (s : State) (b : Book) (m : SpoilMark) (posting : PostPoint), MemoryInv s →
    ∀ x, s.held b.ticket = some x → x.made < x.qty → x.made + x.spoiled + 1 < x.launched →
    ∀ stop : StopMark, stop = (if s.mem.cancelled b.ticket = true ∧ x.stop = .noStop then .cancelled else x.stop) →
    ∀ queued : Bool,
      queued = (decide (m.code ≠ .coverShort) && decide (x.mode ≠ .personal) && decide (stop = .noStop) &&
        decide (x.spoiled + 1 ≤ x.remakeLimit) && decide (s.sched.remakes.length < 32)) →
    ∀ slot : Nat, slot = 0x8800 + 32 * (s.port.counts[(2 : Fin 8)].toNat % 128) →
    ∀ t, s.postSpoiled b m posting = t →
      t.held b.ticket = some
        { x with
          spoiled := x.spoiled + 1
          lastDefect := m.code.number
          short := if queued then x.short else x.short + 1
          stop := stop } ∧
      (∀ i, i ≠ b.ticket → t.held i = s.held i) ∧
      t.sched.remakes = (if queued then s.sched.remakes ++ [b.ticket] else s.sched.remakes) ∧
      (queued = true → t.word Header.remakeLength = BitVec.ofNat 32 t.sched.remakes.length) ∧
      t.sched.cursor = s.sched.cursor ∧ t.sched.nextSerial = s.sched.nextSerial ∧ t.sched.hold = s.sched.hold ∧
      Noticed (oneNotice .defectLogged) s t ∧ t.mem.readWord slot = s.port.counts[(2 : Fin 8)] + 1 ∧
      t.mem.readWord (slot + 4) = b.serial ∧ t.mem.read (slot + 8) = BitVec.ofNat 8 b.ticket ∧
      t.mem.read (slot + 9) = BitVec.ofNat 8 b.job ∧
      t.mem.read (slot + 10) = (match b.clamp with | some n => BitVec.ofNat 8 n | none => 255) ∧
      t.mem.read (slot + 11) = (match b.kind with | .first => 0 | .remake => 1) ∧
      t.mem.read (slot + 12) = BitVec.ofNat 8 m.code.number ∧ t.mem.read (slot + 13) = 0 ∧
      t.mem.read (slot + 14) = (if queued then 1 else 2) ∧ t.mem.read (slot + 15) = BitVec.ofNat 8 posting.number ∧
      t.mem.read (slot + 16) = BitVec.ofNat 8 m.point.position ∧
      t.mem.read (slot + 17) = (if m.point.onCarousel then 1 else 0) ∧
      t.mem.read (slot + 18) = (if m.noRead then 1 else 0) ∧
      t.mem.readWord (slot + 20) = (match b.gauged with | some g => word32 g.tMeas | none => 0) ∧
      t.mem.readWord (slot + 24) =
        (if m.code = .unformatted ∨ m.code = .inched then b.mask.setWidth 32 else m.detail) ∧
      t.mem.ticket b.ticket .spoiled = BitVec.ofNat 32 (x.spoiled + 1) ∧
      (x.lastDefect ≠ m.code.number ∧ x.lastDefect < 256 →
        t.mem.ticket b.ticket .lastDefect = BitVec.ofNat 32 m.code.number) ∧
      SameBut [.sched, .port] s t ∧ t.port = { s.port with counts := t.port.counts, attention := t.port.attention } ∧
      BytesBut
        ([Header.count 2, Header.remakeLength] ++ logWordsAt s.port.counts[(2 : Fin 8)] ++
          [TicketField.spoiled, .short, .lastDefect].map (ticketAddr b.ticket)) s t) ∧
  (∀ (s : State) (i : Nat), MemoryInv s → ∀ x, s.held i = some x → ∀ left : Bool,
    left =
      (decide (x.made + x.spoiled ≠ x.launched) || decide (x.spoiled ≠ x.short + x.remade) ||
        (decide (x.qty + x.remade ≠ x.launched) && decide (x.stop = .noStop))) →
    (x.made < x.qty → left = true → s.endCheck i = s) ∧
    (∀ stage reason : Word,
      (x.made = x.qty ∧ stage = 4 ∧ reason = 0) ∨
        (x.made < x.qty ∧ left = false ∧ stage = 5 ∧
          reason = (match x.stop with | .noStop => 65 | .cancelled => 64 | .badJob => 66)) →
      ∀ t, s.endCheck i = t →
        t.held i = none ∧ (∀ k, k ≠ i → t.held k = s.held k) ∧ t.mem.ticket i .stage = stage ∧
        t.mem.ticket i .endReason = reason ∧ t.mem.ticket i .made = BitVec.ofNat 32 x.made ∧
        t.mem.ticket i .spoiled = BitVec.ofNat 32 x.spoiled ∧ t.mem.ticket i .short = BitVec.ofNat 32 x.short ∧
        t.mem.ticket i .lastDefect = BitVec.ofNat 32 x.lastDefect ∧
        t.mem.ticket i .finish = s.port.counts[(1 : Fin 8)] + 1 ∧ Noticed (oneNotice .ticketFinished) s t ∧
        t.sched.cursor = (if x.stage = .active then (s.sched.cursor + 1) % 256 else s.sched.cursor) ∧
        (x.stage = .active → t.word Header.cursor = BitVec.ofNat 32 t.sched.cursor) ∧
        t.sched = { s.sched with held := t.sched.held, cursor := t.sched.cursor } ∧
        t.port = { s.port with counts := t.port.counts, attention := t.port.attention } ∧
        SameBut [.sched, .port] s t ∧ BytesBut ([Header.count 1, Header.cursor] ++ ticketWordsAt i) s t))

/-! ### Inputs from the machine (chapters 4 and 7) -/

/-- The two pocket inputs (R62, R67): a code is taken by a pocket with a feed in progress, the latest read standing, and
ignored otherwise; a reload clears the miss counter and makes the pocket ACTIVE. And a magazine sensor (R120, R177,
R178): the magazine is EMPTY exactly when its sensor reads so, and one notice of MAGAZINE_EMPTY is posted each time it
goes EMPTY, none when it is filled. -/
def Obligations.StockInputs : Prop :=
  (∀ (s : State) (dt : Nat) (k : Fin 16) (code : Word),
    ∃ t, exec (.pocketCodeReport dt k code) s = .next t ∧ Later dt s t ∧
      t.gathering.pockets[k] =
        (if s.gathering.pockets[k].feed = none then s.gathering.pockets[k]
         else { s.gathering.pockets[k] with code := some code }) ∧
      (∀ j : Fin 16, j ≠ k → t.gathering.pockets[j] = s.gathering.pockets[j]) ∧ t.gathering.cells = s.gathering.cells ∧
      SameBut [.now, .gathering] s t ∧ BytesBut [] s t) ∧
  (∀ (s : State) (dt : Nat) (k : Fin 16),
    ∃ t, exec (.pocketReloaded dt k) s = .next t ∧ Later dt s t ∧
      t.gathering.pockets[k] = { s.gathering.pockets[k] with misses := 0, starved := false } ∧
      (∀ j : Fin 16, j ≠ k → t.gathering.pockets[j] = s.gathering.pockets[j]) ∧ t.gathering.cells = s.gathering.cells ∧
      SameBut [.now, .gathering] s t ∧ BytesBut [] s t) ∧
  (∀ (s : State) (dt : Nat) (m : Magazine) (empty : Bool),
    ∃ t, exec (.magazineSensorChange dt m empty) s = .next t ∧ Later dt s t ∧
      t.cover =
        (match m with | .a => { s.cover with emptyA := empty } | .b => { s.cover with emptyB := empty }) ∧
      t.pins = (match m with | .a => { s.pins with emptyA := empty } | .b => { s.pins with emptyB := empty }) ∧
      (if empty = true ∧ (match m with | .a => s.cover.emptyA | .b => s.cover.emptyB) = false then
        Noticed (oneNotice .magazineEmpty) s t ∧ AttentionInv t ∧
          t.port = { s.port with counts := t.port.counts, attention := t.port.attention } ∧
          SameBut [.now, .cover, .pins, .port] s t ∧ BytesBut [Header.count 6] s t
       else SameBut [.now, .cover, .pins] s t ∧ BytesBut [] s t))

/-- The two pulse counts (R108, R116): a pump pulse is counted while the spine valve is open, a comparator pulse while the
load is integrated, both held at 65,535. And a motion-complete report of the miller and of the scorer (R106, R121): the
setting becomes the target; a next target other than it sets the drive moving again, and without one the drive is IDLE;
while IDLE the report is ignored. -/
def Obligations.PulsesAndMotionReports : Prop :=
  (∀ (s : State) (dt : Nat), s.glue.spine.flow ≤ 65535 →
    ∃ t, exec (.gluePumpPulse dt) s = .next t ∧ Later dt s t ∧
      t.glue =
        { s.glue with
          spine := { s.glue.spine with
            flow :=
              if s.glue.spine.isOpen = true ∧ s.glue.spine.flow < 65535 then s.glue.spine.flow + 1
              else s.glue.spine.flow } } ∧
      SameBut [.now, .glue] s t ∧ BytesBut [] s t) ∧
  (∀ (s : State) (dt : Nat), s.miller.load ≤ 65535 →
    ∃ t, exec (.spindleLoadPulse dt) s = .next t ∧ Later dt s t ∧
      t.miller =
        { s.miller with
          load :=
            if s.miller.integrating = true ∧ s.miller.load < 65535 then s.miller.load + 1 else s.miller.load } ∧
      SameBut [.now, .miller] s t ∧ BytesBut [] s t) ∧
  (∀ (s : State) (dt : Nat),
    ∃ t, exec (.millMotionComplete dt) s = .next t ∧ Later dt s t ∧
      (s.miller.drive.target = none → t.miller = s.miller) ∧
      (∀ d, s.miller.drive.target = some d →
        t.miller =
          { s.miller with
            drive :=
              if s.miller.drive.next = none ∨ s.miller.drive.next = some d then ⟨some d, none, none⟩
              else ⟨some d, s.miller.drive.next, none⟩ }) ∧
      SameBut [.now, .miller] s t ∧ BytesBut [] s t) ∧
  (∀ (s : State) (dt : Nat),
    ∃ t, exec (.scorerMotionComplete dt) s = .next t ∧ Later dt s t ∧
      (s.cover.scorer.target = none → t.cover = s.cover) ∧
      (∀ d, s.cover.scorer.target = some d →
        t.cover =
          { s.cover with
            scorer :=
              if s.cover.scorer.next = none ∨ s.cover.scorer.next = some d then ⟨some d, none, none⟩
              else ⟨some d, s.cover.scorer.next, none⟩ }) ∧
      SameBut [.now, .cover] s t ∧ BytesBut [] s t)

/-! ### The fetch engine (chapter 3) -/

/-- The fetch engine that does not complete (R46, R50): an odd edit count waits 1 ms, the end of that wait and two
unequal counts begin a new attempt, and 500 ms after its start the fetch is given up: the target entry becomes EMPTY
and every book waiting for it is marked UNFORMATTED with its lock gone. When each word is read is an operand, and an
event has its effect once its time has come (assumption log, entries 2 and 8). The detail 0 of a new UNFORMATTED mark
before its posting is the model's choice (entry 44). -/
def Obligations.FetchEngineRetries : Prop :=
  (∀ (s : State) (dt : Nat) (lags : List Nat), ∀ f, s.cache.fetch = some f → f.waitUntil = none →
    ∀ a, a = attemptReads s.mem f.writes f.job lags →
    (a.firstCount.toNat % 2 = 1 ∨ a.firstCount ≠ a.secondCount) →
    ∃ t, exec (.fetchAttemptEnd dt lags) s = .next t ∧ Later dt s t ∧
      t.cache =
        { s.cache with
          fetch := some
            { f with
              waitUntil := if a.firstCount.toNat % 2 = 1 then some (s.now + dt + 1000) else none
              writes := [] } } ∧
      SameBut [.now, .cache] s t ∧ BytesBut [] s t) ∧
  (∀ (s : State) (dt : Nat), ∀ f, s.cache.fetch = some f → ∀ u, f.waitUntil = some u → u ≤ s.now + dt →
    ∃ t, exec (.fetchWaitExpiry dt) s = .next t ∧ Later dt s t ∧
      t.cache = { s.cache with fetch := some { f with waitUntil := none, writes := [] } } ∧
      SameBut [.now, .cache] s t ∧ BytesBut [] s t) ∧
  (∀ (s : State) (dt : Nat), ∀ f, s.cache.fetch = some f → f.startedAt + 500000 ≤ s.now + dt →
    s.cache.entries[f.target].state = .filling →
    ∃ t, exec (.fetchTimeout dt) s = .next t ∧ Later dt s t ∧ t.cache.fetch = none ∧
      t.cache.entries[f.target] = CacheEntry.emptyEntry ∧
      (∀ e : Fin 16, e ≠ f.target → t.cache.entries[e] = s.cache.entries[e]) ∧ t.cache.stock = s.cache.stock ∧
      t.word Header.occupancy = BitVec.ofNat 32 t.cache.occupancy ∧
      UnformattedWaiting f.target s t ∧
      SameBut [.now, .cache, .gathering, .carousel] s t ∧ BytesBut [Header.occupancy] s t)

/-- A valid fetch completion (R43, R46, R48, R88): with an even edit count read twice and no job check failing on the
record and the stock entries read, the entry is FILLED with the copy, the stock places take the copies, the engine is
IDLE, and every book waiting for the entry has its format PRESENT with its launch values formed. And those values: the
cover mode, magazine, title and personal codes, and the expected thickness, the floor of the sum of leaves × caliper ×
compression over 1,000, which is at most 409,600 µm (R42, R88, R103). The magazine is a free value where a job of cover
mode NONE holds neither 0 nor 1 (assumption log, entry 43). When each word is read is an operand (assumption log, entry
8). -/
def Obligations.FetchCompletesValid : Prop :=
  (∀ (s : State) (dt : Nat) (lags : List Nat), ∀ f, s.cache.fetch = some f → f.waitUntil = none →
    s.cache.entries[f.target].state = .filling → ∀ a, a = attemptReads s.mem f.writes f.job lags →
    a.firstCount.toNat % 2 = 0 → a.firstCount = a.secondCount →
    badJob a.record (fun c => (a.stock.find? fun p => decide (p.1 = c)).map (·.2)) = none →
    ∃ t, exec (.fetchAttemptEnd dt lags) s = .next t ∧ Later dt s t ∧ t.cache.fetch = none ∧
      t.cache.entries[f.target] =
        { s.cache.entries[f.target] with state := .filled, copy := some a.record, used := true } ∧
      (∀ e : Fin 16, e ≠ f.target → t.cache.entries[e] = s.cache.entries[e]) ∧
      (∀ c : Fin 64, t.cache.stock[c] =
        match a.stock.find? fun p => decide (p.1 = c.val) with
        | some p => some p.2
        | none => s.cache.stock[c]) ∧
      (∀ p : Fin 18, t.cell p =
        match s.cell p with
        | .holding b =>
          if b.entry = some f.target ∧ b.format = .pending then
            .holding
              { b with
                format := .present
                atLaunch := some (launchFormat a.record (((s.held b.ticket).map (·.personal)).getD 0) t.cache.stockPlace) }
          else s.cell p
        | _ => s.cell p) ∧
      (∀ p : Fin 24, t.clampAt p =
        match s.clampAt p with
        | .holding b =>
          if b.entry = some f.target ∧ b.format = .pending then
            .holding
              { b with
                format := .present
                atLaunch := some (launchFormat a.record (((s.held b.ticket).map (·.personal)).getD 0) t.cache.stockPlace) }
          else s.clampAt p
        | _ => s.clampAt p) ∧
      t.gathering.pockets = s.gathering.pockets ∧
      (∀ p : Fin 24, t.carousel.places[p].number = s.carousel.places[p].number) ∧
      t.carousel = { s.carousel with places := t.carousel.places } ∧
      SameBut [.now, .cache, .gathering, .carousel] s t ∧ BytesBut [] s t) ∧
  (∀ (r : JobRecord) (personal : Word) (stock : Nat → Option StockCopy),
    (∀ g ∈ r.entries, (stock g.stock).isSome = true) → ∀ l, l = launchFormat r personal stock →
    l.mode = (if r.coverMode = 1 then .title else if r.coverMode = 2 then .personal else .noCover) ∧
      (r.magazine = 0 → l.magazine = .a) ∧ (r.magazine = 1 → l.magazine = .b) ∧ l.coverTitle = r.coverTitle ∧ l.personal = personal ∧
      l.tExp =
        (r.entries.map fun g =>
          match stock g.stock with | some c => g.leaves * c.caliper * c.compression | none => 0).sum / 1000 ∧
      (r.sigCount ≤ 16 → (∀ g ∈ r.entries, g.leaves ≤ 64) →
        (∀ n, ∀ c ∈ stock n, c.caliper ≤ 400 ∧ c.compression ≤ 1000) → l.tExp ≤ 409600))

/-- An invalid record for the POSTED ticket under the cursor, no ticket being held (R19, R26, R32, R33, R40, R49): the
target entry becomes EMPTY and the engine IDLE, the ticket is written FAILED with end reason BAD_JOB, the sub-code, all
counts 0 and the finished count as raised, and the cursor advances. Where no such ticket stands under the cursor, every
held ticket of the job without a stop mark is marked BAD_JOB, those that still have books in flight staying held and
those with nothing left to come ending FAILED. The stock places take the copies read, as at a valid completion (R43).
And the sub-code is that of the first job check of R28 that fails, in its numbers. When each word is read is an operand
(assumption log, entry 8). The detail 0 of a new UNFORMATTED mark before its posting is the model's choice (entry 44). -/
def Obligations.InvalidRecordRefusesTicket : Prop :=
  (∀ (s : State) (dt : Nat) (lags : List Nat), MemoryInv s → s.sched.held = [] →
    ∀ f, s.cache.fetch = some f → f.waitUntil = none → s.cache.entries[f.target].state = .filling →
    ∀ a, a = attemptReads s.mem f.writes f.job lags → a.firstCount.toNat % 2 = 0 → a.firstCount = a.secondCount →
    s.mem.ticket s.sched.cursor .stage = Stage.posted.word → s.mem.ticket s.sched.cursor .request ≠ 1 →
    (s.mem.ticket s.sched.cursor .job).toNat = f.job →
    ∀ code, badJob a.record (fun c => (a.stock.find? fun p => decide (p.1 = c)).map (·.2)) = some code →
    ∃ t, exec (.fetchAttemptEnd dt lags) s = .next t ∧ Later dt s t ∧ t.cache.fetch = none ∧
      t.cache.entries[f.target] = CacheEntry.emptyEntry ∧
      (∀ e : Fin 16, e ≠ f.target → t.cache.entries[e] = s.cache.entries[e]) ∧ UnformattedWaiting f.target s t ∧
      (∀ c : Fin 64, t.cache.stock[c] =
        match a.stock.find? fun p => decide (p.1 = c.val) with
        | some p => some p.2
        | none => s.cache.stock[c]) ∧
      t.mem.ticket s.sched.cursor .stage = Stage.failed.word ∧ t.mem.ticket s.sched.cursor .endReason = 66 ∧
      t.mem.ticket s.sched.cursor .lastDefect = BitVec.ofNat 32 code ∧
      (∀ x ∈ [TicketField.launched, .made, .spoiled, .remade, .short, .firstSerial, .lastSerial],
        t.mem.ticket s.sched.cursor x = 0) ∧
      t.mem.ticket s.sched.cursor .finish = s.port.counts[(1 : Fin 8)] + 1 ∧
      Noticed (oneNotice .ticketFinished) s t ∧ t.sched.cursor = (s.sched.cursor + 1) % 256 ∧
      t.word Header.cursor = BitVec.ofNat 32 t.sched.cursor ∧ t.sched = { s.sched with cursor := t.sched.cursor } ∧
      t.port = { s.port with counts := t.port.counts, attention := t.port.attention } ∧
      SameBut [.now, .sched, .cache, .gathering, .carousel, .port] s t ∧
      BytesBut ([Header.occupancy, Header.count 1, Header.cursor] ++ ticketWordsAt s.sched.cursor) s t) ∧
  (∀ (s : State) (dt : Nat) (lags : List Nat), ScheduleInv s →
    ∀ f, s.cache.fetch = some f → f.waitUntil = none → s.cache.entries[f.target].state = .filling →
    ∀ a, a = attemptReads s.mem f.writes f.job lags → a.firstCount.toNat % 2 = 0 → a.firstCount = a.secondCount →
    (s.held s.sched.cursor ≠ none ∨ s.mem.ticket s.sched.cursor .stage ≠ 1 ∨ s.mem.ticket s.sched.cursor .request = 1 ∨
      (s.mem.ticket s.sched.cursor .job).toNat ≠ f.job) →
    (∀ x ∈ s.sched.held, x.job = f.job → x.stop = .noStop → x.stays) →
    ∀ code, badJob a.record (fun c => (a.stock.find? fun p => decide (p.1 = c)).map (·.2)) = some code →
    ∃ t, exec (.fetchAttemptEnd dt lags) s = .next t ∧ Later dt s t ∧ t.cache.fetch = none ∧
      t.cache.entries[f.target] = CacheEntry.emptyEntry ∧
      (∀ e : Fin 16, e ≠ f.target → t.cache.entries[e] = s.cache.entries[e]) ∧ UnformattedWaiting f.target s t ∧
      (∀ c : Fin 64, t.cache.stock[c] =
        match a.stock.find? fun p => decide (p.1 = c.val) with
        | some p => some p.2
        | none => s.cache.stock[c]) ∧
      t.sched =
        { s.sched with
          held := s.sched.held.map fun x => if x.job = f.job ∧ x.stop = .noStop then { x with stop := .badJob } else x } ∧
      SameBut [.now, .sched, .cache, .gathering, .carousel] s t ∧ BytesBut [Header.occupancy] s t) ∧
  (∀ (s : State) (dt : Nat) (lags : List Nat), ScheduleInv s → MemoryInv s →
    ∀ f, s.cache.fetch = some f → f.waitUntil = none → s.cache.entries[f.target].state = .filling →
    ∀ a, a = attemptReads s.mem f.writes f.job lags → a.firstCount.toNat % 2 = 0 → a.firstCount = a.secondCount →
    (s.held s.sched.cursor ≠ none ∨ s.mem.ticket s.sched.cursor .stage ≠ 1 ∨ s.mem.ticket s.sched.cursor .request = 1 ∨
      (s.mem.ticket s.sched.cursor .job).toNat ≠ f.job) →
    ∀ code, badJob a.record (fun c => (a.stock.find? fun p => decide (p.1 = c)).map (·.2)) = some code →
    ∀ ended, ended = (s.sched.held.filter fun x => decide (x.job = f.job ∧ x.stop = .noStop ∧ x.endsStopped)) →
    ∃ t, exec (.fetchAttemptEnd dt lags) s = .next t ∧ Later dt s t ∧ t.cache.fetch = none ∧
      t.sched.held =
        ((s.sched.held.filter fun x => decide (x ∉ ended)).map fun x =>
          if x.job = f.job ∧ x.stop = .noStop then { x with stop := .badJob } else x) ∧
      (∀ x ∈ ended, t.held x.index = none ∧
        t.mem.ticket x.index .stage = (if x.made = x.qty then 4 else 5) ∧
        t.mem.ticket x.index .endReason = (if x.made = x.qty then 0 else 66) ∧
        t.mem.ticket x.index .made = BitVec.ofNat 32 x.made ∧ t.mem.ticket x.index .short = BitVec.ofNat 32 x.short ∧
        t.mem.ticket x.index .spoiled = BitVec.ofNat 32 x.spoiled ∧
        (ended = [x] → t.mem.ticket x.index .finish = s.port.counts[(1 : Fin 8)] + 1)) ∧
      t.sched.cursor =
        (s.sched.cursor + (ended.filter fun x => decide (x.stage = .active)).length) % 256 ∧
      t.sched = { s.sched with held := t.sched.held, cursor := t.sched.cursor } ∧
      Noticed (fun c => if c = 1 then ended.length else 0) s t ∧
      t.port = { s.port with counts := t.port.counts, attention := t.port.attention } ∧
      SameBut [.now, .sched, .cache, .gathering, .carousel, .port] s t ∧
      BytesBut ([Header.occupancy, Header.count 1, Header.cursor] ++ ended.flatMap fun x => ticketWordsAt x.index) s t) ∧
  (∀ (r : JobRecord) (stock : Nat → Option StockCopy),
    (badJob r stock = none ↔ ∀ c, JobPasses r stock c) ∧
      ∀ code, badJob r stock = some code ↔ (¬ JobPasses r stock code ∧ ∀ c, c < code → JobPasses r stock c))

/-! ### The converter and the glue pot (chapters 6 and 7) -/

/-- A gauge conversion ends (R89 to R91): its reading joins the open sequence when it was made for it, a FAULT adds
nothing, and the next conversion is the sequence's next, else the temperature request waiting, else none. The event
has its effect once its time has come (assumption log, entry 2). -/
def Obligations.GaugeConversionEnds : Prop :=
  ∀ (s : State) (dt : Nat) (result : Option (BitVec 10)), s.format.converter.doing = .gauge →
    s.format.converter.endsAt ≤ s.now + dt →
    ∃ t, exec (.conversionComplete dt result) s = .next t ∧ Later dt s t ∧
      t.format.gauge =
        (match s.format.gauge, result with
         | some q, some r => if s.format.converter.kept then some ⟨q.m + 1, q.sum + r.toNat⟩ else some q
         | q, _ => q) ∧
      t.format.converter =
        (if s.format.converter.outstanding ≠ 0 then
          { s.format.converter with
            outstanding := s.format.converter.outstanding - 1, kept := true, endsAt := s.now + dt + 25 }
         else if s.format.converter.tempWaiting then
          { s.format.converter with doing := .temp, tempWaiting := false, kept := false, endsAt := s.now + dt + 25 }
         else { s.format.converter with doing := .idle, kept := false }) ∧
      SameBut [.now, .format] s t ∧ BytesBut [] s t

/-- A temperature conversion ends and OVERHEAT does not change (R110 to R112, R159): the temperature, the band
judgement about the working setpoint, the duty by the setpoint of the line mode in signed arithmetic clamped to 0 to
255, and the stable timer in WARMING. The event has its effect once its time has come (assumption log, entry 2). -/
def Obligations.TemperatureCompletion : Prop :=
  ∀ (s : State) (dt : Nat) (result : Option (BitVec 10)), s.format.converter.doing = .temp →
    s.format.converter.endsAt ≤ s.now + dt →
    ∀ temp : Option Nat, temp = result.map (fun r => r.toNat * 3000 / 1024) →
    (∀ v ∈ temp, (s.pot.overheat = false → v ≤ s.config.settings.workingSet + 300) ∧
      (s.pot.overheat = true → s.config.settings.workingSet < v)) →
    ∀ inBand : Bool,
      inBand =
        (match temp with
         | some v => decide (|(v : Int) - s.config.settings.workingSet| ≤ s.config.settings.band)
         | none => false) →
    ∃ t, exec (.conversionComplete dt result) s = .next t ∧ Later dt s t ∧
      t.pot =
        { s.pot with
          temp := temp
          inBand := inBand
          computed :=
            match temp with
            | none => 0
            | some v =>
              if s.line.mode = .cold ∨ s.pot.overheat = true then 0
              else
                (min 255 (max 0 ((((if s.line.mode = .setback then s.config.settings.setbackSet
                  else s.config.settings.workingSet) : Nat) - v : Int) * s.config.settings.gain / 16))).toNat } ∧
      t.line =
        { s.line with
          stableAt :=
            if s.line.mode = .warming then
              if inBand then some (s.line.stableAt.getD (s.now + dt + s.config.settings.stableTime * 1000000)) else none
            else s.line.stableAt } ∧
      t.format.gauge = s.format.gauge ∧
      t.format.converter.doing =
        (if s.format.converter.outstanding ≠ 0 then .gauge
         else if s.format.converter.tempWaiting then .temp else .idle) ∧
      SameBut [.now, .format, .pot, .line] s t ∧ BytesBut [] s t

/-- OVERHEAT (R113, R114, R161, R162): a temperature above the working setpoint by more than 30.0 °C sets it, takes
the heater off at once and halts a line in RUNNING, EMPTYING, READY or WARMING; a later temperature at or below the
working setpoint clears it, and the line mode stays. That the heater output goes off at once with the applied duty is the
model's choice (assumption log, entry 29). The event has its effect once its time has come (assumption log, entry 2). -/
def Obligations.OverheatHalts : Prop :=
  (∀ (s : State) (dt : Nat) (r : BitVec 10), s.format.converter.doing = .temp → s.format.converter.endsAt ≤ s.now + dt →
    s.pot.overheat = false → s.config.settings.workingSet + 300 < r.toNat * 3000 / 1024 →
    ∃ t, exec (.conversionComplete dt (some r)) s = .next t ∧ Later dt s t ∧ t.pot.overheat = true ∧
      t.pot.temp = some (r.toNat * 3000 / 1024) ∧ t.pot.applied = 0 ∧ t.pot.heaterOn = false ∧
      t.line.causes = { s.line.causes with overheat := true } ∧
      (s.line.causes.overheat = false → t.word Header.causes = t.line.causes.word) ∧
      (s.line.mode.halts = true →
        Entered .halted s t ∧ t.line.haltStart = some (s.now + dt) ∧
          Noticed (fun c => if c = 3 ∨ c = 4 then 1 else 0) s t) ∧
      (s.line.mode.halts = false → t.line = { s.line with causes := t.line.causes } ∧ t.port = s.port) ∧
      t.gathering.cells = s.gathering.cells ∧ t.carousel.places = s.carousel.places ∧
      SameBut [.now, .stations, .gathering, .carousel, .format, .miller, .pot, .glue, .cover, .line, .port] s t ∧
      BytesBut (Header.causes :: modeWords) s t) ∧
  (∀ (s : State) (dt : Nat) (r : BitVec 10), s.format.converter.doing = .temp → s.format.converter.endsAt ≤ s.now + dt →
    s.pot.overheat = true → s.line.mode ≠ .warming → r.toNat * 3000 / 1024 ≤ s.config.settings.workingSet →
    ∃ t, exec (.conversionComplete dt (some r)) s = .next t ∧ Later dt s t ∧ t.pot.overheat = false ∧
      t.pot.applied = s.pot.applied ∧
      t.line = { s.line with causes := { s.line.causes with overheat := false } } ∧
      (s.line.causes.overheat = true → t.word Header.causes = t.line.causes.word) ∧
      SameBut [.now, .format, .pot, .line] s t ∧ BytesBut [Header.causes] s t)

/-- The 100 ms timer, the heater's period and its on-time (R90, R110, R114): the timer's expiry gives the converter a
temperature request and runs again; a period starts with the computed duty applied, 0 in COLD and while OVERHEAT is
present; the heater goes off when the applied duty's 256ths of the period are over. That the heater output goes on at a
period's start exactly when the duty applied is not 0 is the model's choice (assumption log, entry 29). Each event has its
effect once its time has come (assumption log, entry 2). -/
def Obligations.ConverterAndHeaterTimers : Prop :=
  (∀ (s : State) (dt : Nat), s.pot.conversionAt ≤ s.now + dt →
    ∃ t, exec (.temperatureTimerExpiry dt) s = .next t ∧ Later dt s t ∧
      t.pot = { s.pot with conversionAt := s.pot.conversionAt + 100000 } ∧ t.format.gauge = s.format.gauge ∧
      t.format.converter =
        (if s.format.converter.doing = .idle then
          { s.format.converter with doing := .temp, kept := false, endsAt := s.now + dt + 25 }
         else { s.format.converter with tempWaiting := true }) ∧
      SameBut [.now, .format, .pot] s t ∧ BytesBut [] s t) ∧
  (∀ (s : State) (dt : Nat), s.pot.periodStart + 1000000 ≤ s.now + dt →
    ∃ t, exec (.heaterPeriodStart dt) s = .next t ∧ Later dt s t ∧
      t.pot =
        { s.pot with
          periodStart := s.pot.periodStart + 1000000
          applied := if s.line.mode = .cold ∨ s.pot.overheat = true then 0 else s.pot.computed
          heaterOn := decide (t.pot.applied ≠ 0) } ∧
      SameBut [.now, .pot] s t ∧ BytesBut [] s t) ∧
  (∀ (s : State) (dt : Nat), s.pot.applied * 1000000 ≤ (s.now + dt - s.pot.periodStart) * 256 →
    ∃ t, exec (.heaterOnTimeEnd dt) s = .next t ∧ Later dt s t ∧ t.pot = { s.pot with heaterOn := false } ∧
      SameBut [.now, .pot] s t ∧ BytesBut [] s t)

/-! ### The cooling queue and the trimmer (chapter 8) -/

/-- The takes from the cooling queue (R82, R128, R132 to R134, R138, R139, R142): at the set-time expiry of the head entry in
an IDLE trimmer that is not guarded; at the trimmer's return to IDLE, over an eligible head, from a cut, from a STROKE fault
and from a POSITIONING fault without books; when the last of ESTOP and GUARD goes; and at the append of a book of set time 0
to an empty queue. Each makes of the trimmer what a take makes (`Taken`), and of its return what the return makes. An expiry
that makes no take possible makes its entry eligible and nothing else, and one that names no running timer or comes before
its time has no effect (entry 2). That the fault reason is none after a fault is the model's reading (assumption log, entry
42), and so is a knife drive without a motion target once it is IDLE (entry 41). -/
def Obligations.TakeFromTheQueue : Prop :=
  (∀ (s : State) (dt : Nat) (e : QueueEntry) (rest : List QueueEntry), s.trim.queue = e :: rest →
    ∀ g, e.book.gauged = some g →
    (e.eligible = false → s.trim.phase = .idle → s.line.causes.estop = false → s.line.causes.guardOpen = false →
      e.arrival + g.setTime * 1000 ≤ s.now + dt →
      ∃ t, exec (.setTimeExpiry dt 0) s = .next t ∧ Later dt s t ∧
        Taken (s.now + dt) s.config.settings e rest g s.trim t.trim ∧ SameBut [.now, .trim] s t ∧ BytesBut [] s t) ∧
    (e.eligible = true → s.line.causes.estop = false → s.line.causes.guardOpen = false → MemoryInv s → ∀ c : Instr,
      (c = .cutTimerExpiry dt true ∧ s.trim.phase = .cutting ∧ ∃ u ∈ s.trim.cutAt, u ≤ s.now + dt) ∨
        (c = .cutCompleteInput dt ∧ s.trim.phase = .fault ∧ s.trim.reason = .stroke ∧ s.trim.books ≠ []) →
      ∃ t, exec c s = .next t ∧ Later dt s t ∧
        Taken (s.now + dt) s.config.settings e rest g
          { s.trim with
            limitAt := none
            cutAt := none
            reason := .noFault
            outfeed := some
              (if ∃ b ∈ s.trim.books, b.warnings ≠ ⟨false, false, false⟩ then .inspection else .stacker) }
          t.trim ∧
        (∀ b, s.trim.books = [b] → ∀ x, s.held b.ticket = some x →
          t.mem.ticket b.ticket .made = BitVec.ofNat 32 (x.made + 1)) ∧
        t.line.causes =
          (if s.trim.phase = .fault then { s.line.causes with trimmer := false } else s.line.causes) ∧
        t.line = { s.line with causes := t.line.causes } ∧ SameBut [.now, .sched, .trim, .line, .port] s t) ∧
    (e.eligible = true → s.line.causes.estop = false → s.line.causes.guardOpen = false → s.trim.phase = .fault →
      s.trim.books = [] → ∀ (c : Instr) (knives : Drive KnifeSet),
      (c = .cutCompleteInput dt ∧ s.trim.reason = .stroke ∧ knives = s.trim.knives) ∨
        (c = .knifePositioningReport dt ∧ s.trim.reason = .positioning ∧ s.trim.target ≠ none ∧
          s.trim.knives.target = s.trim.target ∧ (s.trim.knives.next = none ∨ s.trim.knives.next = s.trim.target) ∧
          knives = ⟨s.trim.target, none, none⟩) →
      ∃ t, exec c s = .next t ∧ Later dt s t ∧
        Taken (s.now + dt) s.config.settings e rest g
          { s.trim with limitAt := none, cutAt := none, reason := .noFault, knives } t.trim ∧
        t.line = { s.line with causes := { s.line.causes with trimmer := false } } ∧
        (s.line.causes.trimmer = true → t.word Header.causes = t.line.causes.word) ∧
        SameBut [.now, .trim, .line] s t ∧ BytesBut [Header.causes] s t) ∧
    (e.eligible = true → s.trim.phase = .idle → ∀ stop abortFirst : Bool,
      (if stop then s.pins.estop else s.pins.guardOpen) = true →
      (if stop then s.line.causes.guardOpen else s.line.causes.estop) = false →
      ∀ c : Instr, c = (if stop then .emergencyStopInput dt false abortFirst else .guardInput dt false abortFirst) →
      ∃ t, exec c s = .next t ∧ Later dt s t ∧ Taken (s.now + dt) s.config.settings e rest g s.trim t.trim ∧
        t.line =
          { s.line with causes :=
              if stop then { s.line.causes with estop := false } else { s.line.causes with guardOpen := false } } ∧
        t.pins = (if stop then { s.pins with estop := false } else { s.pins with guardOpen := false }) ∧
        SameBut [.now, .trim, .line, .pins] s t ∧ BytesBut [Header.causes] s t)) ∧
  (∀ (s : State) (dt : Nat) (io : CountInputs), OnlyEvent (.closes .deliver) s → .deliver ∈ s.stations.engaged →
    s.trim.queue = [] → s.trim.phase = .idle → s.line.causes.estop = false → s.line.causes.guardOpen = false →
    ∀ b, s.clampAt 17 = .holding b → b.spoil = none → ∀ g, b.gauged = some g → g.setTime = 0 →
    ∃ t, exec (.forwardEncoderCount dt io) s = .next t ∧ Later dt s t ∧
      Taken (s.now + dt) s.config.settings ⟨b, s.now + dt, true⟩ [] g s.trim t.trim ∧ t.clampAt 17 = .empty ∧
      (∀ p : Fin 24, p ≠ 17 → t.clampAt p = s.clampAt p) ∧ t.carousel.lastDrop = some .toConveyor ∧
      SameBut [.now, .phase, .stations, .carousel, .trim] s t ∧ BytesBut [] s t) ∧
  (∀ (s : State) (dt : Nat) (p : Fin 12),
    (∀ e, s.trim.queue[p.val]? = some e → e.eligible = false → ∀ g, e.book.gauged = some g →
      e.arrival + g.setTime * 1000 ≤ s.now + dt → NoTake s (s.trim.queue.set p.val { e with eligible := true }) →
      ∃ t, exec (.setTimeExpiry dt p) s = .next t ∧ Later dt s t ∧
        t.trim = { s.trim with queue := s.trim.queue.set p.val { e with eligible := true } } ∧
        SameBut [.now, .trim] s t ∧ BytesBut [] s t) ∧
    ((∀ e, s.trim.queue[p.val]? = some e →
        e.eligible = true ∨ ∃ g, e.book.gauged = some g ∧ s.now + dt < e.arrival + g.setTime * 1000) →
      exec (.setTimeExpiry dt p) s = .next { s with now := s.now + dt }))

/-- A knife drive report (R130, R135, R137, R139, R142): while the drive is IDLE it is ignored; in POSITIONING the drive
takes it first, and when it then stands at the target the stroke begins with the cut timer set; a drive that goes on to
a next target leaves the trimmer POSITIONING under the same limit. In a POSITIONING fault a report that leaves the drive
IDLE at the target clears TRIMMER, and the trimmer cuts the books it holds or goes IDLE without books; any other report
moves the drive alone. That the infeed stop is closed over a queue with entries is the model's choice (assumption log,
entry 20), and so are a knife drive without a motion target once it is IDLE (entry 41) and the fault reason none after a
fault (entry 42). -/
def Obligations.KnifeReportStartsTheCut : Prop :=
  (∀ (s : State) (dt : Nat), s.trim.knives.target = none →
    exec (.knifePositioningReport dt) s = .next { s with now := s.now + dt }) ∧
  (∀ (s : State) (dt : Nat), s.trim.phase = .positioning → ∀ k, s.trim.target = some k →
    ∀ d, s.trim.knives.target = some d →
    ∃ t, exec (.knifePositioningReport dt) s = .next t ∧ Later dt s t ∧
      (if s.trim.knives.next = none ∨ s.trim.knives.next = some d then
        t.trim =
          (if d = k then
            { s.trim with
              knives := ⟨some d, none, none⟩
              phase := .cutting
              limitAt := none
              cutAt := some (s.now + dt + s.config.settings.cutTime * 1000)
              reason := .noFault }
           else { s.trim with knives := ⟨some d, none, none⟩ })
       else t.trim = { s.trim with knives := ⟨some d, s.trim.knives.next, none⟩ }) ∧
      SameBut [.now, .trim] s t ∧ BytesBut [] s t) ∧
  (∀ (s : State) (dt : Nat), s.trim.phase = .fault → s.trim.reason = .positioning → ∀ k, s.trim.target = some k →
    ∀ d, s.trim.knives.target = some d →
    ∀ stands : Bool, stands = (decide (s.trim.knives.next = none ∨ s.trim.knives.next = some d) && decide (d = k)) →
    (stands = false →
      ∃ t, exec (.knifePositioningReport dt) s = .next t ∧ Later dt s t ∧
        t.trim =
          { s.trim with
            knives :=
              if s.trim.knives.next = none ∨ s.trim.knives.next = some d then ⟨some d, none, none⟩
              else ⟨some d, s.trim.knives.next, none⟩ } ∧
        SameBut [.now, .trim] s t ∧ BytesBut [] s t) ∧
    (stands = true → (s.trim.books = [] → NoTake { s with trim.phase := .idle } s.trim.queue) →
      ∃ t, exec (.knifePositioningReport dt) s = .next t ∧ Later dt s t ∧
        t.trim =
          (if s.trim.books = [] then
            { s.trim with
              knives := ⟨some d, none, none⟩
              phase := .idle
              target := none
              limitAt := none
              cutAt := none
              reason := .noFault
              gate2 := .toReject
              infeed := if s.trim.queue = [] then .standingOpen else .closed }
           else
            { s.trim with
              knives := ⟨some d, none, none⟩
              phase := .cutting
              limitAt := none
              cutAt := some (s.now + dt + s.config.settings.cutTime * 1000)
              reason := .noFault }) ∧
        t.line = { s.line with causes := { s.line.causes with trimmer := false } } ∧
        (s.line.causes.trimmer = true → t.word Header.causes = t.line.causes.word) ∧
        SameBut [.now, .trim, .line] s t ∧ BytesBut [Header.causes] s t))

/-- The trimmer's faults (R35, R136 to R139, R161): the positioning limit and a cut timer that finds the beam away from
its top take it to FAULT with the reason and its books kept, and report TRIMMER, which halts a line in RUNNING,
EMPTYING, READY or WARMING; the beam's top position ends a STROKE fault, TRIMMER being cleared: the book held, if one
is, is posted made, and the trimmer goes IDLE. That the infeed stop is closed over a queue with entries is the model's
choice (assumption log, entry 20), and so is the fault reason none after a fault (entry 42). Each expiry has its effect
once its time has come (assumption log, entry 2). -/
def Obligations.TrimmerFaultsHalt : Prop :=
  (∀ (s : State) (dt : Nat) (beam : Bool) (reason : TrimReason) (c : Instr),
    (c = .positioningLimitExpiry dt ∧ s.trim.phase = .positioning ∧ (∃ u ∈ s.trim.limitAt, u ≤ s.now + dt) ∧
        reason = .positioning) ∨
      (c = .cutTimerExpiry dt beam ∧ beam = false ∧ s.trim.phase = .cutting ∧ (∃ u ∈ s.trim.cutAt, u ≤ s.now + dt) ∧
        reason = .stroke) →
    ∃ t, exec c s = .next t ∧ Later dt s t ∧
      t.trim = { s.trim with phase := .fault, limitAt := none, cutAt := none, reason := reason } ∧
      t.line.causes = { s.line.causes with trimmer := true } ∧
      (s.line.causes.trimmer = false → t.word Header.causes = t.line.causes.word) ∧
      (s.line.mode.halts = true →
        Entered .halted s t ∧ t.line.haltStart = some (s.now + dt) ∧
          Noticed (fun c => if c = 3 ∨ c = 4 then 1 else 0) s t) ∧
      (s.line.mode.halts = false → t.line = { s.line with causes := t.line.causes } ∧ t.port = s.port) ∧
      t.gathering.cells = s.gathering.cells ∧ t.carousel.places = s.carousel.places ∧
      SameBut [.now, .stations, .gathering, .carousel, .format, .miller, .glue, .cover, .trim, .line, .port] s t ∧
      BytesBut (Header.causes :: modeWords) s t) ∧
  (∀ (s : State) (dt : Nat), s.trim.phase = .fault → s.trim.reason = .stroke → s.trim.books = [] →
    (s.line.causes.guarded = true ∨ ∀ e ∈ s.trim.queue.head?, e.eligible = false) →
    ∃ t, exec (.cutCompleteInput dt) s = .next t ∧ Later dt s t ∧
      t.trim =
        { s.trim with
          phase := .idle
          target := none
          limitAt := none
          cutAt := none
          reason := .noFault
          gate2 := .toReject
          infeed := if s.trim.queue = [] then .standingOpen else .closed } ∧
      t.line = { s.line with causes := { s.line.causes with trimmer := false } } ∧
      (s.line.causes.trimmer = true → t.word Header.causes = t.line.causes.word) ∧
      SameBut [.now, .trim, .line] s t ∧ BytesBut [Header.causes] s t) ∧
  (∀ (s : State) (dt : Nat), MemoryInv s → s.trim.phase = .fault → s.trim.reason = .stroke →
    (s.line.mode = .emptying → s.inFlight ≠ 1) →
    (s.line.causes.guarded = true ∨ ∀ e ∈ s.trim.queue.head?, e.eligible = false) →
    ∀ b, s.trim.books = [b] → b.warnings = ⟨false, false, false⟩ → ∀ x, s.held b.ticket = some x →
    s.mem.cancelled b.ticket = false → x.made + 1 ≠ x.qty → (x.launched : Int) - (x.made + 1) - x.spoiled ≠ 0 →
    ∃ t, exec (.cutCompleteInput dt) s = .next t ∧ Later dt s t ∧
      t.trim =
        { s.trim with
          phase := .idle
          books := []
          target := none
          limitAt := none
          cutAt := none
          reason := .noFault
          gate2 := .toReject
          infeed := if s.trim.queue = [] then .standingOpen else .closed
          outfeed := some .stacker } ∧
      t.held b.ticket = some { x with made := x.made + 1 } ∧ (∀ i, i ≠ b.ticket → t.held i = s.held i) ∧
      t.mem.ticket b.ticket .made = BitVec.ofNat 32 (x.made + 1) ∧ t.sched = { s.sched with held := t.sched.held } ∧
      t.line = { s.line with causes := { s.line.causes with trimmer := false } } ∧
      (s.line.causes.trimmer = true → t.word Header.causes = t.line.causes.word) ∧
      SameBut [.now, .sched, .trim, .line] s t ∧ BytesBut [Header.causes, ticketAddr b.ticket .made] s t)

/-- The cut-complete event (R35, R39, R40, R138, R142, R147, R148, R150), nothing letting the trimmer take. For one book
without a warning the ticket's made count is raised and written, the ticket ends DONE exactly when the made count comes
to its quantity, the trimmer drops the book, sets the outfeed to the stacker and goes IDLE. A book with warnings goes to
the inspection output, and each warning gets its entry of the defect log, in ascending code order. A two-up cut posts
both books, on one ticket or on two. In EMPTYING the line stays so while a record is left, and the cut of the last
record or records takes it to READY (R160). That the infeed stop is closed over a queue with entries is the model's
choice (assumption log, entry 20), and so is the fault reason none in IDLE (entry 42). The expiry has its effect once its
time has come (assumption log, entry 2). The zeros beside the listed bits of the entry's word 0x10 are the model's choice
(assumption log, entry 39). -/
def Obligations.CutPostsMade : Prop :=
  (∀ (s : State) (dt : Nat), MemoryInv s → s.trim.phase = .cutting → (∃ u ∈ s.trim.cutAt, u ≤ s.now + dt) →
    (s.line.mode = .emptying → s.trim.books.length < s.inFlight) →
    (s.line.causes.guarded = true ∨ ∀ e ∈ s.trim.queue.head?, e.eligible = false) →
    ∀ b, s.trim.books = [b] → b.warnings = ⟨false, false, false⟩ → ∀ x, s.held b.ticket = some x →
    s.mem.cancelled b.ticket = false →
    ∀ trim : Trimmer,
      trim =
        { s.trim with
          phase := .idle
          books := []
          target := none
          limitAt := none
          cutAt := none
          reason := .noFault
          gate2 := .toReject
          infeed := if s.trim.queue = [] then .standingOpen else .closed
          outfeed := some .stacker } →
      (x.made + 1 ≠ x.qty → (x.launched : Int) - (x.made + 1) - x.spoiled ≠ 0 →
        ∃ t, exec (.cutTimerExpiry dt true) s = .next t ∧ Later dt s t ∧ t.trim = trim ∧
          t.held b.ticket = some { x with made := x.made + 1 } ∧ (∀ i, i ≠ b.ticket → t.held i = s.held i) ∧
          t.mem.ticket b.ticket .made = BitVec.ofNat 32 (x.made + 1) ∧ t.sched = { s.sched with held := t.sched.held } ∧
          SameBut [.now, .sched, .trim] s t ∧ BytesBut [ticketAddr b.ticket .made] s t) ∧
      (x.made + 1 = x.qty →
        ∃ t, exec (.cutTimerExpiry dt true) s = .next t ∧ Later dt s t ∧ t.trim = trim ∧ t.held b.ticket = none ∧
          (∀ i, i ≠ b.ticket → t.held i = s.held i) ∧ t.mem.ticket b.ticket .made = BitVec.ofNat 32 x.qty ∧
          t.mem.ticket b.ticket .stage = Stage.done.word ∧ t.mem.ticket b.ticket .endReason = 0 ∧
          t.mem.ticket b.ticket .finish = s.port.counts[(1 : Fin 8)] + 1 ∧ Noticed (oneNotice .ticketFinished) s t ∧
          t.sched.cursor = (if x.stage = .active then (s.sched.cursor + 1) % 256 else s.sched.cursor) ∧
          t.sched = { s.sched with held := t.sched.held, cursor := t.sched.cursor } ∧
          t.port = { s.port with counts := t.port.counts, attention := t.port.attention } ∧
          SameBut [.now, .sched, .trim, .port] s t ∧
          BytesBut ([Header.count 1, Header.cursor] ++ ticketWordsAt b.ticket) s t)) ∧
  (∀ (s : State) (dt : Nat), MemoryInv s → s.trim.phase = .cutting → (∃ u ∈ s.trim.cutAt, u ≤ s.now + dt) →
    (s.line.mode = .emptying → s.trim.books.length < s.inFlight) →
    (s.line.causes.guarded = true ∨ ∀ e ∈ s.trim.queue.head?, e.eligible = false) →
    ∀ outfeed, ∀ trim : Trimmer,
      trim =
        { s.trim with
          phase := .idle
          books := []
          target := none
          limitAt := none
          cutAt := none
          reason := .noFault
          gate2 := .toReject
          infeed := if s.trim.queue = [] then .standingOpen else .closed
          outfeed := some outfeed } →
    (∀ b, s.trim.books = [b] → outfeed = .inspection → ∀ x, s.held b.ticket = some x →
      s.mem.cancelled b.ticket = false → x.made + 1 < x.qty → x.made + x.spoiled + 1 < x.launched →
      ∀ g, b.gauged = some g → ∀ warnings : List (Nat × Nat × Nat),
      warnings =
        (if b.warnings.glueHeavy then [(32, 6, g.expectedFlow)] else []) ++
          (if b.warnings.glueClipped then [(33, 2, g.spineClose - g.spineOpen)] else []) ++
          (if b.warnings.spineDrift then [(34, 2, (g.cover.map (·.spine)).getD 0)] else []) →
      warnings ≠ [] →
      ∃ t, exec (.cutTimerExpiry dt true) s = .next t ∧ Later dt s t ∧ t.trim = trim ∧
        t.held b.ticket = some { x with made := x.made + 1 } ∧
        t.mem.ticket b.ticket .made = BitVec.ofNat 32 (x.made + 1) ∧
        Noticed (fun c => if c = 2 then warnings.length else 0) s t ∧
        (∀ i w, warnings[i]? = some w →
          ∀ slot, slot = 0x8800 + 32 * ((s.port.counts[(2 : Fin 8)] + BitVec.ofNat 32 i).toNat % 128) →
          t.mem.readWord slot = s.port.counts[(2 : Fin 8)] + BitVec.ofNat 32 i + 1 ∧
            t.mem.readWord (slot + 4) = b.serial ∧ t.mem.read (slot + 12) = BitVec.ofNat 8 w.1 ∧
            t.mem.read (slot + 13) = 1 ∧ t.mem.read (slot + 14) = 0 ∧ t.mem.read (slot + 15) = 4 ∧
            t.mem.read (slot + 16) = BitVec.ofNat 8 w.2.1 ∧ t.mem.read (slot + 17) = 1 ∧ t.mem.read (slot + 18) = 0 ∧
            t.mem.readWord (slot + 20) = word32 g.tMeas ∧ t.mem.readWord (slot + 24) = word32 w.2.2) ∧
        SameBut [.now, .sched, .trim, .port] s t) ∧
    (∀ b c, s.trim.books = [b, c] → outfeed = .stacker → b.warnings = ⟨false, false, false⟩ →
      c.warnings = ⟨false, false, false⟩ → s.mem.cancelled b.ticket = false → s.mem.cancelled c.ticket = false →
      ∀ x y, s.held b.ticket = some x → s.held c.ticket = some y →
      x.made + 2 < x.qty → x.made + x.spoiled + 2 < x.launched → y.made + 2 < y.qty → y.made + y.spoiled + 2 < y.launched →
      ∃ t, exec (.cutTimerExpiry dt true) s = .next t ∧ Later dt s t ∧ t.trim = trim ∧
        (b.ticket = c.ticket → t.held b.ticket = some { x with made := x.made + 2 }) ∧
        (b.ticket ≠ c.ticket →
          t.held b.ticket = some { x with made := x.made + 1 } ∧ t.held c.ticket = some { y with made := y.made + 1 }) ∧
        (∀ i, i ≠ b.ticket → i ≠ c.ticket → t.held i = s.held i) ∧
        (∀ i ∈ [b.ticket, c.ticket], ∀ z, t.held i = some z → t.mem.ticket i .made = BitVec.ofNat 32 z.made) ∧
        t.sched = { s.sched with held := t.sched.held } ∧ SameBut [.now, .sched, .trim] s t ∧
        BytesBut [ticketAddr b.ticket .made, ticketAddr c.ticket .made] s t)) ∧
  (∀ (s : State) (dt : Nat), MemoryInv s → s.trim.phase = .cutting → (∃ u ∈ s.trim.cutAt, u ≤ s.now + dt) →
    s.line.mode = .emptying → s.trim.books ≠ [] → s.inFlight = s.trim.books.length →
    ∃ t, exec (.cutTimerExpiry dt true) s = .next t ∧ Later dt s t ∧ Entered .ready s t ∧
      t.line.causes = s.line.causes ∧ t.port.counts[(3 : Fin 8)] = s.port.counts[(3 : Fin 8)] + 1 ∧
      t.word (Header.count 3) = t.port.counts[(3 : Fin 8)] ∧
      t.trim =
        { s.trim with
          phase := .idle
          books := []
          target := none
          limitAt := none
          cutAt := none
          reason := .noFault
          gate2 := .toReject
          infeed := .standingOpen
          outfeed := some
            (if ∃ b ∈ s.trim.books, b.warnings ≠ ⟨false, false, false⟩ then .inspection else .stacker) } ∧
      (∀ b, s.trim.books = [b] → ∀ x, s.held b.ticket = some x →
        t.mem.ticket b.ticket .made = BitVec.ofNat 32 (x.made + 1)) ∧
      (∀ x ∈ t.snapshotWords, t.word x.1 = x.2) ∧ t.gathering.cells = s.gathering.cells ∧
      t.carousel.places = s.carousel.places ∧
      SameBut [.now, .stations, .sched, .gathering, .carousel, .format, .miller, .glue, .cover, .trim, .line, .port] s t)

/-! ### Line control (chapter 10) -/

/-- The emergency-stop and the guard inputs, the trimmer holding no book (R132, R140, R158, R161, R162): a level going
on sets the cause, halts a line in RUNNING, EMPTYING, READY or WARMING and, for the emergency stop, stops an inch; a
level going off, where nothing lets the trimmer take, clears the cause and leaves the mode. The order of the halt and
the abort is an operand (assumption log, entry 9). -/
def Obligations.GuardsHaltAndRelease : Prop :=
  ∀ (s : State) (dt : Nat) (stop abortFirst : Bool),
    ((if stop then s.pins.estop else s.pins.guardOpen) = false → s.trim.books = [] →
      (s.trim.phase = .idle ∨ s.trim.phase = .fault) → (s.line.mode = .emptying → s.inFlight ≠ 0) →
      ∀ c : Instr, c = (if stop then .emergencyStopInput dt true abortFirst else .guardInput dt true abortFirst) →
      ∃ t, exec c s = .next t ∧ Later dt s t ∧
        t.pins = (if stop then { s.pins with estop := true } else { s.pins with guardOpen := true }) ∧
        t.line.causes =
          (if stop then { s.line.causes with estop := true } else { s.line.causes with guardOpen := true }) ∧
        ((if stop then s.line.causes.estop else s.line.causes.guardOpen) = false →
          t.word Header.causes = t.line.causes.word) ∧
        (s.line.mode.halts = true →
          Entered .halted s t ∧ t.line.haltStart = some (s.now + dt) ∧
            Noticed (fun c => if c = 3 ∨ c = 4 then 1 else 0) s t) ∧
        (s.line.mode.halts = false →
          t.port = s.port ∧
            t.line =
              { s.line with
                causes := t.line.causes
                drive := if stop = true ∧ s.line.drive = .inching then .stopped else s.line.drive }) ∧
        t.gathering.cells = s.gathering.cells ∧ t.carousel.places = s.carousel.places ∧
        SameBut [.now, .stations, .gathering, .carousel, .format, .miller, .glue, .cover, .line, .port, .pins] s t ∧
        BytesBut (Header.causes :: modeWords) s t) ∧
    ((if stop then s.pins.estop else s.pins.guardOpen) = true →
      NoTake { s with line := { s.line with causes :=
        if stop then { s.line.causes with estop := false } else { s.line.causes with guardOpen := false } } } s.trim.queue →
      ∀ c : Instr, c = (if stop then .emergencyStopInput dt false abortFirst else .guardInput dt false abortFirst) →
      ∃ t, exec c s = .next t ∧ Later dt s t ∧
        t.pins = (if stop then { s.pins with estop := false } else { s.pins with guardOpen := false }) ∧
        t.line =
          { s.line with causes :=
              if stop then { s.line.causes with estop := false } else { s.line.causes with guardOpen := false } } ∧
        ((if stop then s.line.causes.estop else s.line.causes.guardOpen) = true →
          t.word Header.causes = t.line.causes.word) ∧
        SameBut [.now, .line, .pins] s t ∧ BytesBut [Header.causes] s t)

/-- The guard opens or the emergency stop comes while neither was present and the trimmer holds books (R140, R145,
R149): in POSITIONING and CUTTING the stroke or the positioning is given up and the trimmer goes IDLE, in FAULT it stays
there without books; each book, one or the two of a two-up cut, is marked TRIM_ABORT and posted spoiled, the head book
first, with the trimmer's state as detail. Both causes halt a line in RUNNING, EMPTYING, READY or WARMING, and ESTOP
stops an inch. The order of the halt and the abort is an operand (assumption log, entry 9). That the infeed stop is
closed over a queue with entries, and what a FAULT without books makes of it, is the model's choice (entry 20), and so
are the target and the fault reason none after an abort that ends in IDLE (entry 42) and the zeros in the entry's word
that holds the point (entry 39). -/
def Obligations.GuardAbortsTheCut : Prop :=
  ∀ (s : State) (dt : Nat) (stop abortFirst : Bool), MemoryInv s →
    (if stop then s.pins.estop else s.pins.guardOpen) = false → s.line.causes.guarded = false →
    s.trim.phase ≠ .idle → s.trim.books ≠ [] → s.trim.books.length ≤ 2 → (∀ b ∈ s.trim.books, b.spoil = none) →
    ∀ c : Instr, c = (if stop then .emergencyStopInput dt true abortFirst else .guardInput dt true abortFirst) →
    ∃ t, exec c s = .next t ∧ Later dt s t ∧
      t.trim =
        (if s.trim.phase ≠ .fault then
          { s.trim with
            phase := .idle
            books := []
            target := none
            limitAt := none
            cutAt := none
            reason := .noFault
            gate2 := .toReject
            infeed := if s.trim.queue = [] then .standingOpen else .closed }
         else if s.trim.queue = [] then { s.trim with books := [], gate2 := .toReject, infeed := .standingOpen }
         else { s.trim with books := [], infeed := .closed }) ∧
      t.port.counts[(2 : Fin 8)] = s.port.counts[(2 : Fin 8)] + BitVec.ofNat 32 s.trim.books.length ∧
      (∀ i b, s.trim.books[i]? = some b →
        ∀ slot, slot = 0x8800 + 32 * ((s.port.counts[(2 : Fin 8)] + BitVec.ofNat 32 i).toNat % 128) →
        t.mem.readWord slot = s.port.counts[(2 : Fin 8)] + BitVec.ofNat 32 i + 1 ∧ t.mem.readWord (slot + 4) = b.serial ∧
          t.mem.read (slot + 12) = 20 ∧ t.mem.read (slot + 13) = 0 ∧ t.mem.read (slot + 15) = 3 ∧
          t.mem.read (slot + 16) = 17 ∧ t.mem.read (slot + 17) = 1 ∧
          t.mem.readWord (slot + 24) =
            (match s.trim.phase with | .idle => 0 | .positioning => 1 | .cutting => 2 | .fault => 3)) ∧
      t.line.causes =
        (if stop then { s.line.causes with estop := true } else { s.line.causes with guardOpen := true }) ∧
      t.word Header.causes = t.line.causes.word ∧
      t.pins = (if stop then { s.pins with estop := true } else { s.pins with guardOpen := true }) ∧
      (s.line.mode.halts = true → t.line.mode = .halted ∧ t.line.haltStart = some (s.now + dt) ∧ t.line.drive = .stopped) ∧
      (s.line.mode.halts = false →
        t.line =
          { s.line with
            causes := t.line.causes
            drive := if stop = true ∧ s.line.drive = .inching then .stopped else s.line.drive }) ∧
      t.gathering.cells = s.gathering.cells ∧ t.carousel.places = s.carousel.places ∧ t.phase = s.phase ∧
      t.pot = s.pot ∧ t.cache = s.cache ∧ t.config = s.config ∧ t.pending = s.pending

/-- The start key (R10, R158): a press in READY makes the mode RUNNING without a COMMAND_DONE; in HALTED without ESTOP
it begins an inch, which is a drive start; in HALTED under ESTOP and in any other mode it has no effect; a release
ends an inch in progress. The pending changeovers set out at the entry to RUNNING (R16). The key acts at its press only,
and an inch gives the drive no speed reference: both are the model's reading (assumption log, entries 19 and 38). -/
def Obligations.StartKeyRunsAndInches : Prop :=
  (∀ (s : State) (dt : Nat), s.pins.startKey = false →
    ∃ t, exec (.startKeyPress dt) s = .next t ∧ Later dt s t ∧ t.pins = { s.pins with startKey := true } ∧
      (s.line.mode = .ready →
        Entered .running s t ∧ ModeFrame .running { s with pins := { s.pins with startKey := true } } t ∧
          Noticed (oneNotice .modeChanged) s t ∧ BytesBut modeWords s t) ∧
      (s.line.mode = .halted → s.line.causes.estop = false →
        t.line = { s.line with drive := .inching } ∧
          t.phase =
            { s.phase with
              lastCycle := s.config.settings.startCycle
              startMark := true
              comp := compFor s.config.settings.valveLead s.config.settings.startCycle } ∧
          SameBut [.now, .phase, .line, .pins] s t ∧ BytesBut [] s t) ∧
      (s.line.mode ≠ .ready → ¬ (s.line.mode = .halted ∧ s.line.causes.estop = false) →
        SameBut [.now, .pins] s t ∧ BytesBut [] s t)) ∧
  (∀ (s : State) (dt : Nat),
    ∃ t, exec (.startKeyRelease dt) s = .next t ∧ Later dt s t ∧ t.pins = { s.pins with startKey := false } ∧
      t.line = { s.line with drive := if s.line.drive = .inching then .stopped else s.line.drive } ∧
      SameBut [.now, .line, .pins] s t ∧ BytesBut [] s t)

/-- The stable timer ends the warming in READY, or in RUNNING when run-when-ready is set, and the rest timer takes
READY to SETBACK and SETBACK to COLD (R156, R159, R167); the pending changeovers set out at an entry to RUNNING (R16). That
the heater output is off at once in COLD is the model's choice (assumption log, entry 29). Each expiry has its effect once its time has come (assumption log, entry 2). -/
def Obligations.LineTimersChangeMode : Prop :=
  (∀ (s : State) (dt : Nat), s.line.mode = .warming → (∃ u ∈ s.line.stableAt, u ≤ s.now + dt) →
    ∀ m, m = (if s.line.runWhenReady then LineMode.running else .ready) →
    ∃ t, exec (.stableTimerExpiry dt) s = .next t ∧ Later dt s t ∧ Entered m s t ∧ ModeFrame m s t ∧
      t.line.runWhenReady = false ∧ Noticed (oneNotice .modeChanged) s t ∧ BytesBut modeWords s t) ∧
  (∀ (s : State) (dt : Nat), s.line.mode = .ready ∨ s.line.mode = .setback → (∃ u ∈ s.line.restAt, u ≤ s.now + dt) →
    ∀ m, m = (if s.line.mode = .ready then LineMode.setback else .cold) →
    ∃ t, exec (.restTimerExpiry dt) s = .next t ∧ Later dt s t ∧ Entered m s t ∧ ModeFrame m s t ∧
      Noticed (oneNotice .modeChanged) s t ∧ BytesBut modeWords s t)

/-- A schedule notice (R168, R171): the word written stands; with its enable set in the wake enables READY becomes
RUNNING, the pending changeovers setting out (R16), WARMING takes the run-when-ready mark, SETBACK and COLD without a halt
cause become WARMING with that mark; in every other case nothing else happens. -/
def Obligations.ScheduleNoticeWakes : Prop :=
  ∀ (s : State) (dt : Nat) (value : Word), ∀ w, w = s.word Header.wakeEnables →
    ∃ t, exec (.scheduleNotice dt value) s = .next t ∧ Later dt s t ∧ t.word Header.scheduleNotice = value ∧
      (if s.line.mode = .ready ∧ w.getLsbD 0 = true then
        Entered .running s t ∧ ModeFrame .running s t ∧ Noticed (oneNotice .modeChanged) s t ∧
          BytesBut (Header.scheduleNotice :: modeWords) s t
       else if s.line.mode = .warming ∧ w.getLsbD 0 = true then
        t.line = { s.line with runWhenReady := true } ∧ SameBut [.now, .line] s t ∧ BytesBut [Header.scheduleNotice] s t
       else if ((s.line.mode = .setback ∧ w.getLsbD 1 = true) ∨ (s.line.mode = .cold ∧ w.getLsbD 2 = true)) ∧
          s.line.causes.any = false then
        Entered .warming s t ∧ ModeFrame .warming s t ∧ t.line.runWhenReady = true ∧
          Noticed (oneNotice .modeChanged) s t ∧ BytesBut (Header.scheduleNotice :: modeWords) s t
       else SameBut [.now] s t ∧ BytesBut [Header.scheduleNotice] s t)

/-! ### The command slot and the host (chapter 11) -/

/-- While the slot is TAKEN a command issued through it is ignored: the words the host wrote stand, and nothing is
executed (R172). With the slot IDLE a command that is not accepted is answered at once with its result and changes
nothing (R85, R157, R163, R164, R172, R173, R175). The host's writes of the code, the argument and ISSUED are one
command term (assumption log, entry 4). -/
def Obligations.CommandsTurnedAway : Prop :=
  (∀ (s : State) (c : Instr), s.port.taken = true → ∀ x, slotCommand c = some x →
    ∃ t, exec c s = .next t ∧ s.now ≤ t.now ∧ t.word Header.commandState = 1 ∧ t.word Header.commandCode = x.1 ∧
      (∀ w ∈ x.2, t.word Header.arg1 = w) ∧ SameBut [.now] s t ∧
      BytesBut ([Header.commandState, Header.commandCode] ++ if x.2.isSome then [Header.arg1] else []) s t) ∧
  (∀ (s : State) (dt : Nat) (arg : Word), s.port.taken = false →
    (s.line.mode ≠ .cold → s.line.mode ≠ .setback →
      ∃ t, exec (.warm dt) s = .next t ∧ Later dt s t ∧ OnlyAnswered .busy 0 s t) ∧
    (s.line.mode = .cold ∨ s.line.mode = .setback → s.line.causes.any = true →
      ∃ t, exec (.warm dt) s = .next t ∧ Later dt s t ∧ OnlyAnswered .faultPresent s.line.causes.word s t) ∧
    (s.line.mode ≠ .ready → ∃ t, exec (.start dt) s = .next t ∧ Later dt s t ∧ OnlyAnswered .busy 0 s t) ∧
    (s.line.mode ≠ .running → (s.line.mode = .emptying → s.inFlight ≠ 0) →
      ∃ t, exec (.runOut dt) s = .next t ∧ Later dt s t ∧ OnlyAnswered .busy 0 s t) ∧
    (s.line.mode ≠ .ready → ∃ t, exec (.setback dt) s = .next t ∧ Later dt s t ∧ OnlyAnswered .busy 0 s t) ∧
    (s.line.mode ≠ .ready → s.line.mode ≠ .setback → s.line.mode ≠ .warming →
      ∃ t, exec (.cool dt) s = .next t ∧ Later dt s t ∧ OnlyAnswered .busy 0 s t) ∧
    (s.line.mode = .cold ∨ s.line.mode = .setback ∨ s.line.mode = .halted →
      ∃ t, exec (.halt dt) s = .next t ∧ Later dt s t ∧ OnlyAnswered .busy 0 s t) ∧
    (s.line.mode ≠ .halted → ∃ t, exec (.resume dt) s = .next t ∧ Later dt s t ∧ OnlyAnswered .busy 0 s t) ∧
    (s.line.mode = .halted →
      (s.line.causes.estop || s.line.causes.guardOpen || s.line.causes.jam || s.line.causes.trimmer ||
        s.line.causes.overheat) = true →
      ∃ t, exec (.resume dt) s = .next t ∧ Later dt s t ∧ OnlyAnswered .faultPresent s.line.causes.word s t) ∧
    (23 < arg.toNat → ∃ t, exec (.clearClamp dt arg) s = .next t ∧ Later dt s t ∧ OnlyAnswered .badArg 0 s t) ∧
    (arg.toNat ≤ 23 → s.line.mode ≠ .halted →
      ∃ t, exec (.clearClamp dt arg) s = .next t ∧ Later dt s t ∧ OnlyAnswered .busy 0 s t) ∧
    (s.line.mode ≠ .cold ∧ s.line.mode ≠ .ready ∧ s.line.mode ≠ .setback ∨ s.inFlight ≠ 0 ∨ s.anyUnknown = true →
      ∃ t, exec (.loadConfig dt) s = .next t ∧ Later dt s t ∧ OnlyAnswered .busy 0 s t) ∧
    (arg.toNat = 0 ∨ 11 < arg.toNat →
      ∃ t, exec (.unknownCommand dt arg) s = .next t ∧ Later dt s t ∧ t.word Header.commandCode = arg ∧
        OnlyAnswered .unknownCommand 0 s t))

/-- The mode commands in the modes that accept them (R156, R157, R160): WARM from COLD and SETBACK without a halt
cause, START and SETBACK from READY, RUN_OUT from RUNNING, COOL from READY, SETBACK and WARMING. A RUN_OUT of a line
without a book in flight goes to READY through EMPTYING at once, with two notices of MODE_CHANGED. At the entry to RUNNING
or EMPTYING the pending changeovers set out (R16). That the heater output
is off at once in COLD is the model's choice (assumption log, entry 29). The host's writes of the code and ISSUED are one
command term (assumption log, entry 4). -/
def Obligations.ModeCommandsAccepted : Prop :=
  ∀ (s : State) (dt : Nat), s.port.taken = false →
    (s.line.mode = .cold ∨ s.line.mode = .setback → s.line.causes.any = false →
      ∃ t, exec (.warm dt) s = .next t ∧ Later dt s t ∧ ModeCommandDone .warming s t ∧ t.line.runWhenReady = false) ∧
    (s.line.mode = .ready → ∃ t, exec (.start dt) s = .next t ∧ Later dt s t ∧ ModeCommandDone .running s t) ∧
    (s.line.mode = .running → s.inFlight ≠ 0 →
      ∃ t, exec (.runOut dt) s = .next t ∧ Later dt s t ∧ ModeCommandDone .emptying s t) ∧
    (s.line.mode = .running → s.inFlight = 0 →
      ∃ t, exec (.runOut dt) s = .next t ∧ Later dt s t ∧ Entered .ready s t ∧ ModeFrame .ready s t ∧ Answered t .ok 0 ∧
        Noticed (fun c => if c = 0 then 1 else if c = 3 then 2 else 0) s t ∧ AttentionInv t ∧
        BytesBut (slotWords ++ modeWords) s t) ∧
    (s.line.mode = .ready → ∃ t, exec (.setback dt) s = .next t ∧ Later dt s t ∧ ModeCommandDone .setback s t) ∧
    (s.line.mode = .ready ∨ s.line.mode = .setback ∨ s.line.mode = .warming →
      ∃ t, exec (.cool dt) s = .next t ∧ Later dt s t ∧ ModeCommandDone .cold s t)

/-- HALT (R163): in RUNNING, EMPTYING, READY and WARMING it sets HOST_HALT and the line enters HALTED, the result being
OK; in any other mode it gives BUSY and sets no cause; and HOST_HALT, once set, goes at no command but a RESUME that
is accepted, however the host issues it, and a reset. -/
def Obligations.HaltHalts : Prop :=
  (∀ (s : State) (dt : Nat), s.port.taken = false →
    (s.line.mode = .running ∨ s.line.mode = .emptying ∨ s.line.mode = .ready ∨ s.line.mode = .warming →
      ∃ t, exec (.halt dt) s = .next t ∧ Later dt s t ∧ t.line.causes = { s.line.causes with hostHalt := true } ∧
        (s.line.causes.hostHalt = false → t.word Header.causes = t.line.causes.word) ∧ Entered .halted s t ∧
        t.line.haltStart = some (s.now + dt) ∧
        t.line.runWhenReady = (if s.line.mode = .warming then false else s.line.runWhenReady) ∧
        Answered t .ok 0 ∧ Noticed (fun c => if c = 0 ∨ c = 3 ∨ c = 4 then 1 else 0) s t ∧
        t.gathering.cells = s.gathering.cells ∧ t.carousel.places = s.carousel.places ∧
        SameBut [.now, .stations, .gathering, .carousel, .format, .miller, .glue, .cover, .line, .port] s t ∧
        BytesBut (Header.causes :: slotWords ++ modeWords) s t) ∧
    (s.line.mode = .cold ∨ s.line.mode = .setback ∨ s.line.mode = .halted →
      ∃ t, exec (.halt dt) s = .next t ∧ Later dt s t ∧ OnlyAnswered .busy 0 s t)) ∧
  (∀ (c : Instr) (s t : State), exec c s = .next t → s.line.causes.hostHalt = true → t.line.causes.hostHalt = false →
    ((∃ dt, c = .resume dt ∨ c = .unknownCommand dt 5 ∨
          (c = .hostWordWrite dt 0x020 1 ∧ s.word Header.commandCode = 5)) ∧
        s.line.mode = .halted ∧ t.line.mode = .running ∧ t.word Header.result = 0) ∨
      (∃ dt levels, c = .powerOnReset dt levels) ∨ ∃ dt, c = .controllerReset dt)

/-- RESUME accepted (R10, R164, R165): in HALTED with no cause but COVER_SEQUENCE and HOST_HALT, those two go, the halt
start time goes, the mode becomes RUNNING with a drive start, the pending changeovers set out toward the books at
carousel positions 3 and 8 as the open-time rule leaves them (R16), and a halt at or above the open time marks
HALT_SPOIL every glued book not yet nipped and without a spoil code, with the duration in ms as detail. The duration is
the whole number of ms (assumption log, entry 18). -/
def Obligations.ResumeAppliesOpenTime : Prop :=
  ∀ (s : State) (dt : Nat), s.port.taken = false → s.line.mode = .halted → s.line.causes.estop = false →
    s.line.causes.guardOpen = false → s.line.causes.jam = false → s.line.causes.trimmer = false →
    s.line.causes.overheat = false → ∀ h, s.line.haltStart = some h →
    ∃ t, exec (.resume dt) s = .next t ∧ Later dt s t ∧ Entered .running s t ∧ Answered t .ok 0 ∧
      t.line.causes = ⟨false, false, false, false, false, false, false⟩ ∧ t.line.haltStart = none ∧
      (s.line.causes.any = true → t.word Header.causes = 0) ∧
      (∀ p : Fin 24, t.clampAt p =
        match s.clampAt p with
        | .holding b =>
          if s.config.settings.openTime ≤ (s.now + dt - h) / 1000 ∧ b.glued = true ∧ b.nipped = false ∧ b.spoil = none then
            .holding
              { b with
                spoil := some
                  ⟨.haltSpoil, ⟨true, p.val⟩, BitVec.ofNat 32 (min 4294967295 ((s.now + dt - h) / 1000)), false⟩ }
          else .holding b
        | x => x) ∧
      (∀ p : Fin 24, t.carousel.places[p].number = s.carousel.places[p].number) ∧
      t.carousel = { s.carousel with places := t.carousel.places } ∧ PendingTaken { s with carousel := t.carousel } t ∧
      Noticed (fun c => if c = 0 ∨ c = 3 then 1 else 0) s t ∧
      SameBut [.now, .phase, .carousel, .miller, .cover, .line, .port] s t ∧
      BytesBut (Header.causes :: slotWords ++ modeWords) s t

/-- CLEAR_CLAMP accepted (R51, R73, R85, R146): in HALTED the clamp of the number, wherever it stands, becomes EMPTY; an
UNKNOWN or EMPTY one posts nothing and gives detail 0; the record of a HOLDING one loses its lock and is posted under
REMOVED, or under the code it carries, and the detail is its serial. Exactly one clamp has each number, 0 to 23 (R73). -/
def Obligations.ClearClamp : Prop :=
  ∀ (s : State) (dt : Nat) (arg : Word), s.port.taken = false → s.line.mode = .halted → MemoryInv s →
    arg.toNat ≤ 23 → ∀ p : Fin 24, s.carousel.places[p].number = arg.toNat →
    (∀ q : Fin 24, q ≠ p → s.carousel.places[q].number ≠ arg.toNat) →
    ((s.clampAt p).isHolding = false →
      ∃ t, exec (.clearClamp dt arg) s = .next t ∧ Later dt s t ∧ Answered t .ok 0 ∧ t.clampAt p = .empty ∧
        (∀ q : Fin 24, q ≠ p → t.clampAt q = s.clampAt q) ∧
        (∀ q : Fin 24, t.carousel.places[q].number = s.carousel.places[q].number) ∧
        t.carousel = { s.carousel with places := t.carousel.places } ∧ Noticed (oneNotice .commandDone) s t ∧
        SameBut [.now, .carousel, .port] s t ∧ BytesBut slotWordsArg s t) ∧
    (∀ b, s.clampAt p = .holding b →
      ∃ t, exec (.clearClamp dt arg) s = .next t ∧ Later dt s t ∧ Answered t .ok b.serial ∧ t.clampAt p = .empty ∧
        (∀ q : Fin 24, q ≠ p → t.clampAt q = s.clampAt q) ∧ t.gathering = s.gathering ∧ t.trim = s.trim ∧
        t.line = s.line ∧ t.phase = s.phase ∧ t.config = s.config ∧
        t.port.counts[(2 : Fin 8)] = s.port.counts[(2 : Fin 8)] + 1 ∧
        t.mem.readWord (logSlot s.port.counts[(2 : Fin 8)] + 4) = b.serial ∧
        t.mem.read (logSlot s.port.counts[(2 : Fin 8)] + 12) =
          (match b.spoil with | some m => BitVec.ofNat 8 m.code.number | none => 18) ∧
        t.mem.read (logSlot s.port.counts[(2 : Fin 8)] + 15) = 2 ∧
        (b.entry = none → t.cache = s.cache) ∧ (∀ e, b.entry = some e → LockReleased e s t))

/-- SET_CURSOR (R34): BAD_ARG above 255; BUSY while a ticket is held or a remake waits; else the cursor is set and written
to the header with result OK, in any line mode, a fetch in progress not being affected. -/
def Obligations.SetCursor : Prop :=
  ∀ (s : State) (dt : Nat) (arg : Word), s.port.taken = false →
    (255 < arg.toNat → ∃ t, exec (.setCursor dt arg) s = .next t ∧ Later dt s t ∧ OnlyAnswered .badArg 0 s t) ∧
    (arg.toNat ≤ 255 → s.sched.held ≠ [] ∨ s.sched.remakes ≠ [] →
      ∃ t, exec (.setCursor dt arg) s = .next t ∧ Later dt s t ∧ OnlyAnswered .busy 0 s t) ∧
    (arg.toNat ≤ 255 → s.sched.held = [] → s.sched.remakes = [] →
      ∃ t, exec (.setCursor dt arg) s = .next t ∧ Later dt s t ∧ Answered t .ok 0 ∧
        t.sched = { s.sched with cursor := arg.toNat } ∧ t.word Header.cursor = arg ∧
        Noticed (oneNotice .commandDone) s t ∧ SameBut [.now, .sched, .port] s t ∧
        BytesBut (Header.cursor :: slotWordsArg) s t)

/-- PURGE_CACHE (R54): in any line mode and with result OK each entry is dealt with by its state, a fetch in progress
begins again from a new first attempt, every stock place becomes absent, and the occupancy is written. -/
def Obligations.PurgeCache : Prop :=
  ∀ (s : State) (dt : Nat), s.port.taken = false →
    ∃ t, exec (.purgeCache dt) s = .next t ∧ Later dt s t ∧ Answered t .ok 0 ∧
      (∀ e : Fin 16, t.cache.entries[e] =
        if s.cache.entries[e].state = .filled ∧ s.cache.entries[e].locks = 0 then ⟨.empty, none, none, 0, false, false⟩
        else if s.cache.entries[e].state = .filled then { s.cache.entries[e] with stale := true, job := none }
        else s.cache.entries[e]) ∧
      (∀ c : Fin 64, t.cache.stock[c] = none) ∧
      (s.cache.fetch = none → t.cache.fetch = none) ∧
      (∀ f, s.cache.fetch = some f →
        t.cache.fetch = some { f with startedAt := s.now + dt, waitUntil := none, writes := [] }) ∧
      t.word Header.occupancy =
        BitVec.ofNat 32 ((List.finRange 16).filter fun e => decide (t.cache.entries[e].state ≠ .empty)).length ∧
      Noticed (oneNotice .commandDone) s t ∧ SameBut [.now, .cache, .port] s t ∧
      BytesBut (Header.occupancy :: slotWords) s t

/-- LOAD_CONFIG (R8, R10, R11, R172, R174 to R176): accepted, it takes the slot and begins to read; at the end of the
reading a record with a bad field gives BAD_CONFIG with the field's index, a record that passes while the conditions
no longer hold gives BUSY, and one that passes becomes the configuration in force, with the source word LOADED, the
taken marks of the values passed, the new start cycle time, the start mark and the compensation. Which field is the first
bad one is said in the numbers of R176 and R8. When each word is read is an operand, and an end of a
reading that is not in progress has no effect (assumption log, entries 2 and 8). -/
def Obligations.LoadConfig : Prop :=
  (∀ (s : State) (dt : Nat), s.port.taken = false → s.line.mode = .cold ∨ s.line.mode = .ready ∨ s.line.mode = .setback →
    s.inFlight = 0 → s.anyUnknown = false →
    ∃ t, exec (.loadConfig dt) s = .next t ∧ Later dt s t ∧ t.word Header.commandState = 2 ∧
      t.word Header.commandCode = 1 ∧ t.port = { s.port with taken := true, reading := some [] } ∧
      SameBut [.now, .port] s t ∧ BytesBut [Header.commandState, Header.commandCode] s t) ∧
  (∀ (s : State) (dt : Nat) (lags : List Nat), ∀ log, s.port.reading = some log →
    ∀ ws, ws = configReads s.mem log lags →
    ∀ fits : Bool,
      fits = ((decide (s.line.mode = .cold) || decide (s.line.mode = .ready) || decide (s.line.mode = .setback)) &&
        decide (s.inFlight = 0) && !s.anyUnknown) →
    ∃ t, exec (.loadConfigReadEnd dt lags) s = .next t ∧ Later dt s t ∧
      t.port =
        { s.port with taken := false, reading := none, counts := t.port.counts, attention := t.port.attention } ∧
      Noticed (oneNotice .commandDone) s t ∧
      (∀ i, firstBadField ws = some i →
        Answered t .badConfig (BitVec.ofNat 32 i) ∧ SameBut [.now, .port] s t ∧ BytesBut slotWords s t) ∧
      (firstBadField ws = none → fits = false →
        Answered t .busy 0 ∧ SameBut [.now, .port] s t ∧ BytesBut slotWords s t) ∧
      (firstBadField ws = none → fits = true →
        Answered t .ok 0 ∧ t.config = ⟨settingsOfWords ws, true⟩ ∧ t.word Header.source = 1 ∧
          (∀ w : Window, w ∈ t.phase.startTaken ↔ ((settingsOfWords ws).window w).first ≤ s.phase.counter) ∧
          (∀ w : Window, w ∈ t.phase.endTaken ↔ ((settingsOfWords ws).window w).last ≤ s.phase.counter) ∧
          t.phase =
            { s.phase with
              startTaken := t.phase.startTaken
              endTaken := t.phase.endTaken
              lastCycle := (settingsOfWords ws).startCycle
              startMark := true
              comp := compFor (settingsOfWords ws).valveLead (settingsOfWords ws).startCycle } ∧
          SameBut [.now, .phase, .port, .config] s t ∧ BytesBut (Header.source :: slotWords) s t)) ∧
  (∀ (s : State) (dt : Nat) (lags : List Nat), s.port.reading = none →
    exec (.loadConfigReadEnd dt lags) s = .next { s with now := s.now + dt }) ∧
  (∀ ws : List Word,
    (firstBadField ws = none ↔ ∀ j, j < 35 → FieldPasses ws j) ∧
      ∀ i, firstBadField ws = some i ↔ (i < 35 ∧ ¬ FieldPasses ws i ∧ ∀ j, j < i → FieldPasses ws j))

/-- The host's word writes (R170, R171, R177, R178): an attention word takes the value and the line is judged afresh;
any other word takes the value and nothing else happens, but that a reading in progress keeps what a word of its areas
held. A write of the schedule-notice word, of an attention word or of ISSUED does what the row of that event does, the
command being the one whose code and arg1 stand in their words, and so does UNKNOWN_COMMAND with a code of 1 to 11; while
the slot is TAKEN an ISSUED is ignored (R172, R173). An address that names no word stops with its fault. The faults and
the words kept for a reading in progress are the model's (assumption log, entries 5 and 8), and that a command row writes
its code and ISSUED as one event is entry 4. -/
def Obligations.HostWrites : Prop :=
  (∀ (s : State) (dt : Nat) (word : AttentionWord) (value : Word),
    ∃ t, exec (.attentionWrite dt word value) s = .next t ∧ Later dt s t ∧
      t.word (match word with | .enables => 0x040 | .seen c => 0x064 + 4 * c.val) = value ∧ AttentionInv t ∧
      t.port = { s.port with attention := t.port.attention } ∧ SameBut [.now, .port] s t ∧
      BytesBut [match word with | .enables => 0x040 | .seen c => 0x064 + 4 * c.val] s t) ∧
  (∀ (s : State) (dt addr : Nat) (value : Word), WellFormed (.hostWordWrite dt addr value) = true → AttentionInv s →
    ∃ t, exec (.hostWordWrite dt addr value) s = .next t ∧ Later dt s t ∧ t.word addr = value ∧ AttentionInv t ∧
      (addr < 0x0200 ∨ 0x4800 ≤ addr → t.cache = s.cache ∧ t.port = s.port) ∧
      t.cache = { s.cache with fetch := t.cache.fetch } ∧ t.port = { s.port with reading := t.port.reading } ∧
      (0x0200 ≤ addr ∧ addr < 0x4800 →
        t.port.reading = s.port.reading.map (fun log => (addr, s.word addr) :: log) ∧
          t.cache.fetch = s.cache.fetch.map (fun f =>
            if f.waitUntil = none then { f with writes := (addr, s.word addr) :: f.writes } else f)) ∧
      SameBut [.now, .cache, .port] s t ∧ BytesBut [addr] s t) ∧
  (∀ (s : State) (dt addr : Nat) (value : Word),
    (0x10000 ≤ addr → exec (.hostWordWrite dt addr value) s = .fault .noSuchAddress) ∧
      (addr < 0x10000 → addr % 4 ≠ 0 → exec (.hostWordWrite dt addr value) s = .fault .notAWord) ∧
      exec (.hostWordWrite dt 0x01C value) s = exec (.scheduleNotice dt value) s ∧
      ∀ word : AttentionWord,
        addr = (match word with | .enables => 0x040 | .seen c => 0x064 + 4 * c.val) →
        exec (.hostWordWrite dt addr value) s = exec (.attentionWrite dt word value) s) ∧
  (∀ (s : State) (dt : Nat) (code : Word), MemoryInv s →
    exec (.hostWordWrite dt 0x020 1) s = exec (commandRow dt (s.word Header.commandCode) (s.word Header.arg1)) s ∧
      exec (.unknownCommand dt code) s = exec (commandRow dt code (s.word Header.arg1)) s) ∧
  (∀ (s : State) (dt : Nat), s.port.taken = true →
    ∃ t, exec (.hostWordWrite dt 0x020 1) s = .next t ∧ Later dt s t ∧ t.word Header.commandState = 1 ∧
      SameBut [.now] s t ∧ BytesBut [Header.commandState] s t)

/-- The two resets (R22, R180): every block takes its reset state and the header its reset words, so the cursor is 0, no
ticket is held, no remake waits, the next serial is 1 and the finished count 0; a power-on reset leaves every byte
outside the header 0, so every ticket reads FREE; a controller reset fails every ACTIVE and DRAINING ticket with
end reason RESET and finish number 0 and leaves every other byte outside the header. That a reset keeps the commands
that still wait in the queue is the model's choice (assumption log, entry 24). -/
def Obligations.Resets : Prop :=
  (∀ (s : State) (dt : Nat) (levels : InputLevels),
    ∃ t, exec (.powerOnReset dt levels) s = .next t ∧ Later dt s t ∧
      AtReset ⟨levels.estop, levels.guardOpen, levels.emptyA, levels.emptyB, s.pins.startKey⟩ t ∧
      (∀ a, 0x0200 ≤ a → t.mem.read a = 0) ∧ t.pending = s.pending) ∧
  (∀ (s : State) (dt : Nat),
    ∃ t, exec (.controllerReset dt) s = .next t ∧ Later dt s t ∧ AtReset s.pins t ∧ t.pending = s.pending ∧
      (∀ a, (0x0200 ≤ a ∧ a < 0x4800) ∨ 0x8800 ≤ a → t.mem.read a = s.mem.read a) ∧
      ∀ i : Fin 256,
        if s.mem.ticket i .stage = 2 ∨ s.mem.ticket i .stage = 3 then
          t.mem.ticket i .stage = 5 ∧ t.mem.ticket i .endReason = 68 ∧ t.mem.ticket i .finish = 0 ∧
            ∀ a, ticketBase i ≤ a → a < ticketBase i + 64 →
              (∀ f ∈ [TicketField.stage, .endReason, .finish], a < ticketAddr i f ∨ ticketAddr i f + 4 ≤ a) →
              t.mem.read a = s.mem.read a
        else ∀ a, ticketBase i ≤ a → a < ticketBase i + 64 → t.mem.read a = s.mem.read a)
end

