-- ==== Sys2Proof/Laws/State.lean ====
section
/-!
SUPPORT. One lemma for each field of the state under each named update.
-/

namespace Sys2Proof.Machine

@[simp] theorem State.elapse_now (dt : Nat) (s : State) : (s.elapse dt).now = s.now + dt := rfl
@[simp] theorem State.elapse_phase (dt : Nat) (s : State) : (s.elapse dt).phase = s.phase := rfl
@[simp] theorem State.elapse_stations (dt : Nat) (s : State) : (s.elapse dt).stations = s.stations := rfl
@[simp] theorem State.elapse_sched (dt : Nat) (s : State) : (s.elapse dt).sched = s.sched := rfl
@[simp] theorem State.elapse_cache (dt : Nat) (s : State) : (s.elapse dt).cache = s.cache := rfl
@[simp] theorem State.elapse_gathering (dt : Nat) (s : State) : (s.elapse dt).gathering = s.gathering := rfl
@[simp] theorem State.elapse_carousel (dt : Nat) (s : State) : (s.elapse dt).carousel = s.carousel := rfl
@[simp] theorem State.elapse_format (dt : Nat) (s : State) : (s.elapse dt).format = s.format := rfl
@[simp] theorem State.elapse_miller (dt : Nat) (s : State) : (s.elapse dt).miller = s.miller := rfl
@[simp] theorem State.elapse_pot (dt : Nat) (s : State) : (s.elapse dt).pot = s.pot := rfl
@[simp] theorem State.elapse_glue (dt : Nat) (s : State) : (s.elapse dt).glue = s.glue := rfl
@[simp] theorem State.elapse_cover (dt : Nat) (s : State) : (s.elapse dt).cover = s.cover := rfl
@[simp] theorem State.elapse_trim (dt : Nat) (s : State) : (s.elapse dt).trim = s.trim := rfl
@[simp] theorem State.elapse_line (dt : Nat) (s : State) : (s.elapse dt).line = s.line := rfl
@[simp] theorem State.elapse_port (dt : Nat) (s : State) : (s.elapse dt).port = s.port := rfl
@[simp] theorem State.elapse_config (dt : Nat) (s : State) : (s.elapse dt).config = s.config := rfl
@[simp] theorem State.elapse_pins (dt : Nat) (s : State) : (s.elapse dt).pins = s.pins := rfl
@[simp] theorem State.elapse_mem (dt : Nat) (s : State) : (s.elapse dt).mem = s.mem := rfl
@[simp] theorem State.elapse_pending (dt : Nat) (s : State) : (s.elapse dt).pending = s.pending := rfl

@[simp] theorem State.updPhase_now (f : PhaseUnit → PhaseUnit) (s : State) : (s.updPhase f).now = s.now := rfl
@[simp] theorem State.updPhase_phase (f : PhaseUnit → PhaseUnit) (s : State) : (s.updPhase f).phase = f s.phase := rfl
@[simp] theorem State.updPhase_stations (f : PhaseUnit → PhaseUnit) (s : State) : (s.updPhase f).stations = s.stations := rfl
@[simp] theorem State.updPhase_sched (f : PhaseUnit → PhaseUnit) (s : State) : (s.updPhase f).sched = s.sched := rfl
@[simp] theorem State.updPhase_cache (f : PhaseUnit → PhaseUnit) (s : State) : (s.updPhase f).cache = s.cache := rfl
@[simp] theorem State.updPhase_gathering (f : PhaseUnit → PhaseUnit) (s : State) : (s.updPhase f).gathering = s.gathering := rfl
@[simp] theorem State.updPhase_carousel (f : PhaseUnit → PhaseUnit) (s : State) : (s.updPhase f).carousel = s.carousel := rfl
@[simp] theorem State.updPhase_format (f : PhaseUnit → PhaseUnit) (s : State) : (s.updPhase f).format = s.format := rfl
@[simp] theorem State.updPhase_miller (f : PhaseUnit → PhaseUnit) (s : State) : (s.updPhase f).miller = s.miller := rfl
@[simp] theorem State.updPhase_pot (f : PhaseUnit → PhaseUnit) (s : State) : (s.updPhase f).pot = s.pot := rfl
@[simp] theorem State.updPhase_glue (f : PhaseUnit → PhaseUnit) (s : State) : (s.updPhase f).glue = s.glue := rfl
@[simp] theorem State.updPhase_cover (f : PhaseUnit → PhaseUnit) (s : State) : (s.updPhase f).cover = s.cover := rfl
@[simp] theorem State.updPhase_trim (f : PhaseUnit → PhaseUnit) (s : State) : (s.updPhase f).trim = s.trim := rfl
@[simp] theorem State.updPhase_line (f : PhaseUnit → PhaseUnit) (s : State) : (s.updPhase f).line = s.line := rfl
@[simp] theorem State.updPhase_port (f : PhaseUnit → PhaseUnit) (s : State) : (s.updPhase f).port = s.port := rfl
@[simp] theorem State.updPhase_config (f : PhaseUnit → PhaseUnit) (s : State) : (s.updPhase f).config = s.config := rfl
@[simp] theorem State.updPhase_pins (f : PhaseUnit → PhaseUnit) (s : State) : (s.updPhase f).pins = s.pins := rfl
@[simp] theorem State.updPhase_mem (f : PhaseUnit → PhaseUnit) (s : State) : (s.updPhase f).mem = s.mem := rfl
@[simp] theorem State.updPhase_pending (f : PhaseUnit → PhaseUnit) (s : State) : (s.updPhase f).pending = s.pending := rfl

@[simp] theorem State.updStations_now (f : Stations → Stations) (s : State) : (s.updStations f).now = s.now := rfl
@[simp] theorem State.updStations_phase (f : Stations → Stations) (s : State) : (s.updStations f).phase = s.phase := rfl
@[simp] theorem State.updStations_stations (f : Stations → Stations) (s : State) : (s.updStations f).stations = f s.stations := rfl
@[simp] theorem State.updStations_sched (f : Stations → Stations) (s : State) : (s.updStations f).sched = s.sched := rfl
@[simp] theorem State.updStations_cache (f : Stations → Stations) (s : State) : (s.updStations f).cache = s.cache := rfl
@[simp] theorem State.updStations_gathering (f : Stations → Stations) (s : State) : (s.updStations f).gathering = s.gathering := rfl
@[simp] theorem State.updStations_carousel (f : Stations → Stations) (s : State) : (s.updStations f).carousel = s.carousel := rfl
@[simp] theorem State.updStations_format (f : Stations → Stations) (s : State) : (s.updStations f).format = s.format := rfl
@[simp] theorem State.updStations_miller (f : Stations → Stations) (s : State) : (s.updStations f).miller = s.miller := rfl
@[simp] theorem State.updStations_pot (f : Stations → Stations) (s : State) : (s.updStations f).pot = s.pot := rfl
@[simp] theorem State.updStations_glue (f : Stations → Stations) (s : State) : (s.updStations f).glue = s.glue := rfl
@[simp] theorem State.updStations_cover (f : Stations → Stations) (s : State) : (s.updStations f).cover = s.cover := rfl
@[simp] theorem State.updStations_trim (f : Stations → Stations) (s : State) : (s.updStations f).trim = s.trim := rfl
@[simp] theorem State.updStations_line (f : Stations → Stations) (s : State) : (s.updStations f).line = s.line := rfl
@[simp] theorem State.updStations_port (f : Stations → Stations) (s : State) : (s.updStations f).port = s.port := rfl
@[simp] theorem State.updStations_config (f : Stations → Stations) (s : State) : (s.updStations f).config = s.config := rfl
@[simp] theorem State.updStations_pins (f : Stations → Stations) (s : State) : (s.updStations f).pins = s.pins := rfl
@[simp] theorem State.updStations_mem (f : Stations → Stations) (s : State) : (s.updStations f).mem = s.mem := rfl
@[simp] theorem State.updStations_pending (f : Stations → Stations) (s : State) : (s.updStations f).pending = s.pending := rfl

@[simp] theorem State.updSched_now (f : Schedule → Schedule) (s : State) : (s.updSched f).now = s.now := rfl
@[simp] theorem State.updSched_phase (f : Schedule → Schedule) (s : State) : (s.updSched f).phase = s.phase := rfl
@[simp] theorem State.updSched_stations (f : Schedule → Schedule) (s : State) : (s.updSched f).stations = s.stations := rfl
@[simp] theorem State.updSched_sched (f : Schedule → Schedule) (s : State) : (s.updSched f).sched = f s.sched := rfl
@[simp] theorem State.updSched_cache (f : Schedule → Schedule) (s : State) : (s.updSched f).cache = s.cache := rfl
@[simp] theorem State.updSched_gathering (f : Schedule → Schedule) (s : State) : (s.updSched f).gathering = s.gathering := rfl
@[simp] theorem State.updSched_carousel (f : Schedule → Schedule) (s : State) : (s.updSched f).carousel = s.carousel := rfl
@[simp] theorem State.updSched_format (f : Schedule → Schedule) (s : State) : (s.updSched f).format = s.format := rfl
@[simp] theorem State.updSched_miller (f : Schedule → Schedule) (s : State) : (s.updSched f).miller = s.miller := rfl
@[simp] theorem State.updSched_pot (f : Schedule → Schedule) (s : State) : (s.updSched f).pot = s.pot := rfl
@[simp] theorem State.updSched_glue (f : Schedule → Schedule) (s : State) : (s.updSched f).glue = s.glue := rfl
@[simp] theorem State.updSched_cover (f : Schedule → Schedule) (s : State) : (s.updSched f).cover = s.cover := rfl
@[simp] theorem State.updSched_trim (f : Schedule → Schedule) (s : State) : (s.updSched f).trim = s.trim := rfl
@[simp] theorem State.updSched_line (f : Schedule → Schedule) (s : State) : (s.updSched f).line = s.line := rfl
@[simp] theorem State.updSched_port (f : Schedule → Schedule) (s : State) : (s.updSched f).port = s.port := rfl
@[simp] theorem State.updSched_config (f : Schedule → Schedule) (s : State) : (s.updSched f).config = s.config := rfl
@[simp] theorem State.updSched_pins (f : Schedule → Schedule) (s : State) : (s.updSched f).pins = s.pins := rfl
@[simp] theorem State.updSched_mem (f : Schedule → Schedule) (s : State) : (s.updSched f).mem = s.mem := rfl
@[simp] theorem State.updSched_pending (f : Schedule → Schedule) (s : State) : (s.updSched f).pending = s.pending := rfl

@[simp] theorem State.updCache_now (f : JobCache → JobCache) (s : State) : (s.updCache f).now = s.now := rfl
@[simp] theorem State.updCache_phase (f : JobCache → JobCache) (s : State) : (s.updCache f).phase = s.phase := rfl
@[simp] theorem State.updCache_stations (f : JobCache → JobCache) (s : State) : (s.updCache f).stations = s.stations := rfl
@[simp] theorem State.updCache_sched (f : JobCache → JobCache) (s : State) : (s.updCache f).sched = s.sched := rfl
@[simp] theorem State.updCache_cache (f : JobCache → JobCache) (s : State) : (s.updCache f).cache = f s.cache := rfl
@[simp] theorem State.updCache_gathering (f : JobCache → JobCache) (s : State) : (s.updCache f).gathering = s.gathering := rfl
@[simp] theorem State.updCache_carousel (f : JobCache → JobCache) (s : State) : (s.updCache f).carousel = s.carousel := rfl
@[simp] theorem State.updCache_format (f : JobCache → JobCache) (s : State) : (s.updCache f).format = s.format := rfl
@[simp] theorem State.updCache_miller (f : JobCache → JobCache) (s : State) : (s.updCache f).miller = s.miller := rfl
@[simp] theorem State.updCache_pot (f : JobCache → JobCache) (s : State) : (s.updCache f).pot = s.pot := rfl
@[simp] theorem State.updCache_glue (f : JobCache → JobCache) (s : State) : (s.updCache f).glue = s.glue := rfl
@[simp] theorem State.updCache_cover (f : JobCache → JobCache) (s : State) : (s.updCache f).cover = s.cover := rfl
@[simp] theorem State.updCache_trim (f : JobCache → JobCache) (s : State) : (s.updCache f).trim = s.trim := rfl
@[simp] theorem State.updCache_line (f : JobCache → JobCache) (s : State) : (s.updCache f).line = s.line := rfl
@[simp] theorem State.updCache_port (f : JobCache → JobCache) (s : State) : (s.updCache f).port = s.port := rfl
@[simp] theorem State.updCache_config (f : JobCache → JobCache) (s : State) : (s.updCache f).config = s.config := rfl
@[simp] theorem State.updCache_pins (f : JobCache → JobCache) (s : State) : (s.updCache f).pins = s.pins := rfl
@[simp] theorem State.updCache_mem (f : JobCache → JobCache) (s : State) : (s.updCache f).mem = s.mem := rfl
@[simp] theorem State.updCache_pending (f : JobCache → JobCache) (s : State) : (s.updCache f).pending = s.pending := rfl

@[simp] theorem State.updGathering_now (f : Gathering → Gathering) (s : State) : (s.updGathering f).now = s.now := rfl
@[simp] theorem State.updGathering_phase (f : Gathering → Gathering) (s : State) : (s.updGathering f).phase = s.phase := rfl
@[simp] theorem State.updGathering_stations (f : Gathering → Gathering) (s : State) : (s.updGathering f).stations = s.stations := rfl
@[simp] theorem State.updGathering_sched (f : Gathering → Gathering) (s : State) : (s.updGathering f).sched = s.sched := rfl
@[simp] theorem State.updGathering_cache (f : Gathering → Gathering) (s : State) : (s.updGathering f).cache = s.cache := rfl
@[simp] theorem State.updGathering_gathering (f : Gathering → Gathering) (s : State) : (s.updGathering f).gathering = f s.gathering := rfl
@[simp] theorem State.updGathering_carousel (f : Gathering → Gathering) (s : State) : (s.updGathering f).carousel = s.carousel := rfl
@[simp] theorem State.updGathering_format (f : Gathering → Gathering) (s : State) : (s.updGathering f).format = s.format := rfl
@[simp] theorem State.updGathering_miller (f : Gathering → Gathering) (s : State) : (s.updGathering f).miller = s.miller := rfl
@[simp] theorem State.updGathering_pot (f : Gathering → Gathering) (s : State) : (s.updGathering f).pot = s.pot := rfl
@[simp] theorem State.updGathering_glue (f : Gathering → Gathering) (s : State) : (s.updGathering f).glue = s.glue := rfl
@[simp] theorem State.updGathering_cover (f : Gathering → Gathering) (s : State) : (s.updGathering f).cover = s.cover := rfl
@[simp] theorem State.updGathering_trim (f : Gathering → Gathering) (s : State) : (s.updGathering f).trim = s.trim := rfl
@[simp] theorem State.updGathering_line (f : Gathering → Gathering) (s : State) : (s.updGathering f).line = s.line := rfl
@[simp] theorem State.updGathering_port (f : Gathering → Gathering) (s : State) : (s.updGathering f).port = s.port := rfl
@[simp] theorem State.updGathering_config (f : Gathering → Gathering) (s : State) : (s.updGathering f).config = s.config := rfl
@[simp] theorem State.updGathering_pins (f : Gathering → Gathering) (s : State) : (s.updGathering f).pins = s.pins := rfl
@[simp] theorem State.updGathering_mem (f : Gathering → Gathering) (s : State) : (s.updGathering f).mem = s.mem := rfl
@[simp] theorem State.updGathering_pending (f : Gathering → Gathering) (s : State) : (s.updGathering f).pending = s.pending := rfl

@[simp] theorem State.updCarousel_now (f : Carousel → Carousel) (s : State) : (s.updCarousel f).now = s.now := rfl
@[simp] theorem State.updCarousel_phase (f : Carousel → Carousel) (s : State) : (s.updCarousel f).phase = s.phase := rfl
@[simp] theorem State.updCarousel_stations (f : Carousel → Carousel) (s : State) : (s.updCarousel f).stations = s.stations := rfl
@[simp] theorem State.updCarousel_sched (f : Carousel → Carousel) (s : State) : (s.updCarousel f).sched = s.sched := rfl
@[simp] theorem State.updCarousel_cache (f : Carousel → Carousel) (s : State) : (s.updCarousel f).cache = s.cache := rfl
@[simp] theorem State.updCarousel_gathering (f : Carousel → Carousel) (s : State) : (s.updCarousel f).gathering = s.gathering := rfl
@[simp] theorem State.updCarousel_carousel (f : Carousel → Carousel) (s : State) : (s.updCarousel f).carousel = f s.carousel := rfl
@[simp] theorem State.updCarousel_format (f : Carousel → Carousel) (s : State) : (s.updCarousel f).format = s.format := rfl
@[simp] theorem State.updCarousel_miller (f : Carousel → Carousel) (s : State) : (s.updCarousel f).miller = s.miller := rfl
@[simp] theorem State.updCarousel_pot (f : Carousel → Carousel) (s : State) : (s.updCarousel f).pot = s.pot := rfl
@[simp] theorem State.updCarousel_glue (f : Carousel → Carousel) (s : State) : (s.updCarousel f).glue = s.glue := rfl
@[simp] theorem State.updCarousel_cover (f : Carousel → Carousel) (s : State) : (s.updCarousel f).cover = s.cover := rfl
@[simp] theorem State.updCarousel_trim (f : Carousel → Carousel) (s : State) : (s.updCarousel f).trim = s.trim := rfl
@[simp] theorem State.updCarousel_line (f : Carousel → Carousel) (s : State) : (s.updCarousel f).line = s.line := rfl
@[simp] theorem State.updCarousel_port (f : Carousel → Carousel) (s : State) : (s.updCarousel f).port = s.port := rfl
@[simp] theorem State.updCarousel_config (f : Carousel → Carousel) (s : State) : (s.updCarousel f).config = s.config := rfl
@[simp] theorem State.updCarousel_pins (f : Carousel → Carousel) (s : State) : (s.updCarousel f).pins = s.pins := rfl
@[simp] theorem State.updCarousel_mem (f : Carousel → Carousel) (s : State) : (s.updCarousel f).mem = s.mem := rfl
@[simp] theorem State.updCarousel_pending (f : Carousel → Carousel) (s : State) : (s.updCarousel f).pending = s.pending := rfl

@[simp] theorem State.updFormat_now (f : FormatUnit → FormatUnit) (s : State) : (s.updFormat f).now = s.now := rfl
@[simp] theorem State.updFormat_phase (f : FormatUnit → FormatUnit) (s : State) : (s.updFormat f).phase = s.phase := rfl
@[simp] theorem State.updFormat_stations (f : FormatUnit → FormatUnit) (s : State) : (s.updFormat f).stations = s.stations := rfl
@[simp] theorem State.updFormat_sched (f : FormatUnit → FormatUnit) (s : State) : (s.updFormat f).sched = s.sched := rfl
@[simp] theorem State.updFormat_cache (f : FormatUnit → FormatUnit) (s : State) : (s.updFormat f).cache = s.cache := rfl
@[simp] theorem State.updFormat_gathering (f : FormatUnit → FormatUnit) (s : State) : (s.updFormat f).gathering = s.gathering := rfl
@[simp] theorem State.updFormat_carousel (f : FormatUnit → FormatUnit) (s : State) : (s.updFormat f).carousel = s.carousel := rfl
@[simp] theorem State.updFormat_format (f : FormatUnit → FormatUnit) (s : State) : (s.updFormat f).format = f s.format := rfl
@[simp] theorem State.updFormat_miller (f : FormatUnit → FormatUnit) (s : State) : (s.updFormat f).miller = s.miller := rfl
@[simp] theorem State.updFormat_pot (f : FormatUnit → FormatUnit) (s : State) : (s.updFormat f).pot = s.pot := rfl
@[simp] theorem State.updFormat_glue (f : FormatUnit → FormatUnit) (s : State) : (s.updFormat f).glue = s.glue := rfl
@[simp] theorem State.updFormat_cover (f : FormatUnit → FormatUnit) (s : State) : (s.updFormat f).cover = s.cover := rfl
@[simp] theorem State.updFormat_trim (f : FormatUnit → FormatUnit) (s : State) : (s.updFormat f).trim = s.trim := rfl
@[simp] theorem State.updFormat_line (f : FormatUnit → FormatUnit) (s : State) : (s.updFormat f).line = s.line := rfl
@[simp] theorem State.updFormat_port (f : FormatUnit → FormatUnit) (s : State) : (s.updFormat f).port = s.port := rfl
@[simp] theorem State.updFormat_config (f : FormatUnit → FormatUnit) (s : State) : (s.updFormat f).config = s.config := rfl
@[simp] theorem State.updFormat_pins (f : FormatUnit → FormatUnit) (s : State) : (s.updFormat f).pins = s.pins := rfl
@[simp] theorem State.updFormat_mem (f : FormatUnit → FormatUnit) (s : State) : (s.updFormat f).mem = s.mem := rfl
@[simp] theorem State.updFormat_pending (f : FormatUnit → FormatUnit) (s : State) : (s.updFormat f).pending = s.pending := rfl

@[simp] theorem State.updMiller_now (f : Miller → Miller) (s : State) : (s.updMiller f).now = s.now := rfl
@[simp] theorem State.updMiller_phase (f : Miller → Miller) (s : State) : (s.updMiller f).phase = s.phase := rfl
@[simp] theorem State.updMiller_stations (f : Miller → Miller) (s : State) : (s.updMiller f).stations = s.stations := rfl
@[simp] theorem State.updMiller_sched (f : Miller → Miller) (s : State) : (s.updMiller f).sched = s.sched := rfl
@[simp] theorem State.updMiller_cache (f : Miller → Miller) (s : State) : (s.updMiller f).cache = s.cache := rfl
@[simp] theorem State.updMiller_gathering (f : Miller → Miller) (s : State) : (s.updMiller f).gathering = s.gathering := rfl
@[simp] theorem State.updMiller_carousel (f : Miller → Miller) (s : State) : (s.updMiller f).carousel = s.carousel := rfl
@[simp] theorem State.updMiller_format (f : Miller → Miller) (s : State) : (s.updMiller f).format = s.format := rfl
@[simp] theorem State.updMiller_miller (f : Miller → Miller) (s : State) : (s.updMiller f).miller = f s.miller := rfl
@[simp] theorem State.updMiller_pot (f : Miller → Miller) (s : State) : (s.updMiller f).pot = s.pot := rfl
@[simp] theorem State.updMiller_glue (f : Miller → Miller) (s : State) : (s.updMiller f).glue = s.glue := rfl
@[simp] theorem State.updMiller_cover (f : Miller → Miller) (s : State) : (s.updMiller f).cover = s.cover := rfl
@[simp] theorem State.updMiller_trim (f : Miller → Miller) (s : State) : (s.updMiller f).trim = s.trim := rfl
@[simp] theorem State.updMiller_line (f : Miller → Miller) (s : State) : (s.updMiller f).line = s.line := rfl
@[simp] theorem State.updMiller_port (f : Miller → Miller) (s : State) : (s.updMiller f).port = s.port := rfl
@[simp] theorem State.updMiller_config (f : Miller → Miller) (s : State) : (s.updMiller f).config = s.config := rfl
@[simp] theorem State.updMiller_pins (f : Miller → Miller) (s : State) : (s.updMiller f).pins = s.pins := rfl
@[simp] theorem State.updMiller_mem (f : Miller → Miller) (s : State) : (s.updMiller f).mem = s.mem := rfl
@[simp] theorem State.updMiller_pending (f : Miller → Miller) (s : State) : (s.updMiller f).pending = s.pending := rfl

@[simp] theorem State.updPot_now (f : GluePot → GluePot) (s : State) : (s.updPot f).now = s.now := rfl
@[simp] theorem State.updPot_phase (f : GluePot → GluePot) (s : State) : (s.updPot f).phase = s.phase := rfl
@[simp] theorem State.updPot_stations (f : GluePot → GluePot) (s : State) : (s.updPot f).stations = s.stations := rfl
@[simp] theorem State.updPot_sched (f : GluePot → GluePot) (s : State) : (s.updPot f).sched = s.sched := rfl
@[simp] theorem State.updPot_cache (f : GluePot → GluePot) (s : State) : (s.updPot f).cache = s.cache := rfl
@[simp] theorem State.updPot_gathering (f : GluePot → GluePot) (s : State) : (s.updPot f).gathering = s.gathering := rfl
@[simp] theorem State.updPot_carousel (f : GluePot → GluePot) (s : State) : (s.updPot f).carousel = s.carousel := rfl
@[simp] theorem State.updPot_format (f : GluePot → GluePot) (s : State) : (s.updPot f).format = s.format := rfl
@[simp] theorem State.updPot_miller (f : GluePot → GluePot) (s : State) : (s.updPot f).miller = s.miller := rfl
@[simp] theorem State.updPot_pot (f : GluePot → GluePot) (s : State) : (s.updPot f).pot = f s.pot := rfl
@[simp] theorem State.updPot_glue (f : GluePot → GluePot) (s : State) : (s.updPot f).glue = s.glue := rfl
@[simp] theorem State.updPot_cover (f : GluePot → GluePot) (s : State) : (s.updPot f).cover = s.cover := rfl
@[simp] theorem State.updPot_trim (f : GluePot → GluePot) (s : State) : (s.updPot f).trim = s.trim := rfl
@[simp] theorem State.updPot_line (f : GluePot → GluePot) (s : State) : (s.updPot f).line = s.line := rfl
@[simp] theorem State.updPot_port (f : GluePot → GluePot) (s : State) : (s.updPot f).port = s.port := rfl
@[simp] theorem State.updPot_config (f : GluePot → GluePot) (s : State) : (s.updPot f).config = s.config := rfl
@[simp] theorem State.updPot_pins (f : GluePot → GluePot) (s : State) : (s.updPot f).pins = s.pins := rfl
@[simp] theorem State.updPot_mem (f : GluePot → GluePot) (s : State) : (s.updPot f).mem = s.mem := rfl
@[simp] theorem State.updPot_pending (f : GluePot → GluePot) (s : State) : (s.updPot f).pending = s.pending := rfl

@[simp] theorem State.updGlue_now (f : GlueStations → GlueStations) (s : State) : (s.updGlue f).now = s.now := rfl
@[simp] theorem State.updGlue_phase (f : GlueStations → GlueStations) (s : State) : (s.updGlue f).phase = s.phase := rfl
@[simp] theorem State.updGlue_stations (f : GlueStations → GlueStations) (s : State) : (s.updGlue f).stations = s.stations := rfl
@[simp] theorem State.updGlue_sched (f : GlueStations → GlueStations) (s : State) : (s.updGlue f).sched = s.sched := rfl
@[simp] theorem State.updGlue_cache (f : GlueStations → GlueStations) (s : State) : (s.updGlue f).cache = s.cache := rfl
@[simp] theorem State.updGlue_gathering (f : GlueStations → GlueStations) (s : State) : (s.updGlue f).gathering = s.gathering := rfl
@[simp] theorem State.updGlue_carousel (f : GlueStations → GlueStations) (s : State) : (s.updGlue f).carousel = s.carousel := rfl
@[simp] theorem State.updGlue_format (f : GlueStations → GlueStations) (s : State) : (s.updGlue f).format = s.format := rfl
@[simp] theorem State.updGlue_miller (f : GlueStations → GlueStations) (s : State) : (s.updGlue f).miller = s.miller := rfl
@[simp] theorem State.updGlue_pot (f : GlueStations → GlueStations) (s : State) : (s.updGlue f).pot = s.pot := rfl
@[simp] theorem State.updGlue_glue (f : GlueStations → GlueStations) (s : State) : (s.updGlue f).glue = f s.glue := rfl
@[simp] theorem State.updGlue_cover (f : GlueStations → GlueStations) (s : State) : (s.updGlue f).cover = s.cover := rfl
@[simp] theorem State.updGlue_trim (f : GlueStations → GlueStations) (s : State) : (s.updGlue f).trim = s.trim := rfl
@[simp] theorem State.updGlue_line (f : GlueStations → GlueStations) (s : State) : (s.updGlue f).line = s.line := rfl
@[simp] theorem State.updGlue_port (f : GlueStations → GlueStations) (s : State) : (s.updGlue f).port = s.port := rfl
@[simp] theorem State.updGlue_config (f : GlueStations → GlueStations) (s : State) : (s.updGlue f).config = s.config := rfl
@[simp] theorem State.updGlue_pins (f : GlueStations → GlueStations) (s : State) : (s.updGlue f).pins = s.pins := rfl
@[simp] theorem State.updGlue_mem (f : GlueStations → GlueStations) (s : State) : (s.updGlue f).mem = s.mem := rfl
@[simp] theorem State.updGlue_pending (f : GlueStations → GlueStations) (s : State) : (s.updGlue f).pending = s.pending := rfl

@[simp] theorem State.updCover_now (f : CoverStation → CoverStation) (s : State) : (s.updCover f).now = s.now := rfl
@[simp] theorem State.updCover_phase (f : CoverStation → CoverStation) (s : State) : (s.updCover f).phase = s.phase := rfl
@[simp] theorem State.updCover_stations (f : CoverStation → CoverStation) (s : State) : (s.updCover f).stations = s.stations := rfl
@[simp] theorem State.updCover_sched (f : CoverStation → CoverStation) (s : State) : (s.updCover f).sched = s.sched := rfl
@[simp] theorem State.updCover_cache (f : CoverStation → CoverStation) (s : State) : (s.updCover f).cache = s.cache := rfl
@[simp] theorem State.updCover_gathering (f : CoverStation → CoverStation) (s : State) : (s.updCover f).gathering = s.gathering := rfl
@[simp] theorem State.updCover_carousel (f : CoverStation → CoverStation) (s : State) : (s.updCover f).carousel = s.carousel := rfl
@[simp] theorem State.updCover_format (f : CoverStation → CoverStation) (s : State) : (s.updCover f).format = s.format := rfl
@[simp] theorem State.updCover_miller (f : CoverStation → CoverStation) (s : State) : (s.updCover f).miller = s.miller := rfl
@[simp] theorem State.updCover_pot (f : CoverStation → CoverStation) (s : State) : (s.updCover f).pot = s.pot := rfl
@[simp] theorem State.updCover_glue (f : CoverStation → CoverStation) (s : State) : (s.updCover f).glue = s.glue := rfl
@[simp] theorem State.updCover_cover (f : CoverStation → CoverStation) (s : State) : (s.updCover f).cover = f s.cover := rfl
@[simp] theorem State.updCover_trim (f : CoverStation → CoverStation) (s : State) : (s.updCover f).trim = s.trim := rfl
@[simp] theorem State.updCover_line (f : CoverStation → CoverStation) (s : State) : (s.updCover f).line = s.line := rfl
@[simp] theorem State.updCover_port (f : CoverStation → CoverStation) (s : State) : (s.updCover f).port = s.port := rfl
@[simp] theorem State.updCover_config (f : CoverStation → CoverStation) (s : State) : (s.updCover f).config = s.config := rfl
@[simp] theorem State.updCover_pins (f : CoverStation → CoverStation) (s : State) : (s.updCover f).pins = s.pins := rfl
@[simp] theorem State.updCover_mem (f : CoverStation → CoverStation) (s : State) : (s.updCover f).mem = s.mem := rfl
@[simp] theorem State.updCover_pending (f : CoverStation → CoverStation) (s : State) : (s.updCover f).pending = s.pending := rfl

@[simp] theorem State.updTrim_now (f : Trimmer → Trimmer) (s : State) : (s.updTrim f).now = s.now := rfl
@[simp] theorem State.updTrim_phase (f : Trimmer → Trimmer) (s : State) : (s.updTrim f).phase = s.phase := rfl
@[simp] theorem State.updTrim_stations (f : Trimmer → Trimmer) (s : State) : (s.updTrim f).stations = s.stations := rfl
@[simp] theorem State.updTrim_sched (f : Trimmer → Trimmer) (s : State) : (s.updTrim f).sched = s.sched := rfl
@[simp] theorem State.updTrim_cache (f : Trimmer → Trimmer) (s : State) : (s.updTrim f).cache = s.cache := rfl
@[simp] theorem State.updTrim_gathering (f : Trimmer → Trimmer) (s : State) : (s.updTrim f).gathering = s.gathering := rfl
@[simp] theorem State.updTrim_carousel (f : Trimmer → Trimmer) (s : State) : (s.updTrim f).carousel = s.carousel := rfl
@[simp] theorem State.updTrim_format (f : Trimmer → Trimmer) (s : State) : (s.updTrim f).format = s.format := rfl
@[simp] theorem State.updTrim_miller (f : Trimmer → Trimmer) (s : State) : (s.updTrim f).miller = s.miller := rfl
@[simp] theorem State.updTrim_pot (f : Trimmer → Trimmer) (s : State) : (s.updTrim f).pot = s.pot := rfl
@[simp] theorem State.updTrim_glue (f : Trimmer → Trimmer) (s : State) : (s.updTrim f).glue = s.glue := rfl
@[simp] theorem State.updTrim_cover (f : Trimmer → Trimmer) (s : State) : (s.updTrim f).cover = s.cover := rfl
@[simp] theorem State.updTrim_trim (f : Trimmer → Trimmer) (s : State) : (s.updTrim f).trim = f s.trim := rfl
@[simp] theorem State.updTrim_line (f : Trimmer → Trimmer) (s : State) : (s.updTrim f).line = s.line := rfl
@[simp] theorem State.updTrim_port (f : Trimmer → Trimmer) (s : State) : (s.updTrim f).port = s.port := rfl
@[simp] theorem State.updTrim_config (f : Trimmer → Trimmer) (s : State) : (s.updTrim f).config = s.config := rfl
@[simp] theorem State.updTrim_pins (f : Trimmer → Trimmer) (s : State) : (s.updTrim f).pins = s.pins := rfl
@[simp] theorem State.updTrim_mem (f : Trimmer → Trimmer) (s : State) : (s.updTrim f).mem = s.mem := rfl
@[simp] theorem State.updTrim_pending (f : Trimmer → Trimmer) (s : State) : (s.updTrim f).pending = s.pending := rfl

@[simp] theorem State.updLine_now (f : LineControl → LineControl) (s : State) : (s.updLine f).now = s.now := rfl
@[simp] theorem State.updLine_phase (f : LineControl → LineControl) (s : State) : (s.updLine f).phase = s.phase := rfl
@[simp] theorem State.updLine_stations (f : LineControl → LineControl) (s : State) : (s.updLine f).stations = s.stations := rfl
@[simp] theorem State.updLine_sched (f : LineControl → LineControl) (s : State) : (s.updLine f).sched = s.sched := rfl
@[simp] theorem State.updLine_cache (f : LineControl → LineControl) (s : State) : (s.updLine f).cache = s.cache := rfl
@[simp] theorem State.updLine_gathering (f : LineControl → LineControl) (s : State) : (s.updLine f).gathering = s.gathering := rfl
@[simp] theorem State.updLine_carousel (f : LineControl → LineControl) (s : State) : (s.updLine f).carousel = s.carousel := rfl
@[simp] theorem State.updLine_format (f : LineControl → LineControl) (s : State) : (s.updLine f).format = s.format := rfl
@[simp] theorem State.updLine_miller (f : LineControl → LineControl) (s : State) : (s.updLine f).miller = s.miller := rfl
@[simp] theorem State.updLine_pot (f : LineControl → LineControl) (s : State) : (s.updLine f).pot = s.pot := rfl
@[simp] theorem State.updLine_glue (f : LineControl → LineControl) (s : State) : (s.updLine f).glue = s.glue := rfl
@[simp] theorem State.updLine_cover (f : LineControl → LineControl) (s : State) : (s.updLine f).cover = s.cover := rfl
@[simp] theorem State.updLine_trim (f : LineControl → LineControl) (s : State) : (s.updLine f).trim = s.trim := rfl
@[simp] theorem State.updLine_line (f : LineControl → LineControl) (s : State) : (s.updLine f).line = f s.line := rfl
@[simp] theorem State.updLine_port (f : LineControl → LineControl) (s : State) : (s.updLine f).port = s.port := rfl
@[simp] theorem State.updLine_config (f : LineControl → LineControl) (s : State) : (s.updLine f).config = s.config := rfl
@[simp] theorem State.updLine_pins (f : LineControl → LineControl) (s : State) : (s.updLine f).pins = s.pins := rfl
@[simp] theorem State.updLine_mem (f : LineControl → LineControl) (s : State) : (s.updLine f).mem = s.mem := rfl
@[simp] theorem State.updLine_pending (f : LineControl → LineControl) (s : State) : (s.updLine f).pending = s.pending := rfl

@[simp] theorem State.updPort_now (f : Port → Port) (s : State) : (s.updPort f).now = s.now := rfl
@[simp] theorem State.updPort_phase (f : Port → Port) (s : State) : (s.updPort f).phase = s.phase := rfl
@[simp] theorem State.updPort_stations (f : Port → Port) (s : State) : (s.updPort f).stations = s.stations := rfl
@[simp] theorem State.updPort_sched (f : Port → Port) (s : State) : (s.updPort f).sched = s.sched := rfl
@[simp] theorem State.updPort_cache (f : Port → Port) (s : State) : (s.updPort f).cache = s.cache := rfl
@[simp] theorem State.updPort_gathering (f : Port → Port) (s : State) : (s.updPort f).gathering = s.gathering := rfl
@[simp] theorem State.updPort_carousel (f : Port → Port) (s : State) : (s.updPort f).carousel = s.carousel := rfl
@[simp] theorem State.updPort_format (f : Port → Port) (s : State) : (s.updPort f).format = s.format := rfl
@[simp] theorem State.updPort_miller (f : Port → Port) (s : State) : (s.updPort f).miller = s.miller := rfl
@[simp] theorem State.updPort_pot (f : Port → Port) (s : State) : (s.updPort f).pot = s.pot := rfl
@[simp] theorem State.updPort_glue (f : Port → Port) (s : State) : (s.updPort f).glue = s.glue := rfl
@[simp] theorem State.updPort_cover (f : Port → Port) (s : State) : (s.updPort f).cover = s.cover := rfl
@[simp] theorem State.updPort_trim (f : Port → Port) (s : State) : (s.updPort f).trim = s.trim := rfl
@[simp] theorem State.updPort_line (f : Port → Port) (s : State) : (s.updPort f).line = s.line := rfl
@[simp] theorem State.updPort_port (f : Port → Port) (s : State) : (s.updPort f).port = f s.port := rfl
@[simp] theorem State.updPort_config (f : Port → Port) (s : State) : (s.updPort f).config = s.config := rfl
@[simp] theorem State.updPort_pins (f : Port → Port) (s : State) : (s.updPort f).pins = s.pins := rfl
@[simp] theorem State.updPort_mem (f : Port → Port) (s : State) : (s.updPort f).mem = s.mem := rfl
@[simp] theorem State.updPort_pending (f : Port → Port) (s : State) : (s.updPort f).pending = s.pending := rfl

@[simp] theorem State.updConfig_now (f : Configuration → Configuration) (s : State) : (s.updConfig f).now = s.now := rfl
@[simp] theorem State.updConfig_phase (f : Configuration → Configuration) (s : State) : (s.updConfig f).phase = s.phase := rfl
@[simp] theorem State.updConfig_stations (f : Configuration → Configuration) (s : State) : (s.updConfig f).stations = s.stations := rfl
@[simp] theorem State.updConfig_sched (f : Configuration → Configuration) (s : State) : (s.updConfig f).sched = s.sched := rfl
@[simp] theorem State.updConfig_cache (f : Configuration → Configuration) (s : State) : (s.updConfig f).cache = s.cache := rfl
@[simp] theorem State.updConfig_gathering (f : Configuration → Configuration) (s : State) : (s.updConfig f).gathering = s.gathering := rfl
@[simp] theorem State.updConfig_carousel (f : Configuration → Configuration) (s : State) : (s.updConfig f).carousel = s.carousel := rfl
@[simp] theorem State.updConfig_format (f : Configuration → Configuration) (s : State) : (s.updConfig f).format = s.format := rfl
@[simp] theorem State.updConfig_miller (f : Configuration → Configuration) (s : State) : (s.updConfig f).miller = s.miller := rfl
@[simp] theorem State.updConfig_pot (f : Configuration → Configuration) (s : State) : (s.updConfig f).pot = s.pot := rfl
@[simp] theorem State.updConfig_glue (f : Configuration → Configuration) (s : State) : (s.updConfig f).glue = s.glue := rfl
@[simp] theorem State.updConfig_cover (f : Configuration → Configuration) (s : State) : (s.updConfig f).cover = s.cover := rfl
@[simp] theorem State.updConfig_trim (f : Configuration → Configuration) (s : State) : (s.updConfig f).trim = s.trim := rfl
@[simp] theorem State.updConfig_line (f : Configuration → Configuration) (s : State) : (s.updConfig f).line = s.line := rfl
@[simp] theorem State.updConfig_port (f : Configuration → Configuration) (s : State) : (s.updConfig f).port = s.port := rfl
@[simp] theorem State.updConfig_config (f : Configuration → Configuration) (s : State) : (s.updConfig f).config = f s.config := rfl
@[simp] theorem State.updConfig_pins (f : Configuration → Configuration) (s : State) : (s.updConfig f).pins = s.pins := rfl
@[simp] theorem State.updConfig_mem (f : Configuration → Configuration) (s : State) : (s.updConfig f).mem = s.mem := rfl
@[simp] theorem State.updConfig_pending (f : Configuration → Configuration) (s : State) : (s.updConfig f).pending = s.pending := rfl

@[simp] theorem State.updPins_now (f : Pins → Pins) (s : State) : (s.updPins f).now = s.now := rfl
@[simp] theorem State.updPins_phase (f : Pins → Pins) (s : State) : (s.updPins f).phase = s.phase := rfl
@[simp] theorem State.updPins_stations (f : Pins → Pins) (s : State) : (s.updPins f).stations = s.stations := rfl
@[simp] theorem State.updPins_sched (f : Pins → Pins) (s : State) : (s.updPins f).sched = s.sched := rfl
@[simp] theorem State.updPins_cache (f : Pins → Pins) (s : State) : (s.updPins f).cache = s.cache := rfl
@[simp] theorem State.updPins_gathering (f : Pins → Pins) (s : State) : (s.updPins f).gathering = s.gathering := rfl
@[simp] theorem State.updPins_carousel (f : Pins → Pins) (s : State) : (s.updPins f).carousel = s.carousel := rfl
@[simp] theorem State.updPins_format (f : Pins → Pins) (s : State) : (s.updPins f).format = s.format := rfl
@[simp] theorem State.updPins_miller (f : Pins → Pins) (s : State) : (s.updPins f).miller = s.miller := rfl
@[simp] theorem State.updPins_pot (f : Pins → Pins) (s : State) : (s.updPins f).pot = s.pot := rfl
@[simp] theorem State.updPins_glue (f : Pins → Pins) (s : State) : (s.updPins f).glue = s.glue := rfl
@[simp] theorem State.updPins_cover (f : Pins → Pins) (s : State) : (s.updPins f).cover = s.cover := rfl
@[simp] theorem State.updPins_trim (f : Pins → Pins) (s : State) : (s.updPins f).trim = s.trim := rfl
@[simp] theorem State.updPins_line (f : Pins → Pins) (s : State) : (s.updPins f).line = s.line := rfl
@[simp] theorem State.updPins_port (f : Pins → Pins) (s : State) : (s.updPins f).port = s.port := rfl
@[simp] theorem State.updPins_config (f : Pins → Pins) (s : State) : (s.updPins f).config = s.config := rfl
@[simp] theorem State.updPins_pins (f : Pins → Pins) (s : State) : (s.updPins f).pins = f s.pins := rfl
@[simp] theorem State.updPins_mem (f : Pins → Pins) (s : State) : (s.updPins f).mem = s.mem := rfl
@[simp] theorem State.updPins_pending (f : Pins → Pins) (s : State) : (s.updPins f).pending = s.pending := rfl

@[simp] theorem State.updMem_now (f : Memory → Memory) (s : State) : (s.updMem f).now = s.now := rfl
@[simp] theorem State.updMem_phase (f : Memory → Memory) (s : State) : (s.updMem f).phase = s.phase := rfl
@[simp] theorem State.updMem_stations (f : Memory → Memory) (s : State) : (s.updMem f).stations = s.stations := rfl
@[simp] theorem State.updMem_sched (f : Memory → Memory) (s : State) : (s.updMem f).sched = s.sched := rfl
@[simp] theorem State.updMem_cache (f : Memory → Memory) (s : State) : (s.updMem f).cache = s.cache := rfl
@[simp] theorem State.updMem_gathering (f : Memory → Memory) (s : State) : (s.updMem f).gathering = s.gathering := rfl
@[simp] theorem State.updMem_carousel (f : Memory → Memory) (s : State) : (s.updMem f).carousel = s.carousel := rfl
@[simp] theorem State.updMem_format (f : Memory → Memory) (s : State) : (s.updMem f).format = s.format := rfl
@[simp] theorem State.updMem_miller (f : Memory → Memory) (s : State) : (s.updMem f).miller = s.miller := rfl
@[simp] theorem State.updMem_pot (f : Memory → Memory) (s : State) : (s.updMem f).pot = s.pot := rfl
@[simp] theorem State.updMem_glue (f : Memory → Memory) (s : State) : (s.updMem f).glue = s.glue := rfl
@[simp] theorem State.updMem_cover (f : Memory → Memory) (s : State) : (s.updMem f).cover = s.cover := rfl
@[simp] theorem State.updMem_trim (f : Memory → Memory) (s : State) : (s.updMem f).trim = s.trim := rfl
@[simp] theorem State.updMem_line (f : Memory → Memory) (s : State) : (s.updMem f).line = s.line := rfl
@[simp] theorem State.updMem_port (f : Memory → Memory) (s : State) : (s.updMem f).port = s.port := rfl
@[simp] theorem State.updMem_config (f : Memory → Memory) (s : State) : (s.updMem f).config = s.config := rfl
@[simp] theorem State.updMem_pins (f : Memory → Memory) (s : State) : (s.updMem f).pins = s.pins := rfl
@[simp] theorem State.updMem_mem (f : Memory → Memory) (s : State) : (s.updMem f).mem = f s.mem := rfl
@[simp] theorem State.updMem_pending (f : Memory → Memory) (s : State) : (s.updMem f).pending = s.pending := rfl

end Sys2Proof.Machine
end

