-- ==== Sys2Proof/Laws/FramesSchedule.lean ====
section
/-!
SUPPORT. What each shared operation of the memory words, the books and the Schedule unit leaves alone.
-/

namespace Sys2Proof.Machine

/-- What every operation of a list leaves alone, the list of them leaves alone. -/
theorem foldl_same {α β : Type} (g : State → β) (f : State → α → State) (h : ∀ s x, g (f s x) = g s) (l : List α)
    (s : State) : g (l.foldl f s) = g s := by
  induction l generalizing s with
  | nil => rfl
  | cons x l ih => rw [List.foldl_cons, ih, h]

@[simp] theorem State.putWord_frame (a : Nat) (w : Word) (s : State) :
    (s.putWord a w).now = s.now ∧
    (s.putWord a w).phase = s.phase ∧
    (s.putWord a w).stations = s.stations ∧
    (s.putWord a w).sched = s.sched ∧
    (s.putWord a w).cache = s.cache ∧
    (s.putWord a w).gathering = s.gathering ∧
    (s.putWord a w).carousel = s.carousel ∧
    (s.putWord a w).format = s.format ∧
    (s.putWord a w).miller = s.miller ∧
    (s.putWord a w).pot = s.pot ∧
    (s.putWord a w).glue = s.glue ∧
    (s.putWord a w).cover = s.cover ∧
    (s.putWord a w).trim = s.trim ∧
    (s.putWord a w).line = s.line ∧
    (s.putWord a w).port = s.port ∧
    (s.putWord a w).config = s.config ∧
    (s.putWord a w).pins = s.pins ∧
    (s.putWord a w).pending = s.pending := by
  simp [State.putWord]

@[simp] theorem State.putNat_frame (a n : Nat) (s : State) :
    (s.putNat a n).now = s.now ∧
    (s.putNat a n).phase = s.phase ∧
    (s.putNat a n).stations = s.stations ∧
    (s.putNat a n).sched = s.sched ∧
    (s.putNat a n).cache = s.cache ∧
    (s.putNat a n).gathering = s.gathering ∧
    (s.putNat a n).carousel = s.carousel ∧
    (s.putNat a n).format = s.format ∧
    (s.putNat a n).miller = s.miller ∧
    (s.putNat a n).pot = s.pot ∧
    (s.putNat a n).glue = s.glue ∧
    (s.putNat a n).cover = s.cover ∧
    (s.putNat a n).trim = s.trim ∧
    (s.putNat a n).line = s.line ∧
    (s.putNat a n).port = s.port ∧
    (s.putNat a n).config = s.config ∧
    (s.putNat a n).pins = s.pins ∧
    (s.putNat a n).pending = s.pending := by
  simp [State.putNat]

@[simp] theorem State.putWords_frame (l : List (Nat × Word)) (s : State) :
    (s.putWords l).now = s.now ∧
    (s.putWords l).phase = s.phase ∧
    (s.putWords l).stations = s.stations ∧
    (s.putWords l).sched = s.sched ∧
    (s.putWords l).cache = s.cache ∧
    (s.putWords l).gathering = s.gathering ∧
    (s.putWords l).carousel = s.carousel ∧
    (s.putWords l).format = s.format ∧
    (s.putWords l).miller = s.miller ∧
    (s.putWords l).pot = s.pot ∧
    (s.putWords l).glue = s.glue ∧
    (s.putWords l).cover = s.cover ∧
    (s.putWords l).trim = s.trim ∧
    (s.putWords l).line = s.line ∧
    (s.putWords l).port = s.port ∧
    (s.putWords l).config = s.config ∧
    (s.putWords l).pins = s.pins ∧
    (s.putWords l).pending = s.pending := by
  unfold State.putWords
  refine ⟨foldl_same (fun s => s.now) _ (by intros; simp) _ _, foldl_same (fun s => s.phase) _ (by intros; simp) _ _, foldl_same (fun s => s.stations) _ (by intros; simp) _ _, foldl_same (fun s => s.sched) _ (by intros; simp) _ _, foldl_same (fun s => s.cache) _ (by intros; simp) _ _, foldl_same (fun s => s.gathering) _ (by intros; simp) _ _, foldl_same (fun s => s.carousel) _ (by intros; simp) _ _, foldl_same (fun s => s.format) _ (by intros; simp) _ _, foldl_same (fun s => s.miller) _ (by intros; simp) _ _, foldl_same (fun s => s.pot) _ (by intros; simp) _ _, foldl_same (fun s => s.glue) _ (by intros; simp) _ _, foldl_same (fun s => s.cover) _ (by intros; simp) _ _, foldl_same (fun s => s.trim) _ (by intros; simp) _ _, foldl_same (fun s => s.line) _ (by intros; simp) _ _, foldl_same (fun s => s.port) _ (by intros; simp) _ _, foldl_same (fun s => s.config) _ (by intros; simp) _ _, foldl_same (fun s => s.pins) _ (by intros; simp) _ _, foldl_same (fun s => s.pending) _ (by intros; simp) _ _⟩

@[simp] theorem State.judgeAttention_frame (s : State) :
    (s.judgeAttention).now = s.now ∧
    (s.judgeAttention).phase = s.phase ∧
    (s.judgeAttention).stations = s.stations ∧
    (s.judgeAttention).sched = s.sched ∧
    (s.judgeAttention).cache = s.cache ∧
    (s.judgeAttention).gathering = s.gathering ∧
    (s.judgeAttention).carousel = s.carousel ∧
    (s.judgeAttention).format = s.format ∧
    (s.judgeAttention).miller = s.miller ∧
    (s.judgeAttention).pot = s.pot ∧
    (s.judgeAttention).glue = s.glue ∧
    (s.judgeAttention).cover = s.cover ∧
    (s.judgeAttention).trim = s.trim ∧
    (s.judgeAttention).line = s.line ∧
    (s.judgeAttention).config = s.config ∧
    (s.judgeAttention).pins = s.pins ∧
    (s.judgeAttention).mem = s.mem ∧
    (s.judgeAttention).pending = s.pending := by
  simp [State.judgeAttention]

@[simp] theorem State.notify_frame (c : Attention) (s : State) :
    (s.notify c).now = s.now ∧
    (s.notify c).phase = s.phase ∧
    (s.notify c).stations = s.stations ∧
    (s.notify c).sched = s.sched ∧
    (s.notify c).cache = s.cache ∧
    (s.notify c).gathering = s.gathering ∧
    (s.notify c).carousel = s.carousel ∧
    (s.notify c).format = s.format ∧
    (s.notify c).miller = s.miller ∧
    (s.notify c).pot = s.pot ∧
    (s.notify c).glue = s.glue ∧
    (s.notify c).cover = s.cover ∧
    (s.notify c).trim = s.trim ∧
    (s.notify c).line = s.line ∧
    (s.notify c).config = s.config ∧
    (s.notify c).pins = s.pins ∧
    (s.notify c).pending = s.pending := by
  simp [State.notify]

@[simp] theorem State.snapshot_frame (s : State) :
    (s.snapshot).now = s.now ∧
    (s.snapshot).phase = s.phase ∧
    (s.snapshot).stations = s.stations ∧
    (s.snapshot).sched = s.sched ∧
    (s.snapshot).cache = s.cache ∧
    (s.snapshot).gathering = s.gathering ∧
    (s.snapshot).carousel = s.carousel ∧
    (s.snapshot).format = s.format ∧
    (s.snapshot).miller = s.miller ∧
    (s.snapshot).pot = s.pot ∧
    (s.snapshot).glue = s.glue ∧
    (s.snapshot).cover = s.cover ∧
    (s.snapshot).trim = s.trim ∧
    (s.snapshot).line = s.line ∧
    (s.snapshot).config = s.config ∧
    (s.snapshot).pins = s.pins ∧
    (s.snapshot).pending = s.pending := by
  simp [State.snapshot]

@[simp] theorem State.setCell_frame (p : Fin 18) (x : Slot) (s : State) :
    (s.setCell p x).now = s.now ∧
    (s.setCell p x).phase = s.phase ∧
    (s.setCell p x).stations = s.stations ∧
    (s.setCell p x).sched = s.sched ∧
    (s.setCell p x).cache = s.cache ∧
    (s.setCell p x).carousel = s.carousel ∧
    (s.setCell p x).format = s.format ∧
    (s.setCell p x).miller = s.miller ∧
    (s.setCell p x).pot = s.pot ∧
    (s.setCell p x).glue = s.glue ∧
    (s.setCell p x).cover = s.cover ∧
    (s.setCell p x).trim = s.trim ∧
    (s.setCell p x).line = s.line ∧
    (s.setCell p x).port = s.port ∧
    (s.setCell p x).config = s.config ∧
    (s.setCell p x).pins = s.pins ∧
    (s.setCell p x).mem = s.mem ∧
    (s.setCell p x).pending = s.pending := by
  simp [State.setCell]

@[simp] theorem State.modCell_frame (p : Fin 18) (f : Book → Book) (s : State) :
    (s.modCell p f).now = s.now ∧
    (s.modCell p f).phase = s.phase ∧
    (s.modCell p f).stations = s.stations ∧
    (s.modCell p f).sched = s.sched ∧
    (s.modCell p f).cache = s.cache ∧
    (s.modCell p f).carousel = s.carousel ∧
    (s.modCell p f).format = s.format ∧
    (s.modCell p f).miller = s.miller ∧
    (s.modCell p f).pot = s.pot ∧
    (s.modCell p f).glue = s.glue ∧
    (s.modCell p f).cover = s.cover ∧
    (s.modCell p f).trim = s.trim ∧
    (s.modCell p f).line = s.line ∧
    (s.modCell p f).port = s.port ∧
    (s.modCell p f).config = s.config ∧
    (s.modCell p f).pins = s.pins ∧
    (s.modCell p f).mem = s.mem ∧
    (s.modCell p f).pending = s.pending := by
  simp [State.modCell]

@[simp] theorem State.setClamp_frame (p : Fin 24) (x : Slot) (s : State) :
    (s.setClamp p x).now = s.now ∧
    (s.setClamp p x).phase = s.phase ∧
    (s.setClamp p x).stations = s.stations ∧
    (s.setClamp p x).sched = s.sched ∧
    (s.setClamp p x).cache = s.cache ∧
    (s.setClamp p x).gathering = s.gathering ∧
    (s.setClamp p x).format = s.format ∧
    (s.setClamp p x).miller = s.miller ∧
    (s.setClamp p x).pot = s.pot ∧
    (s.setClamp p x).glue = s.glue ∧
    (s.setClamp p x).cover = s.cover ∧
    (s.setClamp p x).trim = s.trim ∧
    (s.setClamp p x).line = s.line ∧
    (s.setClamp p x).port = s.port ∧
    (s.setClamp p x).config = s.config ∧
    (s.setClamp p x).pins = s.pins ∧
    (s.setClamp p x).mem = s.mem ∧
    (s.setClamp p x).pending = s.pending := by
  simp [State.setClamp]

@[simp] theorem State.modClamp_frame (p : Fin 24) (f : Book → Book) (s : State) :
    (s.modClamp p f).now = s.now ∧
    (s.modClamp p f).phase = s.phase ∧
    (s.modClamp p f).stations = s.stations ∧
    (s.modClamp p f).sched = s.sched ∧
    (s.modClamp p f).cache = s.cache ∧
    (s.modClamp p f).gathering = s.gathering ∧
    (s.modClamp p f).format = s.format ∧
    (s.modClamp p f).miller = s.miller ∧
    (s.modClamp p f).pot = s.pot ∧
    (s.modClamp p f).glue = s.glue ∧
    (s.modClamp p f).cover = s.cover ∧
    (s.modClamp p f).trim = s.trim ∧
    (s.modClamp p f).line = s.line ∧
    (s.modClamp p f).port = s.port ∧
    (s.modClamp p f).config = s.config ∧
    (s.modClamp p f).pins = s.pins ∧
    (s.modClamp p f).mem = s.mem ∧
    (s.modClamp p f).pending = s.pending := by
  simp [State.modClamp]

@[simp] theorem State.mapSlots_frame (f : DetectionPoint → Book → Book) (s : State) :
    (s.mapSlots f).now = s.now ∧
    (s.mapSlots f).phase = s.phase ∧
    (s.mapSlots f).stations = s.stations ∧
    (s.mapSlots f).sched = s.sched ∧
    (s.mapSlots f).cache = s.cache ∧
    (s.mapSlots f).format = s.format ∧
    (s.mapSlots f).miller = s.miller ∧
    (s.mapSlots f).pot = s.pot ∧
    (s.mapSlots f).glue = s.glue ∧
    (s.mapSlots f).cover = s.cover ∧
    (s.mapSlots f).trim = s.trim ∧
    (s.mapSlots f).line = s.line ∧
    (s.mapSlots f).port = s.port ∧
    (s.mapSlots f).config = s.config ∧
    (s.mapSlots f).pins = s.pins ∧
    (s.mapSlots f).mem = s.mem ∧
    (s.mapSlots f).pending = s.pending := by
  simp [State.mapSlots]

@[simp] theorem State.changeCache_frame (f : JobCache → JobCache) (s : State) :
    (s.changeCache f).now = s.now ∧
    (s.changeCache f).phase = s.phase ∧
    (s.changeCache f).stations = s.stations ∧
    (s.changeCache f).sched = s.sched ∧
    (s.changeCache f).gathering = s.gathering ∧
    (s.changeCache f).carousel = s.carousel ∧
    (s.changeCache f).format = s.format ∧
    (s.changeCache f).miller = s.miller ∧
    (s.changeCache f).pot = s.pot ∧
    (s.changeCache f).glue = s.glue ∧
    (s.changeCache f).cover = s.cover ∧
    (s.changeCache f).trim = s.trim ∧
    (s.changeCache f).line = s.line ∧
    (s.changeCache f).port = s.port ∧
    (s.changeCache f).config = s.config ∧
    (s.changeCache f).pins = s.pins ∧
    (s.changeCache f).pending = s.pending := by
  unfold State.changeCache
  dsimp only
  (repeat' split) <;> simp

@[simp] theorem State.setEntry_frame (e : Fin 16) (x : CacheEntry) (s : State) :
    (s.setEntry e x).now = s.now ∧
    (s.setEntry e x).phase = s.phase ∧
    (s.setEntry e x).stations = s.stations ∧
    (s.setEntry e x).sched = s.sched ∧
    (s.setEntry e x).gathering = s.gathering ∧
    (s.setEntry e x).carousel = s.carousel ∧
    (s.setEntry e x).format = s.format ∧
    (s.setEntry e x).miller = s.miller ∧
    (s.setEntry e x).pot = s.pot ∧
    (s.setEntry e x).glue = s.glue ∧
    (s.setEntry e x).cover = s.cover ∧
    (s.setEntry e x).trim = s.trim ∧
    (s.setEntry e x).line = s.line ∧
    (s.setEntry e x).port = s.port ∧
    (s.setEntry e x).config = s.config ∧
    (s.setEntry e x).pins = s.pins ∧
    (s.setEntry e x).pending = s.pending := by
  simp [State.setEntry]

@[simp] theorem State.dropLock_frame (e : Fin 16) (s : State) :
    (s.dropLock e).now = s.now ∧
    (s.dropLock e).phase = s.phase ∧
    (s.dropLock e).stations = s.stations ∧
    (s.dropLock e).sched = s.sched ∧
    (s.dropLock e).gathering = s.gathering ∧
    (s.dropLock e).carousel = s.carousel ∧
    (s.dropLock e).format = s.format ∧
    (s.dropLock e).miller = s.miller ∧
    (s.dropLock e).pot = s.pot ∧
    (s.dropLock e).glue = s.glue ∧
    (s.dropLock e).cover = s.cover ∧
    (s.dropLock e).trim = s.trim ∧
    (s.dropLock e).line = s.line ∧
    (s.dropLock e).port = s.port ∧
    (s.dropLock e).config = s.config ∧
    (s.dropLock e).pins = s.pins ∧
    (s.dropLock e).pending = s.pending := by
  unfold State.dropLock
  dsimp only
  (repeat' split) <;> simp

@[simp] theorem State.freeLock_frame (b : Book) (s : State) :
    (s.freeLock b).now = s.now ∧
    (s.freeLock b).phase = s.phase ∧
    (s.freeLock b).stations = s.stations ∧
    (s.freeLock b).sched = s.sched ∧
    (s.freeLock b).gathering = s.gathering ∧
    (s.freeLock b).carousel = s.carousel ∧
    (s.freeLock b).format = s.format ∧
    (s.freeLock b).miller = s.miller ∧
    (s.freeLock b).pot = s.pot ∧
    (s.freeLock b).glue = s.glue ∧
    (s.freeLock b).cover = s.cover ∧
    (s.freeLock b).trim = s.trim ∧
    (s.freeLock b).line = s.line ∧
    (s.freeLock b).port = s.port ∧
    (s.freeLock b).config = s.config ∧
    (s.freeLock b).pins = s.pins ∧
    (s.freeLock b).pending = s.pending := by
  unfold State.freeLock
  (repeat' split) <;> simp

@[simp] theorem State.releaseCell_frame (p : Fin 18) (s : State) :
    (s.releaseCell p).now = s.now ∧
    (s.releaseCell p).phase = s.phase ∧
    (s.releaseCell p).stations = s.stations ∧
    (s.releaseCell p).sched = s.sched ∧
    (s.releaseCell p).carousel = s.carousel ∧
    (s.releaseCell p).format = s.format ∧
    (s.releaseCell p).miller = s.miller ∧
    (s.releaseCell p).pot = s.pot ∧
    (s.releaseCell p).glue = s.glue ∧
    (s.releaseCell p).cover = s.cover ∧
    (s.releaseCell p).trim = s.trim ∧
    (s.releaseCell p).line = s.line ∧
    (s.releaseCell p).port = s.port ∧
    (s.releaseCell p).config = s.config ∧
    (s.releaseCell p).pins = s.pins ∧
    (s.releaseCell p).pending = s.pending := by
  unfold State.releaseCell
  (repeat' split) <;> simp

@[simp] theorem State.releaseClamp_frame (p : Fin 24) (s : State) :
    (s.releaseClamp p).now = s.now ∧
    (s.releaseClamp p).phase = s.phase ∧
    (s.releaseClamp p).stations = s.stations ∧
    (s.releaseClamp p).sched = s.sched ∧
    (s.releaseClamp p).gathering = s.gathering ∧
    (s.releaseClamp p).format = s.format ∧
    (s.releaseClamp p).miller = s.miller ∧
    (s.releaseClamp p).pot = s.pot ∧
    (s.releaseClamp p).glue = s.glue ∧
    (s.releaseClamp p).cover = s.cover ∧
    (s.releaseClamp p).trim = s.trim ∧
    (s.releaseClamp p).line = s.line ∧
    (s.releaseClamp p).port = s.port ∧
    (s.releaseClamp p).config = s.config ∧
    (s.releaseClamp p).pins = s.pins ∧
    (s.releaseClamp p).pending = s.pending := by
  unfold State.releaseClamp
  (repeat' split) <;> simp

@[simp] theorem State.changeTicket_frame (t u : HeldTicket) (s : State) :
    (s.changeTicket t u).now = s.now ∧
    (s.changeTicket t u).phase = s.phase ∧
    (s.changeTicket t u).stations = s.stations ∧
    (s.changeTicket t u).cache = s.cache ∧
    (s.changeTicket t u).gathering = s.gathering ∧
    (s.changeTicket t u).carousel = s.carousel ∧
    (s.changeTicket t u).format = s.format ∧
    (s.changeTicket t u).miller = s.miller ∧
    (s.changeTicket t u).pot = s.pot ∧
    (s.changeTicket t u).glue = s.glue ∧
    (s.changeTicket t u).cover = s.cover ∧
    (s.changeTicket t u).trim = s.trim ∧
    (s.changeTicket t u).line = s.line ∧
    (s.changeTicket t u).port = s.port ∧
    (s.changeTicket t u).config = s.config ∧
    (s.changeTicket t u).pins = s.pins ∧
    (s.changeTicket t u).pending = s.pending := by
  simp [State.changeTicket]

@[simp] theorem State.setCursor_frame (i : Nat) (s : State) :
    (s.setCursor i).now = s.now ∧
    (s.setCursor i).phase = s.phase ∧
    (s.setCursor i).stations = s.stations ∧
    (s.setCursor i).cache = s.cache ∧
    (s.setCursor i).gathering = s.gathering ∧
    (s.setCursor i).carousel = s.carousel ∧
    (s.setCursor i).format = s.format ∧
    (s.setCursor i).miller = s.miller ∧
    (s.setCursor i).pot = s.pot ∧
    (s.setCursor i).glue = s.glue ∧
    (s.setCursor i).cover = s.cover ∧
    (s.setCursor i).trim = s.trim ∧
    (s.setCursor i).line = s.line ∧
    (s.setCursor i).port = s.port ∧
    (s.setCursor i).config = s.config ∧
    (s.setCursor i).pins = s.pins ∧
    (s.setCursor i).pending = s.pending := by
  simp [State.setCursor]

@[simp] theorem State.advanceCursor_frame (s : State) :
    (s.advanceCursor).now = s.now ∧
    (s.advanceCursor).phase = s.phase ∧
    (s.advanceCursor).stations = s.stations ∧
    (s.advanceCursor).cache = s.cache ∧
    (s.advanceCursor).gathering = s.gathering ∧
    (s.advanceCursor).carousel = s.carousel ∧
    (s.advanceCursor).format = s.format ∧
    (s.advanceCursor).miller = s.miller ∧
    (s.advanceCursor).pot = s.pot ∧
    (s.advanceCursor).glue = s.glue ∧
    (s.advanceCursor).cover = s.cover ∧
    (s.advanceCursor).trim = s.trim ∧
    (s.advanceCursor).line = s.line ∧
    (s.advanceCursor).port = s.port ∧
    (s.advanceCursor).config = s.config ∧
    (s.advanceCursor).pins = s.pins ∧
    (s.advanceCursor).pending = s.pending := by
  simp [State.advanceCursor]

@[simp] theorem State.setRemakes_frame (l : List Nat) (s : State) :
    (s.setRemakes l).now = s.now ∧
    (s.setRemakes l).phase = s.phase ∧
    (s.setRemakes l).stations = s.stations ∧
    (s.setRemakes l).cache = s.cache ∧
    (s.setRemakes l).gathering = s.gathering ∧
    (s.setRemakes l).carousel = s.carousel ∧
    (s.setRemakes l).format = s.format ∧
    (s.setRemakes l).miller = s.miller ∧
    (s.setRemakes l).pot = s.pot ∧
    (s.setRemakes l).glue = s.glue ∧
    (s.setRemakes l).cover = s.cover ∧
    (s.setRemakes l).trim = s.trim ∧
    (s.setRemakes l).line = s.line ∧
    (s.setRemakes l).port = s.port ∧
    (s.setRemakes l).config = s.config ∧
    (s.setRemakes l).pins = s.pins ∧
    (s.setRemakes l).pending = s.pending := by
  unfold State.setRemakes
  dsimp only
  (repeat' split) <;> simp

@[simp] theorem State.writeEnd_frame (i : Nat) (l : List (TicketField × Word)) (r : EndReason) (g : Stage) (s : State) :
    (s.writeEnd i l r g).now = s.now ∧
    (s.writeEnd i l r g).phase = s.phase ∧
    (s.writeEnd i l r g).stations = s.stations ∧
    (s.writeEnd i l r g).sched = s.sched ∧
    (s.writeEnd i l r g).cache = s.cache ∧
    (s.writeEnd i l r g).gathering = s.gathering ∧
    (s.writeEnd i l r g).carousel = s.carousel ∧
    (s.writeEnd i l r g).format = s.format ∧
    (s.writeEnd i l r g).miller = s.miller ∧
    (s.writeEnd i l r g).pot = s.pot ∧
    (s.writeEnd i l r g).glue = s.glue ∧
    (s.writeEnd i l r g).cover = s.cover ∧
    (s.writeEnd i l r g).trim = s.trim ∧
    (s.writeEnd i l r g).line = s.line ∧
    (s.writeEnd i l r g).config = s.config ∧
    (s.writeEnd i l r g).pins = s.pins ∧
    (s.writeEnd i l r g).pending = s.pending := by
  simp [State.writeEnd]

@[simp] theorem State.endUnheld_frame (i : Nat) (r : EndReason) (d : Nat) (s : State) :
    (s.endUnheld i r d).now = s.now ∧
    (s.endUnheld i r d).phase = s.phase ∧
    (s.endUnheld i r d).stations = s.stations ∧
    (s.endUnheld i r d).sched = s.sched ∧
    (s.endUnheld i r d).cache = s.cache ∧
    (s.endUnheld i r d).gathering = s.gathering ∧
    (s.endUnheld i r d).carousel = s.carousel ∧
    (s.endUnheld i r d).format = s.format ∧
    (s.endUnheld i r d).miller = s.miller ∧
    (s.endUnheld i r d).pot = s.pot ∧
    (s.endUnheld i r d).glue = s.glue ∧
    (s.endUnheld i r d).cover = s.cover ∧
    (s.endUnheld i r d).trim = s.trim ∧
    (s.endUnheld i r d).line = s.line ∧
    (s.endUnheld i r d).config = s.config ∧
    (s.endUnheld i r d).pins = s.pins ∧
    (s.endUnheld i r d).pending = s.pending := by
  simp [State.endUnheld]

@[simp] theorem State.endHeld_frame (t : HeldTicket) (r : EndReason) (g : Stage) (s : State) :
    (s.endHeld t r g).now = s.now ∧
    (s.endHeld t r g).phase = s.phase ∧
    (s.endHeld t r g).stations = s.stations ∧
    (s.endHeld t r g).cache = s.cache ∧
    (s.endHeld t r g).gathering = s.gathering ∧
    (s.endHeld t r g).carousel = s.carousel ∧
    (s.endHeld t r g).format = s.format ∧
    (s.endHeld t r g).miller = s.miller ∧
    (s.endHeld t r g).pot = s.pot ∧
    (s.endHeld t r g).glue = s.glue ∧
    (s.endHeld t r g).cover = s.cover ∧
    (s.endHeld t r g).trim = s.trim ∧
    (s.endHeld t r g).line = s.line ∧
    (s.endHeld t r g).config = s.config ∧
    (s.endHeld t r g).pins = s.pins ∧
    (s.endHeld t r g).pending = s.pending := by
  unfold State.endHeld
  dsimp only
  (repeat' split) <;> simp

@[simp] theorem State.endCheck_frame (i : Nat) (s : State) :
    (s.endCheck i).now = s.now ∧
    (s.endCheck i).phase = s.phase ∧
    (s.endCheck i).stations = s.stations ∧
    (s.endCheck i).cache = s.cache ∧
    (s.endCheck i).gathering = s.gathering ∧
    (s.endCheck i).carousel = s.carousel ∧
    (s.endCheck i).format = s.format ∧
    (s.endCheck i).miller = s.miller ∧
    (s.endCheck i).pot = s.pot ∧
    (s.endCheck i).glue = s.glue ∧
    (s.endCheck i).cover = s.cover ∧
    (s.endCheck i).trim = s.trim ∧
    (s.endCheck i).line = s.line ∧
    (s.endCheck i).config = s.config ∧
    (s.endCheck i).pins = s.pins ∧
    (s.endCheck i).pending = s.pending := by
  unfold State.endCheck
  (repeat' split) <;> simp

@[simp] theorem State.consult_frame (i : Nat) (s : State) :
    (s.consult i).now = s.now ∧
    (s.consult i).phase = s.phase ∧
    (s.consult i).stations = s.stations ∧
    (s.consult i).cache = s.cache ∧
    (s.consult i).gathering = s.gathering ∧
    (s.consult i).carousel = s.carousel ∧
    (s.consult i).format = s.format ∧
    (s.consult i).miller = s.miller ∧
    (s.consult i).pot = s.pot ∧
    (s.consult i).glue = s.glue ∧
    (s.consult i).cover = s.cover ∧
    (s.consult i).trim = s.trim ∧
    (s.consult i).line = s.line ∧
    (s.consult i).port = s.port ∧
    (s.consult i).config = s.config ∧
    (s.consult i).pins = s.pins ∧
    (s.consult i).mem = s.mem ∧
    (s.consult i).pending = s.pending := by
  unfold State.consult
  (repeat' split) <;> simp

@[simp] theorem State.logEntry_frame (b : Book) (e : LogEntry) (s : State) :
    (s.logEntry b e).now = s.now ∧
    (s.logEntry b e).phase = s.phase ∧
    (s.logEntry b e).stations = s.stations ∧
    (s.logEntry b e).sched = s.sched ∧
    (s.logEntry b e).cache = s.cache ∧
    (s.logEntry b e).gathering = s.gathering ∧
    (s.logEntry b e).carousel = s.carousel ∧
    (s.logEntry b e).format = s.format ∧
    (s.logEntry b e).miller = s.miller ∧
    (s.logEntry b e).pot = s.pot ∧
    (s.logEntry b e).glue = s.glue ∧
    (s.logEntry b e).cover = s.cover ∧
    (s.logEntry b e).trim = s.trim ∧
    (s.logEntry b e).line = s.line ∧
    (s.logEntry b e).config = s.config ∧
    (s.logEntry b e).pins = s.pins ∧
    (s.logEntry b e).pending = s.pending := by
  simp [State.logEntry]

@[simp] theorem State.postSpoiled_frame (b : Book) (m : SpoilMark) (p : PostPoint) (s : State) :
    (s.postSpoiled b m p).now = s.now ∧
    (s.postSpoiled b m p).phase = s.phase ∧
    (s.postSpoiled b m p).stations = s.stations ∧
    (s.postSpoiled b m p).cache = s.cache ∧
    (s.postSpoiled b m p).gathering = s.gathering ∧
    (s.postSpoiled b m p).carousel = s.carousel ∧
    (s.postSpoiled b m p).format = s.format ∧
    (s.postSpoiled b m p).miller = s.miller ∧
    (s.postSpoiled b m p).pot = s.pot ∧
    (s.postSpoiled b m p).glue = s.glue ∧
    (s.postSpoiled b m p).cover = s.cover ∧
    (s.postSpoiled b m p).trim = s.trim ∧
    (s.postSpoiled b m p).line = s.line ∧
    (s.postSpoiled b m p).config = s.config ∧
    (s.postSpoiled b m p).pins = s.pins ∧
    (s.postSpoiled b m p).pending = s.pending := by
  unfold State.postSpoiled
  dsimp only
  (repeat' split) <;> simp

@[simp] theorem State.postBook_frame (b : Book) (p : PostPoint) (s : State) :
    (s.postBook b p).now = s.now ∧
    (s.postBook b p).phase = s.phase ∧
    (s.postBook b p).stations = s.stations ∧
    (s.postBook b p).cache = s.cache ∧
    (s.postBook b p).gathering = s.gathering ∧
    (s.postBook b p).carousel = s.carousel ∧
    (s.postBook b p).format = s.format ∧
    (s.postBook b p).miller = s.miller ∧
    (s.postBook b p).pot = s.pot ∧
    (s.postBook b p).glue = s.glue ∧
    (s.postBook b p).cover = s.cover ∧
    (s.postBook b p).trim = s.trim ∧
    (s.postBook b p).line = s.line ∧
    (s.postBook b p).config = s.config ∧
    (s.postBook b p).pins = s.pins ∧
    (s.postBook b p).pending = s.pending := by
  unfold State.postBook
  (repeat' split) <;> simp

@[simp] theorem foldLog_frame (b : Book) (l : List LogEntry) (s : State) :
    (l.foldl (fun s e => s.logEntry b e) s).now = s.now ∧
    (l.foldl (fun s e => s.logEntry b e) s).phase = s.phase ∧
    (l.foldl (fun s e => s.logEntry b e) s).stations = s.stations ∧
    (l.foldl (fun s e => s.logEntry b e) s).sched = s.sched ∧
    (l.foldl (fun s e => s.logEntry b e) s).cache = s.cache ∧
    (l.foldl (fun s e => s.logEntry b e) s).gathering = s.gathering ∧
    (l.foldl (fun s e => s.logEntry b e) s).carousel = s.carousel ∧
    (l.foldl (fun s e => s.logEntry b e) s).format = s.format ∧
    (l.foldl (fun s e => s.logEntry b e) s).miller = s.miller ∧
    (l.foldl (fun s e => s.logEntry b e) s).pot = s.pot ∧
    (l.foldl (fun s e => s.logEntry b e) s).glue = s.glue ∧
    (l.foldl (fun s e => s.logEntry b e) s).cover = s.cover ∧
    (l.foldl (fun s e => s.logEntry b e) s).trim = s.trim ∧
    (l.foldl (fun s e => s.logEntry b e) s).line = s.line ∧
    (l.foldl (fun s e => s.logEntry b e) s).config = s.config ∧
    (l.foldl (fun s e => s.logEntry b e) s).pins = s.pins ∧
    (l.foldl (fun s e => s.logEntry b e) s).pending = s.pending := by
  refine ⟨foldl_same (fun s => s.now) _ (by intros; simp) _ _, foldl_same (fun s => s.phase) _ (by intros; simp) _ _, foldl_same (fun s => s.stations) _ (by intros; simp) _ _, foldl_same (fun s => s.sched) _ (by intros; simp) _ _, foldl_same (fun s => s.cache) _ (by intros; simp) _ _, foldl_same (fun s => s.gathering) _ (by intros; simp) _ _, foldl_same (fun s => s.carousel) _ (by intros; simp) _ _, foldl_same (fun s => s.format) _ (by intros; simp) _ _, foldl_same (fun s => s.miller) _ (by intros; simp) _ _, foldl_same (fun s => s.pot) _ (by intros; simp) _ _, foldl_same (fun s => s.glue) _ (by intros; simp) _ _, foldl_same (fun s => s.cover) _ (by intros; simp) _ _, foldl_same (fun s => s.trim) _ (by intros; simp) _ _, foldl_same (fun s => s.line) _ (by intros; simp) _ _, foldl_same (fun s => s.config) _ (by intros; simp) _ _, foldl_same (fun s => s.pins) _ (by intros; simp) _ _, foldl_same (fun s => s.pending) _ (by intros; simp) _ _⟩

@[simp] theorem State.postMade_frame (b : Book) (s : State) :
    (s.postMade b).now = s.now ∧
    (s.postMade b).phase = s.phase ∧
    (s.postMade b).stations = s.stations ∧
    (s.postMade b).cache = s.cache ∧
    (s.postMade b).gathering = s.gathering ∧
    (s.postMade b).carousel = s.carousel ∧
    (s.postMade b).format = s.format ∧
    (s.postMade b).miller = s.miller ∧
    (s.postMade b).pot = s.pot ∧
    (s.postMade b).glue = s.glue ∧
    (s.postMade b).cover = s.cover ∧
    (s.postMade b).trim = s.trim ∧
    (s.postMade b).line = s.line ∧
    (s.postMade b).config = s.config ∧
    (s.postMade b).pins = s.pins ∧
    (s.postMade b).pending = s.pending := by
  unfold State.postMade
  dsimp only
  (repeat' split) <;> simp

@[simp] theorem State.startFetch_frame (j : Nat) (s : State) :
    (s.startFetch j).now = s.now ∧
    (s.startFetch j).phase = s.phase ∧
    (s.startFetch j).stations = s.stations ∧
    (s.startFetch j).sched = s.sched ∧
    (s.startFetch j).gathering = s.gathering ∧
    (s.startFetch j).carousel = s.carousel ∧
    (s.startFetch j).format = s.format ∧
    (s.startFetch j).miller = s.miller ∧
    (s.startFetch j).pot = s.pot ∧
    (s.startFetch j).glue = s.glue ∧
    (s.startFetch j).cover = s.cover ∧
    (s.startFetch j).trim = s.trim ∧
    (s.startFetch j).line = s.line ∧
    (s.startFetch j).port = s.port ∧
    (s.startFetch j).config = s.config ∧
    (s.startFetch j).pins = s.pins ∧
    (s.startFetch j).pending = s.pending := by
  unfold State.startFetch
  (repeat' split) <;> simp

@[simp] theorem State.launch_frame (t : HeldTicket) (k : BookKind) (f : FormatState) (e : Fin 16) (s : State) :
    (s.launch t k f e).now = s.now ∧
    (s.launch t k f e).phase = s.phase ∧
    (s.launch t k f e).stations = s.stations ∧
    (s.launch t k f e).carousel = s.carousel ∧
    (s.launch t k f e).format = s.format ∧
    (s.launch t k f e).miller = s.miller ∧
    (s.launch t k f e).pot = s.pot ∧
    (s.launch t k f e).glue = s.glue ∧
    (s.launch t k f e).cover = s.cover ∧
    (s.launch t k f e).trim = s.trim ∧
    (s.launch t k f e).line = s.line ∧
    (s.launch t k f e).port = s.port ∧
    (s.launch t k f e).config = s.config ∧
    (s.launch t k f e).pins = s.pins ∧
    (s.launch t k f e).pending = s.pending := by
  unfold State.launch
  dsimp only
  (repeat' split) <;> simp

@[simp] theorem State.holdOrLaunch_frame (i : Nat) (k : BookKind) (f : FormatState) (e : Fin 16) (s : State) :
    (s.holdOrLaunch i k f e).1.now = s.now ∧
    (s.holdOrLaunch i k f e).1.phase = s.phase ∧
    (s.holdOrLaunch i k f e).1.stations = s.stations ∧
    (s.holdOrLaunch i k f e).1.carousel = s.carousel ∧
    (s.holdOrLaunch i k f e).1.format = s.format ∧
    (s.holdOrLaunch i k f e).1.miller = s.miller ∧
    (s.holdOrLaunch i k f e).1.pot = s.pot ∧
    (s.holdOrLaunch i k f e).1.glue = s.glue ∧
    (s.holdOrLaunch i k f e).1.cover = s.cover ∧
    (s.holdOrLaunch i k f e).1.trim = s.trim ∧
    (s.holdOrLaunch i k f e).1.line = s.line ∧
    (s.holdOrLaunch i k f e).1.port = s.port ∧
    (s.holdOrLaunch i k f e).1.config = s.config ∧
    (s.holdOrLaunch i k f e).1.pins = s.pins ∧
    (s.holdOrLaunch i k f e).1.pending = s.pending := by
  unfold State.holdOrLaunch
  dsimp only
  (repeat' split) <;> simp

@[simp] theorem State.provisional_frame (t : HeldTicket) (k : BookKind) (s : State) :
    (s.provisional t k).1.now = s.now ∧
    (s.provisional t k).1.phase = s.phase ∧
    (s.provisional t k).1.stations = s.stations ∧
    (s.provisional t k).1.carousel = s.carousel ∧
    (s.provisional t k).1.format = s.format ∧
    (s.provisional t k).1.miller = s.miller ∧
    (s.provisional t k).1.pot = s.pot ∧
    (s.provisional t k).1.glue = s.glue ∧
    (s.provisional t k).1.cover = s.cover ∧
    (s.provisional t k).1.trim = s.trim ∧
    (s.provisional t k).1.line = s.line ∧
    (s.provisional t k).1.port = s.port ∧
    (s.provisional t k).1.config = s.config ∧
    (s.provisional t k).1.pins = s.pins ∧
    (s.provisional t k).1.pending = s.pending := by
  unfold State.provisional
  (repeat' split) <;> simp

@[simp] theorem State.heldLookup_frame (t : HeldTicket) (k : BookKind) (s : State) :
    (s.heldLookup t k).1.now = s.now ∧
    (s.heldLookup t k).1.phase = s.phase ∧
    (s.heldLookup t k).1.stations = s.stations ∧
    (s.heldLookup t k).1.carousel = s.carousel ∧
    (s.heldLookup t k).1.format = s.format ∧
    (s.heldLookup t k).1.miller = s.miller ∧
    (s.heldLookup t k).1.pot = s.pot ∧
    (s.heldLookup t k).1.glue = s.glue ∧
    (s.heldLookup t k).1.cover = s.cover ∧
    (s.heldLookup t k).1.trim = s.trim ∧
    (s.heldLookup t k).1.line = s.line ∧
    (s.heldLookup t k).1.port = s.port ∧
    (s.heldLookup t k).1.config = s.config ∧
    (s.heldLookup t k).1.pins = s.pins ∧
    (s.heldLookup t k).1.pending = s.pending := by
  unfold State.heldLookup
  (repeat' split) <;> simp

@[simp] theorem State.refuse_frame (i : Nat) (r : EndReason) (d : Nat) (s : State) :
    (s.refuse i r d).1.now = s.now ∧
    (s.refuse i r d).1.phase = s.phase ∧
    (s.refuse i r d).1.stations = s.stations ∧
    (s.refuse i r d).1.cache = s.cache ∧
    (s.refuse i r d).1.gathering = s.gathering ∧
    (s.refuse i r d).1.carousel = s.carousel ∧
    (s.refuse i r d).1.format = s.format ∧
    (s.refuse i r d).1.miller = s.miller ∧
    (s.refuse i r d).1.pot = s.pot ∧
    (s.refuse i r d).1.glue = s.glue ∧
    (s.refuse i r d).1.cover = s.cover ∧
    (s.refuse i r d).1.trim = s.trim ∧
    (s.refuse i r d).1.line = s.line ∧
    (s.refuse i r d).1.config = s.config ∧
    (s.refuse i r d).1.pins = s.pins ∧
    (s.refuse i r d).1.pending = s.pending := by
  simp [State.refuse]

@[simp] theorem State.preflight_frame (i : Nat) (e : Fin 16) (r : JobRecord) (s : State) :
    (s.preflight i e r).1.now = s.now ∧
    (s.preflight i e r).1.phase = s.phase ∧
    (s.preflight i e r).1.stations = s.stations ∧
    (s.preflight i e r).1.carousel = s.carousel ∧
    (s.preflight i e r).1.format = s.format ∧
    (s.preflight i e r).1.miller = s.miller ∧
    (s.preflight i e r).1.pot = s.pot ∧
    (s.preflight i e r).1.glue = s.glue ∧
    (s.preflight i e r).1.cover = s.cover ∧
    (s.preflight i e r).1.trim = s.trim ∧
    (s.preflight i e r).1.line = s.line ∧
    (s.preflight i e r).1.config = s.config ∧
    (s.preflight i e r).1.pins = s.pins ∧
    (s.preflight i e r).1.pending = s.pending := by
  unfold State.preflight
  dsimp only
  (repeat' split) <;> simp

@[simp] theorem State.postedLookup_frame (i : Nat) (s : State) :
    (s.postedLookup i).1.now = s.now ∧
    (s.postedLookup i).1.phase = s.phase ∧
    (s.postedLookup i).1.stations = s.stations ∧
    (s.postedLookup i).1.carousel = s.carousel ∧
    (s.postedLookup i).1.format = s.format ∧
    (s.postedLookup i).1.miller = s.miller ∧
    (s.postedLookup i).1.pot = s.pot ∧
    (s.postedLookup i).1.glue = s.glue ∧
    (s.postedLookup i).1.cover = s.cover ∧
    (s.postedLookup i).1.trim = s.trim ∧
    (s.postedLookup i).1.line = s.line ∧
    (s.postedLookup i).1.config = s.config ∧
    (s.postedLookup i).1.pins = s.pins ∧
    (s.postedLookup i).1.pending = s.pending := by
  unfold State.postedLookup
  dsimp only
  (repeat' split) <;> simp

@[simp] theorem State.remakeCandidate_frame (i : Nat) (s : State) :
    (s.remakeCandidate i).1.now = s.now ∧
    (s.remakeCandidate i).1.phase = s.phase ∧
    (s.remakeCandidate i).1.stations = s.stations ∧
    (s.remakeCandidate i).1.carousel = s.carousel ∧
    (s.remakeCandidate i).1.format = s.format ∧
    (s.remakeCandidate i).1.miller = s.miller ∧
    (s.remakeCandidate i).1.pot = s.pot ∧
    (s.remakeCandidate i).1.glue = s.glue ∧
    (s.remakeCandidate i).1.cover = s.cover ∧
    (s.remakeCandidate i).1.trim = s.trim ∧
    (s.remakeCandidate i).1.line = s.line ∧
    (s.remakeCandidate i).1.config = s.config ∧
    (s.remakeCandidate i).1.pins = s.pins ∧
    (s.remakeCandidate i).1.pending = s.pending := by
  unfold State.remakeCandidate
  dsimp only
  (repeat' split) <;> simp

@[simp] theorem State.drain_frame (t : HeldTicket) (s : State) :
    (s.drain t).now = s.now ∧
    (s.drain t).phase = s.phase ∧
    (s.drain t).stations = s.stations ∧
    (s.drain t).cache = s.cache ∧
    (s.drain t).gathering = s.gathering ∧
    (s.drain t).carousel = s.carousel ∧
    (s.drain t).format = s.format ∧
    (s.drain t).miller = s.miller ∧
    (s.drain t).pot = s.pot ∧
    (s.drain t).glue = s.glue ∧
    (s.drain t).cover = s.cover ∧
    (s.drain t).trim = s.trim ∧
    (s.drain t).line = s.line ∧
    (s.drain t).config = s.config ∧
    (s.drain t).pins = s.pins ∧
    (s.drain t).pending = s.pending := by
  simp [State.drain]

@[simp] theorem State.cursorCandidate_frame (s : State) :
    (s.cursorCandidate).1.now = s.now ∧
    (s.cursorCandidate).1.phase = s.phase ∧
    (s.cursorCandidate).1.stations = s.stations ∧
    (s.cursorCandidate).1.carousel = s.carousel ∧
    (s.cursorCandidate).1.format = s.format ∧
    (s.cursorCandidate).1.miller = s.miller ∧
    (s.cursorCandidate).1.pot = s.pot ∧
    (s.cursorCandidate).1.glue = s.glue ∧
    (s.cursorCandidate).1.cover = s.cover ∧
    (s.cursorCandidate).1.trim = s.trim ∧
    (s.cursorCandidate).1.line = s.line ∧
    (s.cursorCandidate).1.config = s.config ∧
    (s.cursorCandidate).1.pins = s.pins ∧
    (s.cursorCandidate).1.pending = s.pending := by
  unfold State.cursorCandidate
  dsimp only
  (repeat' split) <;> simp

@[simp] theorem State.decision_frame (s : State) :
    (s.decision).1.now = s.now ∧
    (s.decision).1.phase = s.phase ∧
    (s.decision).1.stations = s.stations ∧
    (s.decision).1.carousel = s.carousel ∧
    (s.decision).1.format = s.format ∧
    (s.decision).1.miller = s.miller ∧
    (s.decision).1.pot = s.pot ∧
    (s.decision).1.glue = s.glue ∧
    (s.decision).1.cover = s.cover ∧
    (s.decision).1.trim = s.trim ∧
    (s.decision).1.line = s.line ∧
    (s.decision).1.config = s.config ∧
    (s.decision).1.pins = s.pins ∧
    (s.decision).1.pending = s.pending := by
  unfold State.decision
  (repeat' split) <;> simp

@[simp] theorem State.setHold_frame (h : HoldReason) (s : State) :
    (s.setHold h).now = s.now ∧
    (s.setHold h).phase = s.phase ∧
    (s.setHold h).stations = s.stations ∧
    (s.setHold h).cache = s.cache ∧
    (s.setHold h).gathering = s.gathering ∧
    (s.setHold h).carousel = s.carousel ∧
    (s.setHold h).format = s.format ∧
    (s.setHold h).miller = s.miller ∧
    (s.setHold h).pot = s.pot ∧
    (s.setHold h).glue = s.glue ∧
    (s.setHold h).cover = s.cover ∧
    (s.setHold h).trim = s.trim ∧
    (s.setHold h).line = s.line ∧
    (s.setHold h).port = s.port ∧
    (s.setHold h).config = s.config ∧
    (s.setHold h).pins = s.pins ∧
    (s.setHold h).pending = s.pending := by
  simp [State.setHold]

@[simp] theorem State.prefetch_frame (s : State) :
    (s.prefetch).now = s.now ∧
    (s.prefetch).phase = s.phase ∧
    (s.prefetch).stations = s.stations ∧
    (s.prefetch).sched = s.sched ∧
    (s.prefetch).gathering = s.gathering ∧
    (s.prefetch).carousel = s.carousel ∧
    (s.prefetch).format = s.format ∧
    (s.prefetch).miller = s.miller ∧
    (s.prefetch).pot = s.pot ∧
    (s.prefetch).glue = s.glue ∧
    (s.prefetch).cover = s.cover ∧
    (s.prefetch).trim = s.trim ∧
    (s.prefetch).line = s.line ∧
    (s.prefetch).port = s.port ∧
    (s.prefetch).config = s.config ∧
    (s.prefetch).pins = s.pins ∧
    (s.prefetch).pending = s.pending := by
  unfold State.prefetch
  (repeat' split) <;> simp

@[simp] theorem State.launchDemand_frame (s : State) :
    (s.launchDemand).now = s.now ∧
    (s.launchDemand).phase = s.phase ∧
    (s.launchDemand).stations = s.stations ∧
    (s.launchDemand).carousel = s.carousel ∧
    (s.launchDemand).format = s.format ∧
    (s.launchDemand).miller = s.miller ∧
    (s.launchDemand).pot = s.pot ∧
    (s.launchDemand).glue = s.glue ∧
    (s.launchDemand).cover = s.cover ∧
    (s.launchDemand).trim = s.trim ∧
    (s.launchDemand).config = s.config ∧
    (s.launchDemand).pins = s.pins ∧
    (s.launchDemand).pending = s.pending := by
  unfold State.launchDemand
  dsimp only
  (repeat' split) <;> simp

@[simp] theorem State.stopForJob_frame (j i : Nat) (s : State) :
    (s.stopForJob j i).now = s.now ∧
    (s.stopForJob j i).phase = s.phase ∧
    (s.stopForJob j i).stations = s.stations ∧
    (s.stopForJob j i).cache = s.cache ∧
    (s.stopForJob j i).gathering = s.gathering ∧
    (s.stopForJob j i).carousel = s.carousel ∧
    (s.stopForJob j i).format = s.format ∧
    (s.stopForJob j i).miller = s.miller ∧
    (s.stopForJob j i).pot = s.pot ∧
    (s.stopForJob j i).glue = s.glue ∧
    (s.stopForJob j i).cover = s.cover ∧
    (s.stopForJob j i).trim = s.trim ∧
    (s.stopForJob j i).line = s.line ∧
    (s.stopForJob j i).config = s.config ∧
    (s.stopForJob j i).pins = s.pins ∧
    (s.stopForJob j i).pending = s.pending := by
  unfold State.stopForJob
  (repeat' split) <;> simp

@[simp] theorem foldStop_frame (j : Nat) (l : List Nat) (s : State) :
    (l.foldl (fun s i => s.stopForJob j i) s).now = s.now ∧
    (l.foldl (fun s i => s.stopForJob j i) s).phase = s.phase ∧
    (l.foldl (fun s i => s.stopForJob j i) s).stations = s.stations ∧
    (l.foldl (fun s i => s.stopForJob j i) s).cache = s.cache ∧
    (l.foldl (fun s i => s.stopForJob j i) s).gathering = s.gathering ∧
    (l.foldl (fun s i => s.stopForJob j i) s).carousel = s.carousel ∧
    (l.foldl (fun s i => s.stopForJob j i) s).format = s.format ∧
    (l.foldl (fun s i => s.stopForJob j i) s).miller = s.miller ∧
    (l.foldl (fun s i => s.stopForJob j i) s).pot = s.pot ∧
    (l.foldl (fun s i => s.stopForJob j i) s).glue = s.glue ∧
    (l.foldl (fun s i => s.stopForJob j i) s).cover = s.cover ∧
    (l.foldl (fun s i => s.stopForJob j i) s).trim = s.trim ∧
    (l.foldl (fun s i => s.stopForJob j i) s).line = s.line ∧
    (l.foldl (fun s i => s.stopForJob j i) s).config = s.config ∧
    (l.foldl (fun s i => s.stopForJob j i) s).pins = s.pins ∧
    (l.foldl (fun s i => s.stopForJob j i) s).pending = s.pending := by
  refine ⟨foldl_same (fun s => s.now) _ (by intros; simp) _ _, foldl_same (fun s => s.phase) _ (by intros; simp) _ _, foldl_same (fun s => s.stations) _ (by intros; simp) _ _, foldl_same (fun s => s.cache) _ (by intros; simp) _ _, foldl_same (fun s => s.gathering) _ (by intros; simp) _ _, foldl_same (fun s => s.carousel) _ (by intros; simp) _ _, foldl_same (fun s => s.format) _ (by intros; simp) _ _, foldl_same (fun s => s.miller) _ (by intros; simp) _ _, foldl_same (fun s => s.pot) _ (by intros; simp) _ _, foldl_same (fun s => s.glue) _ (by intros; simp) _ _, foldl_same (fun s => s.cover) _ (by intros; simp) _ _, foldl_same (fun s => s.trim) _ (by intros; simp) _ _, foldl_same (fun s => s.line) _ (by intros; simp) _ _, foldl_same (fun s => s.config) _ (by intros; simp) _ _, foldl_same (fun s => s.pins) _ (by intros; simp) _ _, foldl_same (fun s => s.pending) _ (by intros; simp) _ _⟩

@[simp] theorem State.verdict_frame (j c : Nat) (s : State) :
    (s.verdict j c).now = s.now ∧
    (s.verdict j c).phase = s.phase ∧
    (s.verdict j c).stations = s.stations ∧
    (s.verdict j c).cache = s.cache ∧
    (s.verdict j c).gathering = s.gathering ∧
    (s.verdict j c).carousel = s.carousel ∧
    (s.verdict j c).format = s.format ∧
    (s.verdict j c).miller = s.miller ∧
    (s.verdict j c).pot = s.pot ∧
    (s.verdict j c).glue = s.glue ∧
    (s.verdict j c).cover = s.cover ∧
    (s.verdict j c).trim = s.trim ∧
    (s.verdict j c).line = s.line ∧
    (s.verdict j c).config = s.config ∧
    (s.verdict j c).pins = s.pins ∧
    (s.verdict j c).pending = s.pending := by
  unfold State.verdict
  (try dsimp only)
  (repeat' split) <;> simp

end Sys2Proof.Machine
end

