-- ==== Sys2Proof/Laws/FramesLine.lean ====
section
/-!
SUPPORT. What each shared operation of the cache, the line, the trimmer and the pockets leaves alone.
-/

namespace Sys2Proof.Machine

@[simp] theorem State.failPending_frame (e : Fin 16) (s : State) :
    (s.failPending e).now = s.now ∧
    (s.failPending e).phase = s.phase ∧
    (s.failPending e).stations = s.stations ∧
    (s.failPending e).sched = s.sched ∧
    (s.failPending e).cache = s.cache ∧
    (s.failPending e).format = s.format ∧
    (s.failPending e).miller = s.miller ∧
    (s.failPending e).pot = s.pot ∧
    (s.failPending e).glue = s.glue ∧
    (s.failPending e).cover = s.cover ∧
    (s.failPending e).trim = s.trim ∧
    (s.failPending e).line = s.line ∧
    (s.failPending e).port = s.port ∧
    (s.failPending e).config = s.config ∧
    (s.failPending e).pins = s.pins ∧
    (s.failPending e).mem = s.mem ∧
    (s.failPending e).pending = s.pending := by
  simp [State.failPending]

@[simp] theorem State.formatPending_frame (e : Fin 16) (r : JobRecord) (s : State) :
    (s.formatPending e r).now = s.now ∧
    (s.formatPending e r).phase = s.phase ∧
    (s.formatPending e r).stations = s.stations ∧
    (s.formatPending e r).sched = s.sched ∧
    (s.formatPending e r).cache = s.cache ∧
    (s.formatPending e r).format = s.format ∧
    (s.formatPending e r).miller = s.miller ∧
    (s.formatPending e r).pot = s.pot ∧
    (s.formatPending e r).glue = s.glue ∧
    (s.formatPending e r).cover = s.cover ∧
    (s.formatPending e r).trim = s.trim ∧
    (s.formatPending e r).line = s.line ∧
    (s.formatPending e r).port = s.port ∧
    (s.formatPending e r).config = s.config ∧
    (s.formatPending e r).pins = s.pins ∧
    (s.formatPending e r).mem = s.mem ∧
    (s.formatPending e r).pending = s.pending := by
  simp [State.formatPending]

@[simp] theorem State.setFetch_frame (f : Option Fetch) (s : State) :
    (s.setFetch f).now = s.now ∧
    (s.setFetch f).phase = s.phase ∧
    (s.setFetch f).stations = s.stations ∧
    (s.setFetch f).sched = s.sched ∧
    (s.setFetch f).gathering = s.gathering ∧
    (s.setFetch f).carousel = s.carousel ∧
    (s.setFetch f).format = s.format ∧
    (s.setFetch f).miller = s.miller ∧
    (s.setFetch f).pot = s.pot ∧
    (s.setFetch f).glue = s.glue ∧
    (s.setFetch f).cover = s.cover ∧
    (s.setFetch f).trim = s.trim ∧
    (s.setFetch f).line = s.line ∧
    (s.setFetch f).port = s.port ∧
    (s.setFetch f).config = s.config ∧
    (s.setFetch f).pins = s.pins ∧
    (s.setFetch f).mem = s.mem ∧
    (s.setFetch f).pending = s.pending := by
  simp [State.setFetch]

@[simp] theorem State.completeValid_frame (f : Fetch) (r : JobRecord) (s : State) :
    (s.completeValid f r).now = s.now ∧
    (s.completeValid f r).phase = s.phase ∧
    (s.completeValid f r).stations = s.stations ∧
    (s.completeValid f r).sched = s.sched ∧
    (s.completeValid f r).format = s.format ∧
    (s.completeValid f r).miller = s.miller ∧
    (s.completeValid f r).pot = s.pot ∧
    (s.completeValid f r).glue = s.glue ∧
    (s.completeValid f r).cover = s.cover ∧
    (s.completeValid f r).trim = s.trim ∧
    (s.completeValid f r).line = s.line ∧
    (s.completeValid f r).port = s.port ∧
    (s.completeValid f r).config = s.config ∧
    (s.completeValid f r).pins = s.pins ∧
    (s.completeValid f r).pending = s.pending := by
  simp [State.completeValid]

@[simp] theorem State.completeInvalid_frame (f : Fetch) (c : Nat) (s : State) :
    (s.completeInvalid f c).now = s.now ∧
    (s.completeInvalid f c).phase = s.phase ∧
    (s.completeInvalid f c).stations = s.stations ∧
    (s.completeInvalid f c).format = s.format ∧
    (s.completeInvalid f c).miller = s.miller ∧
    (s.completeInvalid f c).pot = s.pot ∧
    (s.completeInvalid f c).glue = s.glue ∧
    (s.completeInvalid f c).cover = s.cover ∧
    (s.completeInvalid f c).trim = s.trim ∧
    (s.completeInvalid f c).line = s.line ∧
    (s.completeInvalid f c).config = s.config ∧
    (s.completeInvalid f c).pins = s.pins ∧
    (s.completeInvalid f c).pending = s.pending := by
  simp [State.completeInvalid]

@[simp] theorem State.completeFetch_frame (f : Fetch) (a : AttemptReads) (s : State) :
    (s.completeFetch f a).now = s.now ∧
    (s.completeFetch f a).phase = s.phase ∧
    (s.completeFetch f a).stations = s.stations ∧
    (s.completeFetch f a).format = s.format ∧
    (s.completeFetch f a).miller = s.miller ∧
    (s.completeFetch f a).pot = s.pot ∧
    (s.completeFetch f a).glue = s.glue ∧
    (s.completeFetch f a).cover = s.cover ∧
    (s.completeFetch f a).trim = s.trim ∧
    (s.completeFetch f a).line = s.line ∧
    (s.completeFetch f a).config = s.config ∧
    (s.completeFetch f a).pins = s.pins ∧
    (s.completeFetch f a).pending = s.pending := by
  unfold State.completeFetch
  dsimp only
  (repeat' split) <;> simp

@[simp] theorem State.endAttempt_frame (f : Fetch) (a : AttemptReads) (s : State) :
    (s.endAttempt f a).now = s.now ∧
    (s.endAttempt f a).phase = s.phase ∧
    (s.endAttempt f a).stations = s.stations ∧
    (s.endAttempt f a).format = s.format ∧
    (s.endAttempt f a).miller = s.miller ∧
    (s.endAttempt f a).pot = s.pot ∧
    (s.endAttempt f a).glue = s.glue ∧
    (s.endAttempt f a).cover = s.cover ∧
    (s.endAttempt f a).trim = s.trim ∧
    (s.endAttempt f a).line = s.line ∧
    (s.endAttempt f a).config = s.config ∧
    (s.endAttempt f a).pins = s.pins ∧
    (s.endAttempt f a).pending = s.pending := by
  unfold State.endAttempt
  (repeat' split) <;> simp

@[simp] theorem State.timeoutFetch_frame (f : Fetch) (s : State) :
    (s.timeoutFetch f).now = s.now ∧
    (s.timeoutFetch f).phase = s.phase ∧
    (s.timeoutFetch f).stations = s.stations ∧
    (s.timeoutFetch f).sched = s.sched ∧
    (s.timeoutFetch f).format = s.format ∧
    (s.timeoutFetch f).miller = s.miller ∧
    (s.timeoutFetch f).pot = s.pot ∧
    (s.timeoutFetch f).glue = s.glue ∧
    (s.timeoutFetch f).cover = s.cover ∧
    (s.timeoutFetch f).trim = s.trim ∧
    (s.timeoutFetch f).line = s.line ∧
    (s.timeoutFetch f).port = s.port ∧
    (s.timeoutFetch f).config = s.config ∧
    (s.timeoutFetch f).pins = s.pins ∧
    (s.timeoutFetch f).pending = s.pending := by
  simp [State.timeoutFetch]

@[simp] theorem State.purge_frame (s : State) :
    (s.purge).now = s.now ∧
    (s.purge).phase = s.phase ∧
    (s.purge).stations = s.stations ∧
    (s.purge).sched = s.sched ∧
    (s.purge).gathering = s.gathering ∧
    (s.purge).carousel = s.carousel ∧
    (s.purge).format = s.format ∧
    (s.purge).miller = s.miller ∧
    (s.purge).pot = s.pot ∧
    (s.purge).glue = s.glue ∧
    (s.purge).cover = s.cover ∧
    (s.purge).trim = s.trim ∧
    (s.purge).line = s.line ∧
    (s.purge).port = s.port ∧
    (s.purge).config = s.config ∧
    (s.purge).pins = s.pins ∧
    (s.purge).pending = s.pending := by
  simp [State.purge]

@[simp] theorem State.restStation_frame (w : Window) (s : State) :
    (s.restStation w).now = s.now ∧
    (s.restStation w).phase = s.phase ∧
    (s.restStation w).stations = s.stations ∧
    (s.restStation w).sched = s.sched ∧
    (s.restStation w).cache = s.cache ∧
    (s.restStation w).pot = s.pot ∧
    (s.restStation w).trim = s.trim ∧
    (s.restStation w).line = s.line ∧
    (s.restStation w).port = s.port ∧
    (s.restStation w).config = s.config ∧
    (s.restStation w).pins = s.pins ∧
    (s.restStation w).mem = s.mem ∧
    (s.restStation w).pending = s.pending := by
  cases w <;> simp [State.restStation]

@[simp] theorem State.disengage_frame (w : Window) (s : State) :
    (s.disengage w).now = s.now ∧
    (s.disengage w).phase = s.phase ∧
    (s.disengage w).sched = s.sched ∧
    (s.disengage w).cache = s.cache ∧
    (s.disengage w).pot = s.pot ∧
    (s.disengage w).trim = s.trim ∧
    (s.disengage w).line = s.line ∧
    (s.disengage w).port = s.port ∧
    (s.disengage w).config = s.config ∧
    (s.disengage w).pins = s.pins ∧
    (s.disengage w).mem = s.mem ∧
    (s.disengage w).pending = s.pending := by
  unfold State.disengage
  (repeat' split) <;> simp

@[simp] theorem State.disengageAll_frame (s : State) :
    (s.disengageAll).now = s.now ∧
    (s.disengageAll).phase = s.phase ∧
    (s.disengageAll).sched = s.sched ∧
    (s.disengageAll).cache = s.cache ∧
    (s.disengageAll).pot = s.pot ∧
    (s.disengageAll).trim = s.trim ∧
    (s.disengageAll).line = s.line ∧
    (s.disengageAll).port = s.port ∧
    (s.disengageAll).config = s.config ∧
    (s.disengageAll).pins = s.pins ∧
    (s.disengageAll).mem = s.mem ∧
    (s.disengageAll).pending = s.pending := by
  unfold State.disengageAll
  refine ⟨foldl_same (fun s => s.now) _ (by intros; simp) _ _, foldl_same (fun s => s.phase) _ (by intros; simp) _ _, foldl_same (fun s => s.sched) _ (by intros; simp) _ _, foldl_same (fun s => s.cache) _ (by intros; simp) _ _, foldl_same (fun s => s.pot) _ (by intros; simp) _ _, foldl_same (fun s => s.trim) _ (by intros; simp) _ _, foldl_same (fun s => s.line) _ (by intros; simp) _ _, foldl_same (fun s => s.port) _ (by intros; simp) _ _, foldl_same (fun s => s.config) _ (by intros; simp) _ _, foldl_same (fun s => s.pins) _ (by intros; simp) _ _, foldl_same (fun s => s.mem) _ (by intros; simp) _ _, foldl_same (fun s => s.pending) _ (by intros; simp) _ _⟩

@[simp] theorem State.millChangeover_frame (s : State) :
    (s.millChangeover).now = s.now ∧
    (s.millChangeover).phase = s.phase ∧
    (s.millChangeover).stations = s.stations ∧
    (s.millChangeover).sched = s.sched ∧
    (s.millChangeover).cache = s.cache ∧
    (s.millChangeover).gathering = s.gathering ∧
    (s.millChangeover).carousel = s.carousel ∧
    (s.millChangeover).format = s.format ∧
    (s.millChangeover).pot = s.pot ∧
    (s.millChangeover).glue = s.glue ∧
    (s.millChangeover).cover = s.cover ∧
    (s.millChangeover).trim = s.trim ∧
    (s.millChangeover).line = s.line ∧
    (s.millChangeover).port = s.port ∧
    (s.millChangeover).config = s.config ∧
    (s.millChangeover).pins = s.pins ∧
    (s.millChangeover).mem = s.mem ∧
    (s.millChangeover).pending = s.pending := by
  unfold State.millChangeover
  dsimp only
  (repeat' split) <;> simp

@[simp] theorem State.coverChangeover_frame (s : State) :
    (s.coverChangeover).now = s.now ∧
    (s.coverChangeover).phase = s.phase ∧
    (s.coverChangeover).stations = s.stations ∧
    (s.coverChangeover).sched = s.sched ∧
    (s.coverChangeover).cache = s.cache ∧
    (s.coverChangeover).gathering = s.gathering ∧
    (s.coverChangeover).carousel = s.carousel ∧
    (s.coverChangeover).format = s.format ∧
    (s.coverChangeover).miller = s.miller ∧
    (s.coverChangeover).pot = s.pot ∧
    (s.coverChangeover).glue = s.glue ∧
    (s.coverChangeover).trim = s.trim ∧
    (s.coverChangeover).line = s.line ∧
    (s.coverChangeover).port = s.port ∧
    (s.coverChangeover).config = s.config ∧
    (s.coverChangeover).pins = s.pins ∧
    (s.coverChangeover).mem = s.mem ∧
    (s.coverChangeover).pending = s.pending := by
  unfold State.coverChangeover
  dsimp only
  (repeat' split) <;> simp

@[simp] theorem State.takePending_frame (s : State) :
    (s.takePending).now = s.now ∧
    (s.takePending).phase = s.phase ∧
    (s.takePending).stations = s.stations ∧
    (s.takePending).sched = s.sched ∧
    (s.takePending).cache = s.cache ∧
    (s.takePending).gathering = s.gathering ∧
    (s.takePending).carousel = s.carousel ∧
    (s.takePending).format = s.format ∧
    (s.takePending).pot = s.pot ∧
    (s.takePending).glue = s.glue ∧
    (s.takePending).trim = s.trim ∧
    (s.takePending).line = s.line ∧
    (s.takePending).port = s.port ∧
    (s.takePending).config = s.config ∧
    (s.takePending).pins = s.pins ∧
    (s.takePending).mem = s.mem ∧
    (s.takePending).pending = s.pending := by
  unfold State.takePending
  dsimp only
  (repeat' split) <;> simp

@[simp] theorem State.recomputeComp_frame (s : State) :
    (s.recomputeComp).now = s.now ∧
    (s.recomputeComp).stations = s.stations ∧
    (s.recomputeComp).sched = s.sched ∧
    (s.recomputeComp).cache = s.cache ∧
    (s.recomputeComp).gathering = s.gathering ∧
    (s.recomputeComp).carousel = s.carousel ∧
    (s.recomputeComp).format = s.format ∧
    (s.recomputeComp).miller = s.miller ∧
    (s.recomputeComp).pot = s.pot ∧
    (s.recomputeComp).glue = s.glue ∧
    (s.recomputeComp).cover = s.cover ∧
    (s.recomputeComp).trim = s.trim ∧
    (s.recomputeComp).line = s.line ∧
    (s.recomputeComp).port = s.port ∧
    (s.recomputeComp).config = s.config ∧
    (s.recomputeComp).pins = s.pins ∧
    (s.recomputeComp).mem = s.mem ∧
    (s.recomputeComp).pending = s.pending := by
  simp [State.recomputeComp]

@[simp] theorem State.driveStart_frame (s : State) :
    (s.driveStart).now = s.now ∧
    (s.driveStart).stations = s.stations ∧
    (s.driveStart).sched = s.sched ∧
    (s.driveStart).cache = s.cache ∧
    (s.driveStart).gathering = s.gathering ∧
    (s.driveStart).carousel = s.carousel ∧
    (s.driveStart).format = s.format ∧
    (s.driveStart).miller = s.miller ∧
    (s.driveStart).pot = s.pot ∧
    (s.driveStart).glue = s.glue ∧
    (s.driveStart).cover = s.cover ∧
    (s.driveStart).trim = s.trim ∧
    (s.driveStart).line = s.line ∧
    (s.driveStart).port = s.port ∧
    (s.driveStart).config = s.config ∧
    (s.driveStart).pins = s.pins ∧
    (s.driveStart).mem = s.mem ∧
    (s.driveStart).pending = s.pending := by
  simp [State.driveStart]

@[simp] theorem State.changeDrive_frame (b m : LineMode) (s : State) :
    (s.changeDrive b m).now = s.now ∧
    (s.changeDrive b m).sched = s.sched ∧
    (s.changeDrive b m).cache = s.cache ∧
    (s.changeDrive b m).trim = s.trim ∧
    (s.changeDrive b m).port = s.port ∧
    (s.changeDrive b m).config = s.config ∧
    (s.changeDrive b m).pins = s.pins ∧
    (s.changeDrive b m).mem = s.mem ∧
    (s.changeDrive b m).pending = s.pending := by
  unfold State.changeDrive
  dsimp only
  (repeat' split) <;> simp

@[simp] theorem State.changeMode_frame (m : LineMode) (s : State) :
    (s.changeMode m).now = s.now ∧
    (s.changeMode m).sched = s.sched ∧
    (s.changeMode m).cache = s.cache ∧
    (s.changeMode m).trim = s.trim ∧
    (s.changeMode m).config = s.config ∧
    (s.changeMode m).pins = s.pins ∧
    (s.changeMode m).pending = s.pending := by
  unfold State.changeMode
  dsimp only
  (repeat' split) <;> simp

@[simp] theorem State.setCauses_frame (c : Causes) (s : State) :
    (s.setCauses c).now = s.now ∧
    (s.setCauses c).phase = s.phase ∧
    (s.setCauses c).stations = s.stations ∧
    (s.setCauses c).sched = s.sched ∧
    (s.setCauses c).cache = s.cache ∧
    (s.setCauses c).gathering = s.gathering ∧
    (s.setCauses c).carousel = s.carousel ∧
    (s.setCauses c).format = s.format ∧
    (s.setCauses c).miller = s.miller ∧
    (s.setCauses c).pot = s.pot ∧
    (s.setCauses c).glue = s.glue ∧
    (s.setCauses c).cover = s.cover ∧
    (s.setCauses c).trim = s.trim ∧
    (s.setCauses c).port = s.port ∧
    (s.setCauses c).config = s.config ∧
    (s.setCauses c).pins = s.pins ∧
    (s.setCauses c).pending = s.pending := by
  simp [State.setCauses]

@[simp] theorem State.enterHalt_frame (s : State) :
    (s.enterHalt).now = s.now ∧
    (s.enterHalt).sched = s.sched ∧
    (s.enterHalt).cache = s.cache ∧
    (s.enterHalt).trim = s.trim ∧
    (s.enterHalt).config = s.config ∧
    (s.enterHalt).pins = s.pins ∧
    (s.enterHalt).pending = s.pending := by
  simp [State.enterHalt]

@[simp] theorem State.raiseCause_frame (c : Cause) (s : State) :
    (s.raiseCause c).now = s.now ∧
    (s.raiseCause c).sched = s.sched ∧
    (s.raiseCause c).cache = s.cache ∧
    (s.raiseCause c).trim = s.trim ∧
    (s.raiseCause c).config = s.config ∧
    (s.raiseCause c).pins = s.pins ∧
    (s.raiseCause c).pending = s.pending := by
  unfold State.raiseCause
  dsimp only
  (repeat' split) <;> simp

@[simp] theorem State.clearCause_frame (c : Cause) (s : State) :
    (s.clearCause c).now = s.now ∧
    (s.clearCause c).phase = s.phase ∧
    (s.clearCause c).stations = s.stations ∧
    (s.clearCause c).sched = s.sched ∧
    (s.clearCause c).cache = s.cache ∧
    (s.clearCause c).gathering = s.gathering ∧
    (s.clearCause c).carousel = s.carousel ∧
    (s.clearCause c).format = s.format ∧
    (s.clearCause c).miller = s.miller ∧
    (s.clearCause c).pot = s.pot ∧
    (s.clearCause c).glue = s.glue ∧
    (s.clearCause c).cover = s.cover ∧
    (s.clearCause c).trim = s.trim ∧
    (s.clearCause c).port = s.port ∧
    (s.clearCause c).config = s.config ∧
    (s.clearCause c).pins = s.pins ∧
    (s.clearCause c).pending = s.pending := by
  unfold State.clearCause
  (repeat' split) <;> simp

@[simp] theorem State.emptyingCheck_frame (s : State) :
    (s.emptyingCheck).now = s.now ∧
    (s.emptyingCheck).sched = s.sched ∧
    (s.emptyingCheck).cache = s.cache ∧
    (s.emptyingCheck).trim = s.trim ∧
    (s.emptyingCheck).config = s.config ∧
    (s.emptyingCheck).pins = s.pins ∧
    (s.emptyingCheck).pending = s.pending := by
  unfold State.emptyingCheck
  (repeat' split) <;> simp

@[simp] theorem State.levelOne_frame (s : State) :
    (s.levelOne).now = s.now ∧
    (s.levelOne).sched = s.sched ∧
    (s.levelOne).cache = s.cache ∧
    (s.levelOne).trim = s.trim ∧
    (s.levelOne).config = s.config ∧
    (s.levelOne).pins = s.pins ∧
    (s.levelOne).pending = s.pending := by
  unfold State.levelOne
  (repeat' split) <;> simp

@[simp] theorem State.testTake_frame (s : State) :
    (s.testTake).now = s.now ∧
    (s.testTake).phase = s.phase ∧
    (s.testTake).stations = s.stations ∧
    (s.testTake).sched = s.sched ∧
    (s.testTake).cache = s.cache ∧
    (s.testTake).gathering = s.gathering ∧
    (s.testTake).carousel = s.carousel ∧
    (s.testTake).format = s.format ∧
    (s.testTake).miller = s.miller ∧
    (s.testTake).pot = s.pot ∧
    (s.testTake).glue = s.glue ∧
    (s.testTake).cover = s.cover ∧
    (s.testTake).line = s.line ∧
    (s.testTake).port = s.port ∧
    (s.testTake).config = s.config ∧
    (s.testTake).pins = s.pins ∧
    (s.testTake).mem = s.mem ∧
    (s.testTake).pending = s.pending := by
  unfold State.testTake
  (repeat' split) <;> simp

@[simp] theorem State.appendBook_frame (b : Book) (s : State) :
    (s.appendBook b).now = s.now ∧
    (s.appendBook b).phase = s.phase ∧
    (s.appendBook b).stations = s.stations ∧
    (s.appendBook b).sched = s.sched ∧
    (s.appendBook b).cache = s.cache ∧
    (s.appendBook b).gathering = s.gathering ∧
    (s.appendBook b).carousel = s.carousel ∧
    (s.appendBook b).format = s.format ∧
    (s.appendBook b).miller = s.miller ∧
    (s.appendBook b).pot = s.pot ∧
    (s.appendBook b).glue = s.glue ∧
    (s.appendBook b).cover = s.cover ∧
    (s.appendBook b).line = s.line ∧
    (s.appendBook b).port = s.port ∧
    (s.appendBook b).config = s.config ∧
    (s.appendBook b).pins = s.pins ∧
    (s.appendBook b).mem = s.mem ∧
    (s.appendBook b).pending = s.pending := by
  simp [State.appendBook]

@[simp] theorem State.postCut_frame (l : List Book) (s : State) :
    (s.postCut l).now = s.now ∧
    (s.postCut l).phase = s.phase ∧
    (s.postCut l).stations = s.stations ∧
    (s.postCut l).cache = s.cache ∧
    (s.postCut l).gathering = s.gathering ∧
    (s.postCut l).carousel = s.carousel ∧
    (s.postCut l).format = s.format ∧
    (s.postCut l).miller = s.miller ∧
    (s.postCut l).pot = s.pot ∧
    (s.postCut l).glue = s.glue ∧
    (s.postCut l).cover = s.cover ∧
    (s.postCut l).line = s.line ∧
    (s.postCut l).config = s.config ∧
    (s.postCut l).pins = s.pins ∧
    (s.postCut l).pending = s.pending := by
  induction l generalizing s with
  | nil => simp [State.postCut]
  | cons x l ih => simp [State.postCut, ih]

@[simp] theorem State.cutComplete_frame (s : State) :
    (s.cutComplete).now = s.now ∧
    (s.cutComplete).cache = s.cache ∧
    (s.cutComplete).config = s.config ∧
    (s.cutComplete).pins = s.pins ∧
    (s.cutComplete).pending = s.pending := by
  simp [State.cutComplete]

@[simp] theorem State.trimFault_frame (r : TrimReason) (s : State) :
    (s.trimFault r).now = s.now ∧
    (s.trimFault r).sched = s.sched ∧
    (s.trimFault r).cache = s.cache ∧
    (s.trimFault r).config = s.config ∧
    (s.trimFault r).pins = s.pins ∧
    (s.trimFault r).pending = s.pending := by
  simp [State.trimFault]

@[simp] theorem State.postAborted_frame (p : TrimPhase) (l : List Book) (s : State) :
    (s.postAborted p l).now = s.now ∧
    (s.postAborted p l).phase = s.phase ∧
    (s.postAborted p l).stations = s.stations ∧
    (s.postAborted p l).cache = s.cache ∧
    (s.postAborted p l).gathering = s.gathering ∧
    (s.postAborted p l).carousel = s.carousel ∧
    (s.postAborted p l).format = s.format ∧
    (s.postAborted p l).miller = s.miller ∧
    (s.postAborted p l).pot = s.pot ∧
    (s.postAborted p l).glue = s.glue ∧
    (s.postAborted p l).cover = s.cover ∧
    (s.postAborted p l).line = s.line ∧
    (s.postAborted p l).config = s.config ∧
    (s.postAborted p l).pins = s.pins ∧
    (s.postAborted p l).pending = s.pending := by
  induction l generalizing s with
  | nil => simp [State.postAborted]
  | cons x l ih => simp [State.postAborted, ih]

@[simp] theorem State.abortTrimmer_frame (s : State) :
    (s.abortTrimmer).now = s.now ∧
    (s.abortTrimmer).phase = s.phase ∧
    (s.abortTrimmer).stations = s.stations ∧
    (s.abortTrimmer).cache = s.cache ∧
    (s.abortTrimmer).gathering = s.gathering ∧
    (s.abortTrimmer).carousel = s.carousel ∧
    (s.abortTrimmer).format = s.format ∧
    (s.abortTrimmer).miller = s.miller ∧
    (s.abortTrimmer).pot = s.pot ∧
    (s.abortTrimmer).glue = s.glue ∧
    (s.abortTrimmer).cover = s.cover ∧
    (s.abortTrimmer).line = s.line ∧
    (s.abortTrimmer).config = s.config ∧
    (s.abortTrimmer).pins = s.pins ∧
    (s.abortTrimmer).pending = s.pending := by
  unfold State.abortTrimmer
  (repeat' split) <;> simp

@[simp] theorem State.afterReport_frame (s : State) :
    (s.afterReport).now = s.now ∧
    (s.afterReport).phase = s.phase ∧
    (s.afterReport).stations = s.stations ∧
    (s.afterReport).sched = s.sched ∧
    (s.afterReport).cache = s.cache ∧
    (s.afterReport).gathering = s.gathering ∧
    (s.afterReport).carousel = s.carousel ∧
    (s.afterReport).format = s.format ∧
    (s.afterReport).miller = s.miller ∧
    (s.afterReport).pot = s.pot ∧
    (s.afterReport).glue = s.glue ∧
    (s.afterReport).cover = s.cover ∧
    (s.afterReport).port = s.port ∧
    (s.afterReport).config = s.config ∧
    (s.afterReport).pins = s.pins ∧
    (s.afterReport).pending = s.pending := by
  unfold State.afterReport
  dsimp only
  (repeat' split) <;> simp

@[simp] theorem State.beamTop_frame (s : State) :
    (s.beamTop).now = s.now ∧
    (s.beamTop).cache = s.cache ∧
    (s.beamTop).config = s.config ∧
    (s.beamTop).pins = s.pins ∧
    (s.beamTop).pending = s.pending := by
  unfold State.beamTop
  dsimp only
  (repeat' split) <;> simp

@[simp] theorem State.usePoint_frame (p : Fin 18) (s : State) :
    (s.usePoint p).now = s.now ∧
    (s.usePoint p).phase = s.phase ∧
    (s.usePoint p).stations = s.stations ∧
    (s.usePoint p).sched = s.sched ∧
    (s.usePoint p).carousel = s.carousel ∧
    (s.usePoint p).format = s.format ∧
    (s.usePoint p).miller = s.miller ∧
    (s.usePoint p).pot = s.pot ∧
    (s.usePoint p).glue = s.glue ∧
    (s.usePoint p).cover = s.cover ∧
    (s.usePoint p).trim = s.trim ∧
    (s.usePoint p).line = s.line ∧
    (s.usePoint p).port = s.port ∧
    (s.usePoint p).config = s.config ∧
    (s.usePoint p).pins = s.pins ∧
    (s.usePoint p).pending = s.pending := by
  unfold State.usePoint
  (repeat' split) <;> simp

@[simp] theorem State.usePointClamp_frame (p : Fin 24) (s : State) :
    (s.usePointClamp p).now = s.now ∧
    (s.usePointClamp p).phase = s.phase ∧
    (s.usePointClamp p).stations = s.stations ∧
    (s.usePointClamp p).sched = s.sched ∧
    (s.usePointClamp p).format = s.format ∧
    (s.usePointClamp p).miller = s.miller ∧
    (s.usePointClamp p).pot = s.pot ∧
    (s.usePointClamp p).glue = s.glue ∧
    (s.usePointClamp p).cover = s.cover ∧
    (s.usePointClamp p).trim = s.trim ∧
    (s.usePointClamp p).line = s.line ∧
    (s.usePointClamp p).port = s.port ∧
    (s.usePointClamp p).config = s.config ∧
    (s.usePointClamp p).pins = s.pins ∧
    (s.usePointClamp p).pending = s.pending := by
  unfold State.usePointClamp
  (repeat' split) <;> simp

@[simp] theorem State.usePoints_frame (s : State) :
    (s.usePoints).now = s.now ∧
    (s.usePoints).phase = s.phase ∧
    (s.usePoints).stations = s.stations ∧
    (s.usePoints).sched = s.sched ∧
    (s.usePoints).format = s.format ∧
    (s.usePoints).miller = s.miller ∧
    (s.usePoints).pot = s.pot ∧
    (s.usePoints).glue = s.glue ∧
    (s.usePoints).cover = s.cover ∧
    (s.usePoints).trim = s.trim ∧
    (s.usePoints).line = s.line ∧
    (s.usePoints).port = s.port ∧
    (s.usePoints).config = s.config ∧
    (s.usePoints).pins = s.pins ∧
    (s.usePoints).pending = s.pending := by
  unfold State.usePoints
  refine ⟨(foldl_same (fun s => s.now) _ (by intros; simp) _ _).trans (foldl_same (fun s => s.now) _ (by intros; simp) _ _), (foldl_same (fun s => s.phase) _ (by intros; simp) _ _).trans (foldl_same (fun s => s.phase) _ (by intros; simp) _ _), (foldl_same (fun s => s.stations) _ (by intros; simp) _ _).trans (foldl_same (fun s => s.stations) _ (by intros; simp) _ _), (foldl_same (fun s => s.sched) _ (by intros; simp) _ _).trans (foldl_same (fun s => s.sched) _ (by intros; simp) _ _), (foldl_same (fun s => s.format) _ (by intros; simp) _ _).trans (foldl_same (fun s => s.format) _ (by intros; simp) _ _), (foldl_same (fun s => s.miller) _ (by intros; simp) _ _).trans (foldl_same (fun s => s.miller) _ (by intros; simp) _ _), (foldl_same (fun s => s.pot) _ (by intros; simp) _ _).trans (foldl_same (fun s => s.pot) _ (by intros; simp) _ _), (foldl_same (fun s => s.glue) _ (by intros; simp) _ _).trans (foldl_same (fun s => s.glue) _ (by intros; simp) _ _), (foldl_same (fun s => s.cover) _ (by intros; simp) _ _).trans (foldl_same (fun s => s.cover) _ (by intros; simp) _ _), (foldl_same (fun s => s.trim) _ (by intros; simp) _ _).trans (foldl_same (fun s => s.trim) _ (by intros; simp) _ _), (foldl_same (fun s => s.line) _ (by intros; simp) _ _).trans (foldl_same (fun s => s.line) _ (by intros; simp) _ _), (foldl_same (fun s => s.port) _ (by intros; simp) _ _).trans (foldl_same (fun s => s.port) _ (by intros; simp) _ _), (foldl_same (fun s => s.config) _ (by intros; simp) _ _).trans (foldl_same (fun s => s.config) _ (by intros; simp) _ _), (foldl_same (fun s => s.pins) _ (by intros; simp) _ _).trans (foldl_same (fun s => s.pins) _ (by intros; simp) _ _), (foldl_same (fun s => s.pending) _ (by intros; simp) _ _).trans (foldl_same (fun s => s.pending) _ (by intros; simp) _ _)⟩

@[simp] theorem State.feedAll_frame (s : State) :
    (s.feedAll).now = s.now ∧
    (s.feedAll).phase = s.phase ∧
    (s.feedAll).stations = s.stations ∧
    (s.feedAll).sched = s.sched ∧
    (s.feedAll).cache = s.cache ∧
    (s.feedAll).carousel = s.carousel ∧
    (s.feedAll).format = s.format ∧
    (s.feedAll).miller = s.miller ∧
    (s.feedAll).pot = s.pot ∧
    (s.feedAll).glue = s.glue ∧
    (s.feedAll).cover = s.cover ∧
    (s.feedAll).trim = s.trim ∧
    (s.feedAll).line = s.line ∧
    (s.feedAll).port = s.port ∧
    (s.feedAll).config = s.config ∧
    (s.feedAll).pins = s.pins ∧
    (s.feedAll).mem = s.mem ∧
    (s.feedAll).pending = s.pending := by
  simp [State.feedAll]

@[simp] theorem State.pocketVerdict_frame (io : CountInputs) (k : Fin 16) (s : State) :
    (s.pocketVerdict io k).now = s.now ∧
    (s.pocketVerdict io k).phase = s.phase ∧
    (s.pocketVerdict io k).stations = s.stations ∧
    (s.pocketVerdict io k).sched = s.sched ∧
    (s.pocketVerdict io k).cache = s.cache ∧
    (s.pocketVerdict io k).carousel = s.carousel ∧
    (s.pocketVerdict io k).format = s.format ∧
    (s.pocketVerdict io k).miller = s.miller ∧
    (s.pocketVerdict io k).pot = s.pot ∧
    (s.pocketVerdict io k).glue = s.glue ∧
    (s.pocketVerdict io k).cover = s.cover ∧
    (s.pocketVerdict io k).trim = s.trim ∧
    (s.pocketVerdict io k).line = s.line ∧
    (s.pocketVerdict io k).config = s.config ∧
    (s.pocketVerdict io k).pins = s.pins ∧
    (s.pocketVerdict io k).pending = s.pending := by
  unfold State.pocketVerdict
  dsimp only
  (repeat' split) <;> simp

@[simp] theorem State.pocketVerdicts_frame (io : CountInputs) (s : State) :
    (s.pocketVerdicts io).now = s.now ∧
    (s.pocketVerdicts io).phase = s.phase ∧
    (s.pocketVerdicts io).stations = s.stations ∧
    (s.pocketVerdicts io).sched = s.sched ∧
    (s.pocketVerdicts io).cache = s.cache ∧
    (s.pocketVerdicts io).carousel = s.carousel ∧
    (s.pocketVerdicts io).format = s.format ∧
    (s.pocketVerdicts io).miller = s.miller ∧
    (s.pocketVerdicts io).pot = s.pot ∧
    (s.pocketVerdicts io).glue = s.glue ∧
    (s.pocketVerdicts io).cover = s.cover ∧
    (s.pocketVerdicts io).trim = s.trim ∧
    (s.pocketVerdicts io).line = s.line ∧
    (s.pocketVerdicts io).config = s.config ∧
    (s.pocketVerdicts io).pins = s.pins ∧
    (s.pocketVerdicts io).pending = s.pending := by
  unfold State.pocketVerdicts
  refine ⟨foldl_same (fun s => s.now) _ (by intros; simp) _ _, foldl_same (fun s => s.phase) _ (by intros; simp) _ _, foldl_same (fun s => s.stations) _ (by intros; simp) _ _, foldl_same (fun s => s.sched) _ (by intros; simp) _ _, foldl_same (fun s => s.cache) _ (by intros; simp) _ _, foldl_same (fun s => s.carousel) _ (by intros; simp) _ _, foldl_same (fun s => s.format) _ (by intros; simp) _ _, foldl_same (fun s => s.miller) _ (by intros; simp) _ _, foldl_same (fun s => s.pot) _ (by intros; simp) _ _, foldl_same (fun s => s.glue) _ (by intros; simp) _ _, foldl_same (fun s => s.cover) _ (by intros; simp) _ _, foldl_same (fun s => s.trim) _ (by intros; simp) _ _, foldl_same (fun s => s.line) _ (by intros; simp) _ _, foldl_same (fun s => s.config) _ (by intros; simp) _ _, foldl_same (fun s => s.pins) _ (by intros; simp) _ _, foldl_same (fun s => s.pending) _ (by intros; simp) _ _⟩

@[simp] theorem State.loadTransfer_frame (s : State) :
    (s.loadTransfer).now = s.now ∧
    (s.loadTransfer).phase = s.phase ∧
    (s.loadTransfer).stations = s.stations ∧
    (s.loadTransfer).sched = s.sched ∧
    (s.loadTransfer).cache = s.cache ∧
    (s.loadTransfer).format = s.format ∧
    (s.loadTransfer).miller = s.miller ∧
    (s.loadTransfer).pot = s.pot ∧
    (s.loadTransfer).glue = s.glue ∧
    (s.loadTransfer).cover = s.cover ∧
    (s.loadTransfer).trim = s.trim ∧
    (s.loadTransfer).line = s.line ∧
    (s.loadTransfer).port = s.port ∧
    (s.loadTransfer).config = s.config ∧
    (s.loadTransfer).pins = s.pins ∧
    (s.loadTransfer).mem = s.mem ∧
    (s.loadTransfer).pending = s.pending := by
  unfold State.loadTransfer
  (repeat' split) <;> simp

end Sys2Proof.Machine
end

