-- ==== Sys2Proof/Laws/FramesPhase.lean ====
section
/-!
SUPPORT. What each shared operation of the stations and the Phase unit leaves alone.
-/

namespace Sys2Proof.Machine

@[simp] theorem State.serve_frame (w : Window) (s : State) :
    (s.serve w).now = s.now ∧
    (s.serve w).phase = s.phase ∧
    (s.serve w).sched = s.sched ∧
    (s.serve w).cache = s.cache ∧
    (s.serve w).gathering = s.gathering ∧
    (s.serve w).carousel = s.carousel ∧
    (s.serve w).format = s.format ∧
    (s.serve w).miller = s.miller ∧
    (s.serve w).pot = s.pot ∧
    (s.serve w).glue = s.glue ∧
    (s.serve w).cover = s.cover ∧
    (s.serve w).trim = s.trim ∧
    (s.serve w).line = s.line ∧
    (s.serve w).port = s.port ∧
    (s.serve w).config = s.config ∧
    (s.serve w).pins = s.pins ∧
    (s.serve w).mem = s.mem ∧
    (s.serve w).pending = s.pending := by
  simp [State.serve]

@[simp] theorem State.gaugeStart_frame (s : State) :
    (s.gaugeStart).now = s.now ∧
    (s.gaugeStart).phase = s.phase ∧
    (s.gaugeStart).sched = s.sched ∧
    (s.gaugeStart).cache = s.cache ∧
    (s.gaugeStart).gathering = s.gathering ∧
    (s.gaugeStart).carousel = s.carousel ∧
    (s.gaugeStart).miller = s.miller ∧
    (s.gaugeStart).pot = s.pot ∧
    (s.gaugeStart).glue = s.glue ∧
    (s.gaugeStart).cover = s.cover ∧
    (s.gaugeStart).trim = s.trim ∧
    (s.gaugeStart).line = s.line ∧
    (s.gaugeStart).port = s.port ∧
    (s.gaugeStart).config = s.config ∧
    (s.gaugeStart).pins = s.pins ∧
    (s.gaugeStart).mem = s.mem ∧
    (s.gaugeStart).pending = s.pending := by
  unfold State.gaugeStart
  (repeat' split) <;> simp

@[simp] theorem State.gaugeEnd_frame (s : State) :
    (s.gaugeEnd).now = s.now ∧
    (s.gaugeEnd).phase = s.phase ∧
    (s.gaugeEnd).stations = s.stations ∧
    (s.gaugeEnd).sched = s.sched ∧
    (s.gaugeEnd).gathering = s.gathering ∧
    (s.gaugeEnd).miller = s.miller ∧
    (s.gaugeEnd).pot = s.pot ∧
    (s.gaugeEnd).glue = s.glue ∧
    (s.gaugeEnd).cover = s.cover ∧
    (s.gaugeEnd).trim = s.trim ∧
    (s.gaugeEnd).line = s.line ∧
    (s.gaugeEnd).port = s.port ∧
    (s.gaugeEnd).config = s.config ∧
    (s.gaugeEnd).pins = s.pins ∧
    (s.gaugeEnd).pending = s.pending := by
  unfold State.gaugeEnd
  dsimp only
  (repeat' split) <;> simp

@[simp] theorem State.millStart_frame (s : State) :
    (s.millStart).now = s.now ∧
    (s.millStart).phase = s.phase ∧
    (s.millStart).sched = s.sched ∧
    (s.millStart).cache = s.cache ∧
    (s.millStart).gathering = s.gathering ∧
    (s.millStart).format = s.format ∧
    (s.millStart).pot = s.pot ∧
    (s.millStart).glue = s.glue ∧
    (s.millStart).cover = s.cover ∧
    (s.millStart).trim = s.trim ∧
    (s.millStart).line = s.line ∧
    (s.millStart).port = s.port ∧
    (s.millStart).config = s.config ∧
    (s.millStart).pins = s.pins ∧
    (s.millStart).mem = s.mem ∧
    (s.millStart).pending = s.pending := by
  unfold State.millStart
  dsimp only
  (repeat' split) <;> simp

@[simp] theorem State.judgeWear_frame (s : State) :
    (s.judgeWear).now = s.now ∧
    (s.judgeWear).phase = s.phase ∧
    (s.judgeWear).stations = s.stations ∧
    (s.judgeWear).sched = s.sched ∧
    (s.judgeWear).cache = s.cache ∧
    (s.judgeWear).gathering = s.gathering ∧
    (s.judgeWear).carousel = s.carousel ∧
    (s.judgeWear).format = s.format ∧
    (s.judgeWear).pot = s.pot ∧
    (s.judgeWear).glue = s.glue ∧
    (s.judgeWear).cover = s.cover ∧
    (s.judgeWear).trim = s.trim ∧
    (s.judgeWear).line = s.line ∧
    (s.judgeWear).config = s.config ∧
    (s.judgeWear).pins = s.pins ∧
    (s.judgeWear).pending = s.pending := by
  unfold State.judgeWear
  dsimp only
  (repeat' split) <;> simp

@[simp] theorem State.millEnd_frame (s : State) :
    (s.millEnd).now = s.now ∧
    (s.millEnd).phase = s.phase ∧
    (s.millEnd).stations = s.stations ∧
    (s.millEnd).sched = s.sched ∧
    (s.millEnd).cache = s.cache ∧
    (s.millEnd).gathering = s.gathering ∧
    (s.millEnd).carousel = s.carousel ∧
    (s.millEnd).format = s.format ∧
    (s.millEnd).pot = s.pot ∧
    (s.millEnd).glue = s.glue ∧
    (s.millEnd).cover = s.cover ∧
    (s.millEnd).trim = s.trim ∧
    (s.millEnd).line = s.line ∧
    (s.millEnd).config = s.config ∧
    (s.millEnd).pins = s.pins ∧
    (s.millEnd).pending = s.pending := by
  unfold State.millEnd
  dsimp only
  (repeat' split) <;> simp

@[simp] theorem State.spineStart_frame (s : State) :
    (s.spineStart).now = s.now ∧
    (s.spineStart).phase = s.phase ∧
    (s.spineStart).sched = s.sched ∧
    (s.spineStart).cache = s.cache ∧
    (s.spineStart).gathering = s.gathering ∧
    (s.spineStart).format = s.format ∧
    (s.spineStart).miller = s.miller ∧
    (s.spineStart).pot = s.pot ∧
    (s.spineStart).cover = s.cover ∧
    (s.spineStart).trim = s.trim ∧
    (s.spineStart).line = s.line ∧
    (s.spineStart).port = s.port ∧
    (s.spineStart).config = s.config ∧
    (s.spineStart).pins = s.pins ∧
    (s.spineStart).mem = s.mem ∧
    (s.spineStart).pending = s.pending := by
  unfold State.spineStart
  dsimp only
  (repeat' split) <;> simp

@[simp] theorem State.spineOpens_frame (s : State) :
    (s.spineOpens).now = s.now ∧
    (s.spineOpens).phase = s.phase ∧
    (s.spineOpens).stations = s.stations ∧
    (s.spineOpens).sched = s.sched ∧
    (s.spineOpens).cache = s.cache ∧
    (s.spineOpens).gathering = s.gathering ∧
    (s.spineOpens).carousel = s.carousel ∧
    (s.spineOpens).format = s.format ∧
    (s.spineOpens).miller = s.miller ∧
    (s.spineOpens).pot = s.pot ∧
    (s.spineOpens).cover = s.cover ∧
    (s.spineOpens).trim = s.trim ∧
    (s.spineOpens).line = s.line ∧
    (s.spineOpens).port = s.port ∧
    (s.spineOpens).config = s.config ∧
    (s.spineOpens).pins = s.pins ∧
    (s.spineOpens).mem = s.mem ∧
    (s.spineOpens).pending = s.pending := by
  simp [State.spineOpens]

@[simp] theorem State.spineCloses_frame (s : State) :
    (s.spineCloses).now = s.now ∧
    (s.spineCloses).phase = s.phase ∧
    (s.spineCloses).stations = s.stations ∧
    (s.spineCloses).sched = s.sched ∧
    (s.spineCloses).cache = s.cache ∧
    (s.spineCloses).gathering = s.gathering ∧
    (s.spineCloses).format = s.format ∧
    (s.spineCloses).miller = s.miller ∧
    (s.spineCloses).pot = s.pot ∧
    (s.spineCloses).cover = s.cover ∧
    (s.spineCloses).trim = s.trim ∧
    (s.spineCloses).line = s.line ∧
    (s.spineCloses).port = s.port ∧
    (s.spineCloses).config = s.config ∧
    (s.spineCloses).pins = s.pins ∧
    (s.spineCloses).mem = s.mem ∧
    (s.spineCloses).pending = s.pending := by
  simp [State.spineCloses]

@[simp] theorem State.spineEnd_frame (s : State) :
    (s.spineEnd).now = s.now ∧
    (s.spineEnd).phase = s.phase ∧
    (s.spineEnd).stations = s.stations ∧
    (s.spineEnd).sched = s.sched ∧
    (s.spineEnd).cache = s.cache ∧
    (s.spineEnd).gathering = s.gathering ∧
    (s.spineEnd).format = s.format ∧
    (s.spineEnd).miller = s.miller ∧
    (s.spineEnd).pot = s.pot ∧
    (s.spineEnd).cover = s.cover ∧
    (s.spineEnd).trim = s.trim ∧
    (s.spineEnd).line = s.line ∧
    (s.spineEnd).port = s.port ∧
    (s.spineEnd).config = s.config ∧
    (s.spineEnd).pins = s.pins ∧
    (s.spineEnd).mem = s.mem ∧
    (s.spineEnd).pending = s.pending := by
  unfold State.spineEnd
  dsimp only
  (repeat' split) <;> simp

@[simp] theorem State.sideStart_frame (s : State) :
    (s.sideStart).now = s.now ∧
    (s.sideStart).phase = s.phase ∧
    (s.sideStart).sched = s.sched ∧
    (s.sideStart).cache = s.cache ∧
    (s.sideStart).gathering = s.gathering ∧
    (s.sideStart).carousel = s.carousel ∧
    (s.sideStart).format = s.format ∧
    (s.sideStart).miller = s.miller ∧
    (s.sideStart).pot = s.pot ∧
    (s.sideStart).cover = s.cover ∧
    (s.sideStart).trim = s.trim ∧
    (s.sideStart).line = s.line ∧
    (s.sideStart).port = s.port ∧
    (s.sideStart).config = s.config ∧
    (s.sideStart).pins = s.pins ∧
    (s.sideStart).mem = s.mem ∧
    (s.sideStart).pending = s.pending := by
  unfold State.sideStart
  dsimp only
  (repeat' split) <;> simp

@[simp] theorem State.sideOpens_frame (s : State) :
    (s.sideOpens).now = s.now ∧
    (s.sideOpens).phase = s.phase ∧
    (s.sideOpens).stations = s.stations ∧
    (s.sideOpens).sched = s.sched ∧
    (s.sideOpens).cache = s.cache ∧
    (s.sideOpens).gathering = s.gathering ∧
    (s.sideOpens).carousel = s.carousel ∧
    (s.sideOpens).format = s.format ∧
    (s.sideOpens).miller = s.miller ∧
    (s.sideOpens).pot = s.pot ∧
    (s.sideOpens).cover = s.cover ∧
    (s.sideOpens).trim = s.trim ∧
    (s.sideOpens).line = s.line ∧
    (s.sideOpens).port = s.port ∧
    (s.sideOpens).config = s.config ∧
    (s.sideOpens).pins = s.pins ∧
    (s.sideOpens).mem = s.mem ∧
    (s.sideOpens).pending = s.pending := by
  simp [State.sideOpens]

@[simp] theorem State.sideCloses_frame (s : State) :
    (s.sideCloses).now = s.now ∧
    (s.sideCloses).phase = s.phase ∧
    (s.sideCloses).stations = s.stations ∧
    (s.sideCloses).sched = s.sched ∧
    (s.sideCloses).cache = s.cache ∧
    (s.sideCloses).gathering = s.gathering ∧
    (s.sideCloses).carousel = s.carousel ∧
    (s.sideCloses).format = s.format ∧
    (s.sideCloses).miller = s.miller ∧
    (s.sideCloses).pot = s.pot ∧
    (s.sideCloses).cover = s.cover ∧
    (s.sideCloses).trim = s.trim ∧
    (s.sideCloses).line = s.line ∧
    (s.sideCloses).port = s.port ∧
    (s.sideCloses).config = s.config ∧
    (s.sideCloses).pins = s.pins ∧
    (s.sideCloses).mem = s.mem ∧
    (s.sideCloses).pending = s.pending := by
  simp [State.sideCloses]

@[simp] theorem State.sideEnd_frame (s : State) :
    (s.sideEnd).now = s.now ∧
    (s.sideEnd).phase = s.phase ∧
    (s.sideEnd).stations = s.stations ∧
    (s.sideEnd).sched = s.sched ∧
    (s.sideEnd).cache = s.cache ∧
    (s.sideEnd).gathering = s.gathering ∧
    (s.sideEnd).carousel = s.carousel ∧
    (s.sideEnd).format = s.format ∧
    (s.sideEnd).miller = s.miller ∧
    (s.sideEnd).pot = s.pot ∧
    (s.sideEnd).cover = s.cover ∧
    (s.sideEnd).trim = s.trim ∧
    (s.sideEnd).line = s.line ∧
    (s.sideEnd).port = s.port ∧
    (s.sideEnd).config = s.config ∧
    (s.sideEnd).pins = s.pins ∧
    (s.sideEnd).mem = s.mem ∧
    (s.sideEnd).pending = s.pending := by
  simp [State.sideEnd]

@[simp] theorem State.feedCover_frame (l : LaunchFormat) (c : Option Word) (d : Bool) (b : Book) (s : State) :
    (s.feedCover l c d b).now = s.now ∧
    (s.feedCover l c d b).sched = s.sched ∧
    (s.feedCover l c d b).cache = s.cache ∧
    (s.feedCover l c d b).trim = s.trim ∧
    (s.feedCover l c d b).config = s.config ∧
    (s.feedCover l c d b).pins = s.pins ∧
    (s.feedCover l c d b).pending = s.pending := by
  unfold State.feedCover
  dsimp only
  (repeat' split) <;> simp

@[simp] theorem State.coverChecks_frame (l : LaunchFormat) (c : Option Word) (b : Book) (s : State) :
    (s.coverChecks l c b).now = s.now ∧
    (s.coverChecks l c b).sched = s.sched ∧
    (s.coverChecks l c b).cache = s.cache ∧
    (s.coverChecks l c b).trim = s.trim ∧
    (s.coverChecks l c b).config = s.config ∧
    (s.coverChecks l c b).pins = s.pins ∧
    (s.coverChecks l c b).pending = s.pending := by
  unfold State.coverChecks
  dsimp only
  (repeat' split) <;> simp

@[simp] theorem State.coverStart_frame (c : Option Word) (s : State) :
    (s.coverStart c).now = s.now ∧
    (s.coverStart c).sched = s.sched ∧
    (s.coverStart c).cache = s.cache ∧
    (s.coverStart c).trim = s.trim ∧
    (s.coverStart c).config = s.config ∧
    (s.coverStart c).pins = s.pins ∧
    (s.coverStart c).pending = s.pending := by
  unfold State.coverStart
  dsimp only
  (repeat' split) <;> simp

@[simp] theorem State.coverEnd_frame (s : State) :
    (s.coverEnd).now = s.now ∧
    (s.coverEnd).phase = s.phase ∧
    (s.coverEnd).stations = s.stations ∧
    (s.coverEnd).sched = s.sched ∧
    (s.coverEnd).cache = s.cache ∧
    (s.coverEnd).gathering = s.gathering ∧
    (s.coverEnd).format = s.format ∧
    (s.coverEnd).miller = s.miller ∧
    (s.coverEnd).pot = s.pot ∧
    (s.coverEnd).glue = s.glue ∧
    (s.coverEnd).trim = s.trim ∧
    (s.coverEnd).line = s.line ∧
    (s.coverEnd).port = s.port ∧
    (s.coverEnd).config = s.config ∧
    (s.coverEnd).pins = s.pins ∧
    (s.coverEnd).mem = s.mem ∧
    (s.coverEnd).pending = s.pending := by
  unfold State.coverEnd
  dsimp only
  (repeat' split) <;> simp

@[simp] theorem State.nipStart_frame (s : State) :
    (s.nipStart).now = s.now ∧
    (s.nipStart).phase = s.phase ∧
    (s.nipStart).sched = s.sched ∧
    (s.nipStart).cache = s.cache ∧
    (s.nipStart).gathering = s.gathering ∧
    (s.nipStart).carousel = s.carousel ∧
    (s.nipStart).format = s.format ∧
    (s.nipStart).miller = s.miller ∧
    (s.nipStart).pot = s.pot ∧
    (s.nipStart).glue = s.glue ∧
    (s.nipStart).trim = s.trim ∧
    (s.nipStart).line = s.line ∧
    (s.nipStart).port = s.port ∧
    (s.nipStart).config = s.config ∧
    (s.nipStart).pins = s.pins ∧
    (s.nipStart).mem = s.mem ∧
    (s.nipStart).pending = s.pending := by
  unfold State.nipStart
  (repeat' split) <;> simp

@[simp] theorem State.nipEnd_frame (s : State) :
    (s.nipEnd).now = s.now ∧
    (s.nipEnd).phase = s.phase ∧
    (s.nipEnd).stations = s.stations ∧
    (s.nipEnd).sched = s.sched ∧
    (s.nipEnd).cache = s.cache ∧
    (s.nipEnd).gathering = s.gathering ∧
    (s.nipEnd).format = s.format ∧
    (s.nipEnd).miller = s.miller ∧
    (s.nipEnd).pot = s.pot ∧
    (s.nipEnd).glue = s.glue ∧
    (s.nipEnd).trim = s.trim ∧
    (s.nipEnd).line = s.line ∧
    (s.nipEnd).port = s.port ∧
    (s.nipEnd).config = s.config ∧
    (s.nipEnd).pins = s.pins ∧
    (s.nipEnd).mem = s.mem ∧
    (s.nipEnd).pending = s.pending := by
  unfold State.nipEnd
  (repeat' split) <;> simp

@[simp] theorem State.openClamp_frame (g : Gate1) (s : State) :
    (s.openClamp g).now = s.now ∧
    (s.openClamp g).phase = s.phase ∧
    (s.openClamp g).stations = s.stations ∧
    (s.openClamp g).sched = s.sched ∧
    (s.openClamp g).cache = s.cache ∧
    (s.openClamp g).gathering = s.gathering ∧
    (s.openClamp g).format = s.format ∧
    (s.openClamp g).miller = s.miller ∧
    (s.openClamp g).pot = s.pot ∧
    (s.openClamp g).glue = s.glue ∧
    (s.openClamp g).cover = s.cover ∧
    (s.openClamp g).trim = s.trim ∧
    (s.openClamp g).line = s.line ∧
    (s.openClamp g).port = s.port ∧
    (s.openClamp g).config = s.config ∧
    (s.openClamp g).pins = s.pins ∧
    (s.openClamp g).mem = s.mem ∧
    (s.openClamp g).pending = s.pending := by
  simp [State.openClamp]

@[simp] theorem State.deliverEnd_frame (s : State) :
    (s.deliverEnd).now = s.now ∧
    (s.deliverEnd).phase = s.phase ∧
    (s.deliverEnd).stations = s.stations ∧
    (s.deliverEnd).cache = s.cache ∧
    (s.deliverEnd).gathering = s.gathering ∧
    (s.deliverEnd).format = s.format ∧
    (s.deliverEnd).miller = s.miller ∧
    (s.deliverEnd).pot = s.pot ∧
    (s.deliverEnd).glue = s.glue ∧
    (s.deliverEnd).cover = s.cover ∧
    (s.deliverEnd).line = s.line ∧
    (s.deliverEnd).config = s.config ∧
    (s.deliverEnd).pins = s.pins ∧
    (s.deliverEnd).pending = s.pending := by
  unfold State.deliverEnd
  (repeat' split) <;> simp

@[simp] theorem State.deliverUnserved_frame (s : State) :
    (s.deliverUnserved).now = s.now ∧
    (s.deliverUnserved).phase = s.phase ∧
    (s.deliverUnserved).stations = s.stations ∧
    (s.deliverUnserved).cache = s.cache ∧
    (s.deliverUnserved).gathering = s.gathering ∧
    (s.deliverUnserved).format = s.format ∧
    (s.deliverUnserved).miller = s.miller ∧
    (s.deliverUnserved).pot = s.pot ∧
    (s.deliverUnserved).glue = s.glue ∧
    (s.deliverUnserved).cover = s.cover ∧
    (s.deliverUnserved).trim = s.trim ∧
    (s.deliverUnserved).line = s.line ∧
    (s.deliverUnserved).config = s.config ∧
    (s.deliverUnserved).pins = s.pins ∧
    (s.deliverUnserved).pending = s.pending := by
  unfold State.deliverUnserved
  (repeat' split) <;> simp

@[simp] theorem State.startWork_frame (w : Window) (io : CountInputs) (s : State) :
    (s.startWork w io).now = s.now ∧
    (s.startWork w io).sched = s.sched ∧
    (s.startWork w io).cache = s.cache ∧
    (s.startWork w io).trim = s.trim ∧
    (s.startWork w io).config = s.config ∧
    (s.startWork w io).pins = s.pins ∧
    (s.startWork w io).pending = s.pending := by
  cases w <;> simp [State.startWork]

@[simp] theorem State.endWork_frame (w : Window) (io : CountInputs) (s : State) :
    (s.endWork w io).now = s.now ∧
    (s.endWork w io).phase = s.phase ∧
    (s.endWork w io).stations = s.stations ∧
    (s.endWork w io).pot = s.pot ∧
    (s.endWork w io).line = s.line ∧
    (s.endWork w io).config = s.config ∧
    (s.endWork w io).pins = s.pins ∧
    (s.endWork w io).pending = s.pending := by
  cases w <;> simp [State.endWork]

@[simp] theorem foldMark_frame (l : List (Fin 18)) (f : Fin 18 → Book → Book) (s : State) :
    (l.foldl (fun s p => s.modCell p (f p)) s).now = s.now ∧
    (l.foldl (fun s p => s.modCell p (f p)) s).phase = s.phase ∧
    (l.foldl (fun s p => s.modCell p (f p)) s).stations = s.stations ∧
    (l.foldl (fun s p => s.modCell p (f p)) s).sched = s.sched ∧
    (l.foldl (fun s p => s.modCell p (f p)) s).cache = s.cache ∧
    (l.foldl (fun s p => s.modCell p (f p)) s).carousel = s.carousel ∧
    (l.foldl (fun s p => s.modCell p (f p)) s).format = s.format ∧
    (l.foldl (fun s p => s.modCell p (f p)) s).miller = s.miller ∧
    (l.foldl (fun s p => s.modCell p (f p)) s).pot = s.pot ∧
    (l.foldl (fun s p => s.modCell p (f p)) s).glue = s.glue ∧
    (l.foldl (fun s p => s.modCell p (f p)) s).cover = s.cover ∧
    (l.foldl (fun s p => s.modCell p (f p)) s).trim = s.trim ∧
    (l.foldl (fun s p => s.modCell p (f p)) s).line = s.line ∧
    (l.foldl (fun s p => s.modCell p (f p)) s).port = s.port ∧
    (l.foldl (fun s p => s.modCell p (f p)) s).config = s.config ∧
    (l.foldl (fun s p => s.modCell p (f p)) s).pins = s.pins ∧
    (l.foldl (fun s p => s.modCell p (f p)) s).mem = s.mem ∧
    (l.foldl (fun s p => s.modCell p (f p)) s).pending = s.pending := by
  refine ⟨foldl_same (fun s => s.now) _ (by intros; simp) _ _, foldl_same (fun s => s.phase) _ (by intros; simp) _ _, foldl_same (fun s => s.stations) _ (by intros; simp) _ _, foldl_same (fun s => s.sched) _ (by intros; simp) _ _, foldl_same (fun s => s.cache) _ (by intros; simp) _ _, foldl_same (fun s => s.carousel) _ (by intros; simp) _ _, foldl_same (fun s => s.format) _ (by intros; simp) _ _, foldl_same (fun s => s.miller) _ (by intros; simp) _ _, foldl_same (fun s => s.pot) _ (by intros; simp) _ _, foldl_same (fun s => s.glue) _ (by intros; simp) _ _, foldl_same (fun s => s.cover) _ (by intros; simp) _ _, foldl_same (fun s => s.trim) _ (by intros; simp) _ _, foldl_same (fun s => s.line) _ (by intros; simp) _ _, foldl_same (fun s => s.port) _ (by intros; simp) _ _, foldl_same (fun s => s.config) _ (by intros; simp) _ _, foldl_same (fun s => s.pins) _ (by intros; simp) _ _, foldl_same (fun s => s.mem) _ (by intros; simp) _ _, foldl_same (fun s => s.pending) _ (by intros; simp) _ _⟩

@[simp] theorem State.unservedEnd_frame (w : Window) (s : State) :
    (s.unservedEnd w).now = s.now ∧
    (s.unservedEnd w).phase = s.phase ∧
    (s.unservedEnd w).stations = s.stations ∧
    (s.unservedEnd w).format = s.format ∧
    (s.unservedEnd w).miller = s.miller ∧
    (s.unservedEnd w).pot = s.pot ∧
    (s.unservedEnd w).glue = s.glue ∧
    (s.unservedEnd w).cover = s.cover ∧
    (s.unservedEnd w).trim = s.trim ∧
    (s.unservedEnd w).line = s.line ∧
    (s.unservedEnd w).config = s.config ∧
    (s.unservedEnd w).pins = s.pins ∧
    (s.unservedEnd w).pending = s.pending := by
  cases w <;> simp [State.unservedEnd, stationPosition]

@[simp] theorem State.changeover_frame (w : Window) (s : State) :
    (s.changeover w).now = s.now ∧
    (s.changeover w).phase = s.phase ∧
    (s.changeover w).stations = s.stations ∧
    (s.changeover w).sched = s.sched ∧
    (s.changeover w).cache = s.cache ∧
    (s.changeover w).gathering = s.gathering ∧
    (s.changeover w).carousel = s.carousel ∧
    (s.changeover w).format = s.format ∧
    (s.changeover w).pot = s.pot ∧
    (s.changeover w).glue = s.glue ∧
    (s.changeover w).trim = s.trim ∧
    (s.changeover w).line = s.line ∧
    (s.changeover w).port = s.port ∧
    (s.changeover w).config = s.config ∧
    (s.changeover w).pins = s.pins ∧
    (s.changeover w).mem = s.mem ∧
    (s.changeover w).pending = s.pending := by
  unfold State.changeover
  (repeat' split) <;> simp

@[simp] theorem State.leavePending_frame (w : Window) (s : State) :
    (s.leavePending w).now = s.now ∧
    (s.leavePending w).phase = s.phase ∧
    (s.leavePending w).stations = s.stations ∧
    (s.leavePending w).sched = s.sched ∧
    (s.leavePending w).cache = s.cache ∧
    (s.leavePending w).gathering = s.gathering ∧
    (s.leavePending w).carousel = s.carousel ∧
    (s.leavePending w).format = s.format ∧
    (s.leavePending w).pot = s.pot ∧
    (s.leavePending w).glue = s.glue ∧
    (s.leavePending w).trim = s.trim ∧
    (s.leavePending w).line = s.line ∧
    (s.leavePending w).port = s.port ∧
    (s.leavePending w).config = s.config ∧
    (s.leavePending w).pins = s.pins ∧
    (s.leavePending w).mem = s.mem ∧
    (s.leavePending w).pending = s.pending := by
  cases w <;> simp [State.leavePending]

@[simp] theorem State.windowStart_frame (w : Window) (io : CountInputs) (s : State) :
    (s.windowStart w io).now = s.now ∧
    (s.windowStart w io).config = s.config ∧
    (s.windowStart w io).pins = s.pins ∧
    (s.windowStart w io).pending = s.pending := by
  unfold State.windowStart
  dsimp only
  (repeat' split) <;> simp

@[simp] theorem State.windowEnd_frame (w : Window) (io : CountInputs) (s : State) :
    (s.windowEnd w io).now = s.now ∧
    (s.windowEnd w io).config = s.config ∧
    (s.windowEnd w io).pins = s.pins ∧
    (s.windowEnd w io).pending = s.pending := by
  unfold State.windowEnd
  dsimp only
  (repeat' split) <;> simp

@[simp] theorem State.dealUntakenAt_frame (w : Window) (s : State) :
    (s.dealUntakenAt w).now = s.now ∧
    (s.dealUntakenAt w).phase = s.phase ∧
    (s.dealUntakenAt w).pot = s.pot ∧
    (s.dealUntakenAt w).trim = s.trim ∧
    (s.dealUntakenAt w).line = s.line ∧
    (s.dealUntakenAt w).config = s.config ∧
    (s.dealUntakenAt w).pins = s.pins ∧
    (s.dealUntakenAt w).pending = s.pending := by
  unfold State.dealUntakenAt
  (repeat' split) <;> simp

@[simp] theorem State.dealUntaken_frame (s : State) :
    (s.dealUntaken).now = s.now ∧
    (s.dealUntaken).phase = s.phase ∧
    (s.dealUntaken).pot = s.pot ∧
    (s.dealUntaken).trim = s.trim ∧
    (s.dealUntaken).line = s.line ∧
    (s.dealUntaken).config = s.config ∧
    (s.dealUntaken).pins = s.pins ∧
    (s.dealUntaken).pending = s.pending := by
  unfold State.dealUntaken
  refine ⟨foldl_same (fun s => s.now) _ (by intros; simp) _ _, foldl_same (fun s => s.phase) _ (by intros; simp) _ _, foldl_same (fun s => s.pot) _ (by intros; simp) _ _, foldl_same (fun s => s.trim) _ (by intros; simp) _ _, foldl_same (fun s => s.line) _ (by intros; simp) _ _, foldl_same (fun s => s.config) _ (by intros; simp) _ _, foldl_same (fun s => s.pins) _ (by intros; simp) _ _, foldl_same (fun s => s.pending) _ (by intros; simp) _ _⟩

@[simp] theorem State.chainEnd_frame (s : State) :
    (s.chainEnd).now = s.now ∧
    (s.chainEnd).phase = s.phase ∧
    (s.chainEnd).stations = s.stations ∧
    (s.chainEnd).carousel = s.carousel ∧
    (s.chainEnd).format = s.format ∧
    (s.chainEnd).miller = s.miller ∧
    (s.chainEnd).pot = s.pot ∧
    (s.chainEnd).glue = s.glue ∧
    (s.chainEnd).cover = s.cover ∧
    (s.chainEnd).trim = s.trim ∧
    (s.chainEnd).line = s.line ∧
    (s.chainEnd).config = s.config ∧
    (s.chainEnd).pins = s.pins ∧
    (s.chainEnd).pending = s.pending := by
  unfold State.chainEnd
  (repeat' split) <;> simp

@[simp] theorem State.advance_frame (s : State) :
    (s.advance).now = s.now ∧
    (s.advance).phase = s.phase ∧
    (s.advance).stations = s.stations ∧
    (s.advance).sched = s.sched ∧
    (s.advance).cache = s.cache ∧
    (s.advance).format = s.format ∧
    (s.advance).miller = s.miller ∧
    (s.advance).pot = s.pot ∧
    (s.advance).glue = s.glue ∧
    (s.advance).cover = s.cover ∧
    (s.advance).trim = s.trim ∧
    (s.advance).line = s.line ∧
    (s.advance).port = s.port ∧
    (s.advance).config = s.config ∧
    (s.advance).pins = s.pins ∧
    (s.advance).mem = s.mem ∧
    (s.advance).pending = s.pending := by
  simp [State.advance]

@[simp] theorem State.cycleIndex_frame (s : State) :
    (s.cycleIndex).now = s.now ∧
    (s.cycleIndex).trim = s.trim ∧
    (s.cycleIndex).config = s.config ∧
    (s.cycleIndex).pins = s.pins ∧
    (s.cycleIndex).pending = s.pending := by
  simp [State.cycleIndex]

@[simp] theorem State.takeEvent_frame (io : CountInputs) (e : PhaseEvent) (s : State) :
    (s.takeEvent io e).now = s.now ∧
    (s.takeEvent io e).config = s.config ∧
    (s.takeEvent io e).pins = s.pins ∧
    (s.takeEvent io e).pending = s.pending := by
  cases e <;> simp [State.takeEvent]

@[simp] theorem State.eventAt_frame (p : Nat) (io : CountInputs) (s : State) (e : PhaseEvent) :
    (s.eventAt p io e).now = s.now ∧
    (s.eventAt p io e).config = s.config ∧
    (s.eventAt p io e).pins = s.pins ∧
    (s.eventAt p io e).pending = s.pending := by
  unfold State.eventAt
  (repeat' split) <;> simp

@[simp] theorem State.eventsAt_frame (p : Nat) (io : CountInputs) (s : State) :
    (s.eventsAt p io).now = s.now ∧
    (s.eventsAt p io).config = s.config ∧
    (s.eventsAt p io).pins = s.pins ∧
    (s.eventsAt p io).pending = s.pending := by
  unfold State.eventsAt
  refine ⟨foldl_same (fun s => s.now) _ (by intros; simp) _ _, foldl_same (fun s => s.config) _ (by intros; simp) _ _, foldl_same (fun s => s.pins) _ (by intros; simp) _ _, foldl_same (fun s => s.pending) _ (by intros; simp) _ _⟩

@[simp] theorem State.skippedAt_frame (p : Nat) (io : CountInputs) (s : State) :
    (s.skippedAt p io).now = s.now ∧
    (s.skippedAt p io).config = s.config ∧
    (s.skippedAt p io).pins = s.pins ∧
    (s.skippedAt p io).pending = s.pending := by
  unfold State.skippedAt
  refine ⟨foldl_same (fun s => s.now) _ (by intros; simp) _ _, foldl_same (fun s => s.config) _ (by intros; simp) _ _, foldl_same (fun s => s.pins) _ (by intros; simp) _ _, foldl_same (fun s => s.pending) _ (by intros; simp) _ _⟩

@[simp] theorem State.runSpan_frame (io : CountInputs) (n : Nat) (s : State) :
    (s.runSpan io n).now = s.now ∧
    (s.runSpan io n).config = s.config ∧
    (s.runSpan io n).pins = s.pins ∧
    (s.runSpan io n).pending = s.pending := by
  induction n generalizing s with
  | zero => simp [State.runSpan]
  | succ n ih => simp [State.runSpan, ih]

@[simp] theorem State.forwardCount_frame (io : CountInputs) (s : State) :
    (s.forwardCount io).now = s.now ∧
    (s.forwardCount io).config = s.config ∧
    (s.forwardCount io).pins = s.pins ∧
    (s.forwardCount io).pending = s.pending := by
  unfold State.forwardCount
  dsimp only
  (repeat' split) <;> simp

@[simp] theorem State.forcePhase_frame (io : CountInputs) (s : State) :
    (s.forcePhase io).now = s.now ∧
    (s.forcePhase io).config = s.config ∧
    (s.forcePhase io).pins = s.pins ∧
    (s.forcePhase io).pending = s.pending := by
  unfold State.forcePhase
  dsimp only
  (repeat' split) <;> simp

@[simp] theorem State.judgeJam_frame (d : Nat) (s : State) :
    (s.judgeJam d).now = s.now ∧
    (s.judgeJam d).sched = s.sched ∧
    (s.judgeJam d).cache = s.cache ∧
    (s.judgeJam d).trim = s.trim ∧
    (s.judgeJam d).config = s.config ∧
    (s.judgeJam d).pins = s.pins ∧
    (s.judgeJam d).pending = s.pending := by
  unfold State.judgeJam
  (repeat' split) <;> simp

@[simp] theorem State.synchronise_frame (s : State) :
    (s.synchronise).now = s.now ∧
    (s.synchronise).config = s.config ∧
    (s.synchronise).pins = s.pins ∧
    (s.synchronise).pending = s.pending := by
  simp [State.synchronise]

@[simp] theorem State.indexMark_frame (io : CountInputs) (s : State) :
    (s.indexMark io).now = s.now ∧
    (s.indexMark io).config = s.config ∧
    (s.indexMark io).pins = s.pins ∧
    (s.indexMark io).pending = s.pending := by
  unfold State.indexMark
  dsimp only
  (repeat' split) <;> simp

end Sys2Proof.Machine
end

