-- ==== Sys2Proof/Laws/Memory.lean ====
section
/-!
SUPPORT. The laws of the shared memory: what a read gives after a write, and that every write keeps the canonical form.
-/

namespace Sys2Proof.Machine

/-! ### Bytes -/

theorem Memory.read_erase (m : Memory) (a x : Nat) :
    (m.erase a).read x = if x = a then Memory.unlisted else m.read x := by
  induction m with
  | nil => simp [Memory.erase, Memory.read]
  | cons c m ih =>
    obtain ⟨k, v⟩ := c
    by_cases hk : k = a <;> by_cases hx : k = x <;> simp_all [Memory.erase, Memory.read]

theorem Memory.read_place (m : Memory) (a x : Nat) (b : Byte) (h : ∀ c ∈ m, c.1 ≠ a) :
    (m.place a b).read x = if x = a then b else m.read x := by
  induction m with
  | nil =>
    by_cases hx : x = a
    · simp [Memory.place, Memory.read, hx]
    · simp [Memory.place, Memory.read, hx, Ne.symm hx]
  | cons c m ih =>
    obtain ⟨k, v⟩ := c
    have hk : k ≠ a := h (k, v) (by simp)
    have ih := ih fun c hc => h c (by simp [hc])
    unfold Memory.place
    by_cases hlt : a < k
    · rw [if_pos hlt]
      by_cases hx : x = a
      · simp [Memory.read, hx]
      · simp [Memory.read, hx, Ne.symm hx]
    · rw [if_neg hlt]
      simp only [Memory.read, ih]
      by_cases hkx : k = x
      · subst hkx; simp [hk]
      · simp [hkx]

theorem Memory.erase_ne (m : Memory) (a : Nat) : ∀ c ∈ m.erase a, c.1 ≠ a := by
  induction m with
  | nil => simp [Memory.erase]
  | cons c m ih =>
    obtain ⟨k, v⟩ := c
    by_cases hk : k = a
    · simpa [Memory.erase, hk] using ih
    · simpa [Memory.erase, hk] using ih

/-- A byte read after a byte write. -/
theorem Memory.read_write (m : Memory) (a x : Nat) (b : Byte) :
    (m.write a b).read x = if x = a then b else m.read x := by
  unfold Memory.write
  split
  · rename_i h; rw [Memory.read_erase, h]
  · rw [Memory.read_place _ _ _ _ (m.erase_ne a), Memory.read_erase]
    split <;> rfl

@[simp] theorem Memory.read_write_same (m : Memory) (a : Nat) (b : Byte) : (m.write a b).read a = b := by
  rw [Memory.read_write, if_pos rfl]

theorem Memory.read_write_of_ne (m : Memory) {a x : Nat} (b : Byte) (h : x ≠ a) : (m.write a b).read x = m.read x := by
  rw [Memory.read_write, if_neg h]

/-! ### Words -/

/-- A byte read after a word write. -/
theorem Memory.read_writeWord (m : Memory) (a x : Nat) (w : Word) :
    (m.writeWord a w).read x = if a ≤ x ∧ x < a + 4 then wordByte w (x - a) else m.read x := by
  unfold Memory.writeWord
  simp only [Memory.read_write]
  by_cases h : a ≤ x ∧ x < a + 4
  · rw [if_pos h]
    have hx : x = a ∨ x = a + 1 ∨ x = a + 2 ∨ x = a + 3 := by omega
    rcases hx with rfl | rfl | rfl | rfl <;> simp
  · rw [if_neg h]
    have h3 : x ≠ a + 3 := by omega
    have h2 : x ≠ a + 2 := by omega
    have h1 : x ≠ a + 1 := by omega
    have h0 : x ≠ a := by omega
    simp [h0, h1, h2, h3]

theorem Memory.read_writeWord_outside (m : Memory) {a x : Nat} (w : Word) (h : x < a ∨ a + 4 ≤ x) :
    (m.writeWord a w).read x = m.read x := by
  rw [Memory.read_writeWord, if_neg (by omega)]

/-- The four bytes of a word, joined. -/
theorem joinBytes (w : Word) :
    (wordByte w 3 ++ wordByte w 2 ++ wordByte w 1 ++ wordByte w 0 : BitVec (8 + 8 + 8 + 8)) = w := by
  apply BitVec.eq_of_getLsbD_eq
  intro i hi
  simp only [wordByte, BitVec.getLsbD_append, BitVec.getLsbD_extractLsb']
  by_cases h0 : i < 8
  · simp [h0]
  · by_cases h1 : i - 8 < 8
    · simp [h0, h1]; congr 1; omega
    · by_cases h2 : i - 8 - 8 < 8
      · simp [h0, h1, h2]; congr 1; omega
      · have h3 : i - 8 - 8 - 8 < 8 := by omega
        simp [h0, h1, h2, h3]; congr 1; omega

/-- A word read after a word write at the same address. -/
@[simp] theorem Memory.readWord_writeWord_same (m : Memory) (a : Nat) (w : Word) : (m.writeWord a w).readWord a = w := by
  unfold Memory.readWord
  simp only [Memory.read_writeWord]
  simpa using joinBytes w

/-- A word read after a word write elsewhere. -/
theorem Memory.readWord_writeWord_of_ne (m : Memory) {a b : Nat} (w : Word) (h : b + 4 ≤ a ∨ a + 4 ≤ b) :
    (m.writeWord a w).readWord b = m.readWord b := by
  unfold Memory.readWord
  rw [Memory.read_writeWord_outside _ _ (by omega), Memory.read_writeWord_outside _ _ (by omega),
    Memory.read_writeWord_outside _ _ (by omega), Memory.read_writeWord_outside _ _ (by omega)]

/-- The words of a list of writes leave every byte outside them. -/
theorem Memory.read_writeWords_outside (l : List (Nat × Word)) (m : Memory) (x : Nat)
    (h : ∀ p ∈ l, x < p.1 ∨ p.1 + 4 ≤ x) : (m.writeWords l).read x = m.read x := by
  induction l generalizing m with
  | nil => rfl
  | cons p l ih =>
    have := ih (m.writeWord p.1 p.2) fun q hq => h q (by simp [hq])
    simp only [Memory.writeWords, List.foldl_cons] at this ⊢
    rw [this, Memory.read_writeWord_outside _ _ (h p (by simp))]

/-- Equal bytes make equal words. -/
theorem Memory.readWord_congr {m n : Memory} {a : Nat} (h : ∀ i, i < 4 → m.read (a + i) = n.read (a + i)) :
    m.readWord a = n.readWord a := by
  unfold Memory.readWord
  rw [h 3 (by omega), h 2 (by omega), h 1 (by omega), show m.read a = n.read a from h 0 (by omega)]

/-! ### The canonical form -/

theorem Memory.wfFrom_mono {m : Memory} {lo lo' : Nat} (h : Memory.wfFrom lo m = true) (hlo : lo' ≤ lo) :
    Memory.wfFrom lo' m = true := by
  cases m with
  | nil => rfl
  | cons d n =>
    obtain ⟨k, v⟩ := d
    simp only [Memory.wfFrom, Bool.and_eq_true, decide_eq_true_eq] at h ⊢
    exact ⟨⟨⟨by omega, h.1.1.2⟩, h.1.2⟩, h.2⟩

theorem Memory.wfFrom_erase (m : Memory) (a lo : Nat) (h : Memory.wfFrom lo m = true) :
    Memory.wfFrom lo (Memory.erase m a) = true := by
  induction m generalizing lo with
  | nil => rfl
  | cons c m ih =>
    obtain ⟨k, v⟩ := c
    simp only [Memory.wfFrom, Bool.and_eq_true, decide_eq_true_eq] at h
    obtain ⟨⟨⟨h1, h2⟩, h3⟩, h4⟩ := h
    by_cases hk : k = a
    · simpa [Memory.erase, hk] using Memory.wfFrom_mono (ih (k + 1) h4) (by omega)
    · simp only [Memory.erase, hk, if_false, Memory.wfFrom, Bool.and_eq_true, decide_eq_true_eq]
      exact ⟨⟨⟨h1, h2⟩, h3⟩, ih (k + 1) h4⟩

theorem Memory.wfFrom_place (m : Memory) (a lo : Nat) (b : Byte) (h : Memory.wfFrom lo m = true) (hn : ∀ c ∈ m, c.1 ≠ a)
    (hlo : lo ≤ a) (ha : a < Memory.size) (hb : b ≠ Memory.unlisted) : Memory.wfFrom lo (Memory.place m a b) = true := by
  induction m generalizing lo with
  | nil => simp [Memory.place, Memory.wfFrom, hlo, ha, hb]
  | cons c m ih =>
    obtain ⟨k, v⟩ := c
    have hk : k ≠ a := hn (k, v) (by simp)
    simp only [Memory.wfFrom, Bool.and_eq_true, decide_eq_true_eq] at h
    obtain ⟨⟨⟨h1, h2⟩, h3⟩, h4⟩ := h
    by_cases hlt : a < k
    · simp only [Memory.place, hlt, if_true, Memory.wfFrom, Bool.and_eq_true, decide_eq_true_eq]
      exact ⟨⟨⟨hlo, ha⟩, hb⟩, ⟨⟨by omega, h2⟩, h3⟩, h4⟩
    · simp only [Memory.place, hlt, if_false, Memory.wfFrom, Bool.and_eq_true, decide_eq_true_eq]
      exact ⟨⟨⟨h1, h2⟩, h3⟩, ih (k + 1) h4 (fun c hc => hn c (by simp [hc])) (by omega)⟩

/-- A byte write inside the memory keeps the canonical form. -/
theorem Memory.wf_write (m : Memory) (a : Nat) (b : Byte) (h : m.wf = true) (ha : a < Memory.size) :
    (m.write a b).wf = true := by
  unfold Memory.write Memory.wf
  split
  · exact Memory.wfFrom_erase m a 0 h
  · rename_i hb
    exact Memory.wfFrom_place _ a 0 b (Memory.wfFrom_erase m a 0 h) (m.erase_ne a) (by omega) ha hb

/-- A word write inside the memory keeps the canonical form. -/
theorem Memory.wf_writeWord (m : Memory) (a : Nat) (w : Word) (h : m.wf = true) (ha : a + 3 < Memory.size) :
    (m.writeWord a w).wf = true := by
  unfold Memory.writeWord
  exact Memory.wf_write _ _ _ (Memory.wf_write _ _ _ (Memory.wf_write _ _ _ (Memory.wf_write _ _ _ h (by omega))
    (by omega)) (by omega)) (by omega)

/-- Word writes inside the memory keep the canonical form. -/
theorem Memory.wf_writeWords (l : List (Nat × Word)) (m : Memory) (h : m.wf = true)
    (hl : ∀ p ∈ l, p.1 + 3 < Memory.size) : (m.writeWords l).wf = true := by
  induction l generalizing m with
  | nil => exact h
  | cons p l ih =>
    exact ih (m.writeWord p.1 p.2) (Memory.wf_writeWord m p.1 p.2 h (hl p (by simp))) fun q hq => hl q (by simp [hq])

/-! ### Canonical memories as data -/

theorem Memory.read_of_wfFrom {m : Memory} {lo a : Nat} (h : Memory.wfFrom lo m = true) (ha : a < lo) :
    m.read a = Memory.unlisted := by
  induction m generalizing lo with
  | nil => rfl
  | cons c m ih =>
    obtain ⟨k, v⟩ := c
    simp only [Memory.wfFrom, Bool.and_eq_true, decide_eq_true_eq] at h
    rw [Memory.read, if_neg (by omega), ih h.2 (by omega)]

/-- Canonical memories with the same bytes from a lowest address on are equal data. -/
theorem Memory.ext_of_wfFrom {m n : Memory} {lo : Nat} (hm : Memory.wfFrom lo m = true) (hn : Memory.wfFrom lo n = true)
    (h : ∀ a, m.read a = n.read a) : m = n := by
  induction m generalizing lo n with
  | nil =>
    cases n with
    | nil => rfl
    | cons c n =>
      simp only [Memory.wfFrom, Bool.and_eq_true, decide_eq_true_eq] at hn
      exact absurd (by simpa [Memory.read] using (h c.1).symm) hn.1.2
  | cons c m ih =>
    obtain ⟨k, v⟩ := c
    simp only [Memory.wfFrom, Bool.and_eq_true, decide_eq_true_eq] at hm
    have hk : Memory.read ((k, v) :: m) k = v := by simp [Memory.read]
    cases n with
    | nil => exact absurd (hk.symm.trans (h k)) hm.1.2
    | cons d n =>
      obtain ⟨l, w⟩ := d
      simp only [Memory.wfFrom, Bool.and_eq_true, decide_eq_true_eq] at hn
      have hl : Memory.read ((l, w) :: n) l = w := by simp [Memory.read]
      have kl : k = l := by
        rcases Nat.lt_trichotomy k l with g | g | g
        · refine absurd (hk.symm.trans ((h k).trans ?_)) hm.1.2
          rw [Memory.read, if_neg (by omega), Memory.read_of_wfFrom hn.2 (by omega)]
        · exact g
        · refine absurd (hl.symm.trans ((h l).symm.trans ?_)) hn.1.2
          rw [Memory.read, if_neg (by omega), Memory.read_of_wfFrom hm.2 (by omega)]
      subst kl
      have vw : v = w := hk.symm.trans ((h k).trans hl)
      rw [vw, ih hm.2 hn.2 fun a => ?_]
      by_cases ha : a = k
      · rw [Memory.read_of_wfFrom hm.2 (by omega), Memory.read_of_wfFrom hn.2 (by omega)]
      · simpa [Memory.read, Ne.symm ha] using h a

/-- Equal canonical memories are equal data. -/
theorem Memory.ext {m n : Memory} (hm : m.wf = true) (hn : n.wf = true) (h : ∀ a, m.read a = n.read a) : m = n :=
  Memory.ext_of_wfFrom hm hn h

/-- Byte `i` of the word read at an address. -/
theorem wordByte_readWord (m : Memory) (a : Nat) {i : Nat} (h : i < 4) : wordByte (m.readWord a) i = m.read (a + i) := by
  apply BitVec.eq_of_getLsbD_eq
  intro j hj
  obtain rfl | rfl | rfl | rfl : i = 0 ∨ i = 1 ∨ i = 2 ∨ i = 3 := by omega
  all_goals
    simp only [wordByte, Memory.readWord, BitVec.getLsbD_append, BitVec.getLsbD_extractLsb', hj, decide_true, Bool.true_and]
    simp only [show ¬ (8 * 1 + j < 8) by omega, show ¬ (8 * 2 + j < 8) by omega, show ¬ (8 * 3 + j < 8) by omega,
      show 8 * 0 + j < 8 by omega, show 8 * 1 + j - 8 < 8 by omega, show 8 * 2 + j - 8 - 8 < 8 by omega, if_true, if_false,
      show ¬ (8 * 2 + j - 8 < 8) by omega, show ¬ (8 * 3 + j - 8 < 8) by omega, show ¬ (8 * 3 + j - 8 - 8 < 8) by omega]
    congr 1
    omega

/-- A write of the word that stands leaves the memory as it is. -/
theorem Memory.writeWord_readWord {m : Memory} {a : Nat} (h : m.wf = true) (ha : a + 3 < Memory.size) :
    m.writeWord a (m.readWord a) = m := by
  refine Memory.ext (Memory.wf_writeWord m a _ h ha) h fun x => ?_
  rw [Memory.read_writeWord]
  split
  · obtain ⟨i, rfl⟩ : ∃ i, x = a + i := ⟨x - a, by omega⟩
    rw [Nat.add_sub_cancel_left, wordByte_readWord m a (by omega)]
  · rfl

end Sys2Proof.Machine
end

