-- ==== Sys2Proof/Laws/Effects.lean ====
section
/-!
SUPPORT. What the shared operations do: words and notices, cells, clamps and entries, the events of one value of the
counter, a change of the line mode, the changeovers and the take from the cooling queue.
-/

namespace Sys2Proof.Machine

/-! ### Words of the shared memory -/

theorem State.putWord_mem (a : Nat) (w : Word) (s : State) : (s.putWord a w).mem = s.mem.writeWord a w := rfl

theorem State.putWords_mem (l : List (Nat × Word)) (s : State) : (s.putWords l).mem = s.mem.writeWords l := by
  unfold State.putWords Memory.writeWords
  induction l generalizing s with
  | nil => rfl
  | cons p l ih => simp only [List.foldl_cons, ih, State.putWord_mem]

@[simp] theorem State.word_putWord_same (a : Nat) (w : Word) (s : State) : (s.putWord a w).word a = w := by
  simp [State.word, State.putWord_mem]

theorem State.word_putWord_of_ne {a b : Nat} (w : Word) (s : State) (h : b + 4 ≤ a ∨ a + 4 ≤ b) :
    (s.putWord a w).word b = s.word b := by
  simp only [State.word, State.putWord_mem, Memory.readWord_writeWord_of_ne _ w h]

/-- A word written: every byte outside it reads as before. -/
theorem State.putWord_bytes (a : Nat) (w : Word) (s : State) : BytesBut [a] s (s.putWord a w) := by
  intro x h
  rw [State.putWord_mem, Memory.read_writeWord_outside]
  exact h a (by simp)

theorem State.putWords_bytes (l : List (Nat × Word)) (s : State) : BytesBut (l.map (·.1)) s (s.putWords l) := by
  intro x h
  rw [State.putWords_mem, Memory.read_writeWords_outside]
  exact fun p hp => h p.1 (List.mem_map_of_mem hp)

theorem BytesBut.refl (ws : List Nat) (s : State) : BytesBut ws s s := fun _ _ => rfl

/-- Two changes one after the other write the words of both. -/
theorem BytesBut.trans {v w : List Nat} {s t u : State} (h : BytesBut v s t) (k : BytesBut w t u) :
    BytesBut (v ++ w) s u := by
  intro a ha
  rw [k a fun x hx => ha x (List.mem_append_right v hx), h a fun x hx => ha x (List.mem_append_left w hx)]

/-- A change that writes some words writes at most more of them. -/
theorem BytesBut.mono {v w : List Nat} {s t : State} (h : BytesBut v s t) (k : ∀ x ∈ v, x ∈ w) : BytesBut w s t :=
  fun a ha => h a fun x hx => ha x (k x hx)

/-- States with the same memory: every byte reads as before. -/
theorem BytesBut.of_mem {w : List Nat} {s t : State} (h : t.mem = s.mem) : BytesBut w s t := fun a _ => by rw [h]

theorem SameBut.refl (ps : List Part) (s : State) : SameBut ps s s := by
  intro p _; cases p <;> rfl

theorem SameBut.trans {v w : List Part} {s t u : State} (h : SameBut v s t) (k : SameBut w t u) : SameBut (v ++ w) s u := by
  intro p hp
  have h1 := h p fun x => hp (List.mem_append_left w x)
  have h2 := k p fun x => hp (List.mem_append_right v x)
  cases p <;> exact Eq.trans h2 h1

theorem SameBut.mono {v w : List Part} {s t : State} (h : SameBut v s t) (k : ∀ x ∈ v, x ∈ w) : SameBut w s t :=
  fun p hp => h p fun x => hp (k p x)

/-! ### Notices and the attention line (R177, R178) -/

/-- What one notice does: its count raised in the port and in the header, the line judged. -/
theorem State.notify_effect (c : Attention) (s : State) :
    (s.notify c).port.counts = s.port.counts.set c.number (s.port.counts[c.number] + 1) ∧
      (s.notify c).mem = s.mem.writeWord (Header.count c.number) (s.port.counts[c.number] + 1) ∧
      AttentionInv (s.notify c) ∧
      (s.notify c).port = { s.port with counts := (s.notify c).port.counts, attention := (s.notify c).port.attention } :=
  ⟨rfl, rfl, rfl, rfl⟩

theorem State.notify_bytes (c : Attention) (s : State) : BytesBut [Header.count c.number] s (s.notify c) :=
  fun x h => State.putWord_bytes (Header.count c.number) (s.port.counts[c.number] + 1) s x h

/-! ### The snapshot (R179) -/

/-- The snapshot writes its area and raises the sequence word by two. -/
theorem State.snapshot_effect (s : State) :
    s.snapshot.port = { s.port with snapSeq := s.port.snapSeq + 2 } ∧ s.snapshot.word Header.snapSeq = s.port.snapSeq + 2 ∧
      BytesBut snapshotArea s s.snapshot := by
  have e : s.port.snapSeq + 1 + 1 = s.port.snapSeq + 2 := by rw [BitVec.add_assoc]; rfl
  refine ⟨?_, ?_, ?_⟩
  · simp only [State.snapshot, State.updPort_port, State.putWord_frame, State.putWords_frame, e]
  · simp only [State.snapshot, State.word, State.updPort_mem, State.putWord_mem, Memory.readWord_writeWord_same, e]
  · have h := ((State.putWord_bytes Header.snapSeq (s.port.snapSeq + 1) s).trans
      (State.putWords_bytes s.snapshotWords (s.putWord Header.snapSeq (s.port.snapSeq + 1)))).trans
      (State.putWord_bytes Header.snapSeq (s.port.snapSeq + 1 + 1) _)
    refine BytesBut.mono (v := ([Header.snapSeq] ++ s.snapshotWords.map (·.1)) ++ [Header.snapSeq]) h ?_
    intro x hx
    simpa [snapshotArea, State.snapshotWords, or_comm, or_left_comm, or_assoc] using hx

/-! ### Cells, clamps and entries -/

theorem State.cell_setCell (p q : Fin 18) (x : Slot) (s : State) :
    (s.setCell p x).cell q = if q = p then x else s.cell q := by
  simp only [State.cell, State.setCell, State.updGathering_gathering, Fin.getElem_fin, Vector.getElem_set, Fin.val_inj, eq_comm]

theorem State.clampAt_setClamp (p q : Fin 24) (x : Slot) (s : State) :
    (s.setClamp p x).clampAt q = if q = p then x else s.clampAt q := by
  simp only [State.clampAt, State.setClamp, State.updCarousel_carousel, Fin.getElem_fin, Vector.getElem_set, Fin.val_inj,
    eq_comm (a := q)]
  split <;> rfl

theorem State.number_setClamp (p q : Fin 24) (x : Slot) (s : State) :
    (s.setClamp p x).carousel.places[q].number = s.carousel.places[q].number := by
  simp only [State.setClamp, State.updCarousel_carousel, Fin.getElem_fin, Vector.getElem_set]
  split
  · rename_i h; simp only [h]
  · rfl

/-! ### The events of one value of the counter (R7, R116) -/

/-- No event stands at a value: nothing is taken. -/
theorem State.eventsAt_none (p : Nat) (io : CountInputs) (s : State) (h : ∀ e, s.eventValue e ≠ some p) :
    s.eventsAt p io = s := by
  unfold State.eventsAt
  induction io.order ++ defaultOrder with
  | nil => rfl
  | cons e l ih => rw [List.foldl_cons, State.eventAt, if_neg (h e), ih]

theorem mem_defaultOrder (e : PhaseEvent) : e ∈ defaultOrder := by
  cases e with
  | opens w => cases w <;> decide
  | closes w => cases w <;> decide
  | _ => decide

/-- One event stands at a value and none after it: that event is taken, whatever the order. -/
theorem State.eventsAt_single (p : Nat) (io : CountInputs) (s : State) (e : PhaseEvent) (he : s.eventValue e = some p)
    (ho : ∀ f, f ≠ e → s.eventValue f ≠ some p) (ha : ∀ f, (s.takeEvent io e).eventValue f ≠ some p) :
    s.eventsAt p io = s.takeEvent io e := by
  have after : ∀ l : List PhaseEvent,
      l.foldl (fun s e => s.eventAt p io e) (s.takeEvent io e) = s.takeEvent io e := by
    intro l
    induction l with
    | nil => rfl
    | cons f l ih => rw [List.foldl_cons, State.eventAt, if_neg (ha f), ih]
  have all : ∀ l : List PhaseEvent, e ∈ l → l.foldl (fun s e => s.eventAt p io e) s = s.takeEvent io e := by
    intro l
    induction l with
    | nil => intro h; cases h
    | cons f l ih =>
      intro h
      rw [List.foldl_cons, State.eventAt]
      by_cases hf : f = e
      · subst hf; rw [if_pos he]; exact after l
      · rw [if_neg (ho f hf)]
        exact ih ((List.mem_cons.mp h).resolve_left fun x => hf x.symm)
  exact all _ (List.mem_append_right _ (mem_defaultOrder e))

/-! ### Changes of the line mode (R156) -/

/-- What a change of the line mode makes of the line. -/
theorem State.changeDrive_line (before m : LineMode) (s : State) :
    (s.changeDrive before m).line =
      { s.line with
        drive := if m.acting then (if before.acting then s.line.drive else .running) else .stopped
        reference :=
          if m.acting then (if before.acting then s.line.reference else some s.config.settings.speed) else none } := by
  unfold State.changeDrive
  cases m.acting <;> cases before.acting <;> simp <;> split <;> simp

@[simp] theorem LineMode.acting_cold : LineMode.cold.acting = false := rfl
@[simp] theorem LineMode.acting_warming : LineMode.warming.acting = false := rfl
@[simp] theorem LineMode.acting_ready : LineMode.ready.acting = false := rfl
@[simp] theorem LineMode.acting_running : LineMode.running.acting = true := rfl
@[simp] theorem LineMode.acting_emptying : LineMode.emptying.acting = true := rfl
@[simp] theorem LineMode.acting_setback : LineMode.setback.acting = false := rfl
@[simp] theorem LineMode.acting_halted : LineMode.halted.acting = false := rfl

theorem State.changeMode_line (m : LineMode) (s : State) :
    (s.changeMode m).line =
      { changeTimers s.now s.config.settings s.pot.inBand m s.line with
        drive := if m.acting then (if s.line.mode.acting then s.line.drive else .running) else .stopped
        reference :=
          if m.acting then (if s.line.mode.acting then s.line.reference else some s.config.settings.speed) else none } := by
  cases m <;> simp [State.changeMode, State.changeDrive_line, changeTimers]

/-- A change of the line mode keeps the memory but for the mode's words. -/
theorem State.changeMode_bytes (m : LineMode) (s : State) : BytesBut modeWords s (s.changeMode m) := by
  have h1 : BytesBut [Header.mode] s ((s.putNat Header.mode m.number).updLine
      (changeTimers s.now s.config.settings s.pot.inBand m)) := fun x h => State.putWord_bytes _ _ s x h
  have h2 : ∀ u : State, BytesBut [] u (u.changeDrive s.line.mode m) := fun u => BytesBut.of_mem (by simp)
  have h3 : ∀ u : State, BytesBut snapshotArea u (if m.acting then u else u.snapshot) := by
    intro u; split
    · exact BytesBut.refl _ u
    · exact u.snapshot_effect.2.2
  have h4 : ∀ u : State, BytesBut [Header.count 4] u (if m = .halted then u.notify .halted else u) := by
    intro u; split
    · exact u.notify_bytes .halted
    · exact BytesBut.refl _ u
  refine BytesBut.mono ((((h1.trans (h2 _)).trans (h3 _)).trans (State.notify_bytes .modeChanged _)).trans (h4 _)) ?_
  intro x hx
  simp only [modeWords, List.mem_append, List.mem_cons, List.not_mem_nil, or_false] at hx ⊢
  rcases hx with ((h | h) | h) | h
  · exact .inl h
  · exact .inr (.inr (.inr h))
  · exact .inr (.inl h)
  · exact .inr (.inr (.inl h))

/-! ### Halt causes (R161, R162) -/

theorem State.setCauses_effect (c : Causes) (s : State) :
    (s.setCauses c).line = { s.line with causes := c } ∧ (s.setCauses c).word Header.causes = c.word ∧
      BytesBut [Header.causes] s (s.setCauses c) :=
  ⟨rfl, State.word_putWord_same _ _ _, fun x h => State.putWord_bytes Header.causes c.word s x h⟩

/-- The line at a halt: HALTED, its start time, the causes as they were. -/
theorem State.enterHalt_effect (s : State) :
    s.enterHalt.line =
      { changeTimers s.now s.config.settings s.pot.inBand .halted s.line with
        haltStart := some s.now, drive := .stopped, reference := none } ∧
      BytesBut modeWords s s.enterHalt := by
  refine ⟨?_, fun x h => State.changeMode_bytes .halted _ x h⟩
  rw [State.enterHalt, State.changeMode_line]
  rfl

/-- A cause reported set: the causes after it, and the mode. -/
theorem State.raiseCause_effect (c : Cause) (s : State) :
    (s.raiseCause c).line.causes = (if s.line.causes.has c then s.line.causes else s.line.causes.put true c) ∧
      (s.raiseCause c).line.mode = (if s.line.mode.halts then .halted else s.line.mode) ∧
      BytesBut (Header.causes :: modeWords) s (s.raiseCause c) := by
  have h : ∀ u : State, (if u.line.mode.halts then u.enterHalt else u).line.causes = u.line.causes ∧
      (if u.line.mode.halts then u.enterHalt else u).line.mode = (if u.line.mode.halts then .halted else u.line.mode) ∧
      BytesBut modeWords u (if u.line.mode.halts then u.enterHalt else u) := by
    intro u
    split
    · exact ⟨by rw [u.enterHalt_effect.1]; rfl, by rw [u.enterHalt_effect.1]; rfl, u.enterHalt_effect.2⟩
    · exact ⟨rfl, rfl, BytesBut.refl _ u⟩
  unfold State.raiseCause
  split
  · exact ⟨(h s).1, (h s).2.1, (h s).2.2.mono fun x hx => List.mem_cons_of_mem _ hx⟩
  · have k := s.setCauses_effect (s.line.causes.put true c)
    refine ⟨?_, ?_, (k.2.2.trans (h _).2.2).mono fun x hx => by simpa using hx⟩
    · rw [(h _).1, k.1]
    · rw [(h _).2.1, k.1]

/-- A cause reported cleared: it goes, and the rest of the line stays. -/
theorem State.clearCause_effect (c : Cause) (s : State) :
    (s.clearCause c).line =
      { s.line with causes := if s.line.causes.has c then s.line.causes.put false c else s.line.causes } ∧
      BytesBut [Header.causes] s (s.clearCause c) := by
  unfold State.clearCause
  split
  · exact ⟨(s.setCauses_effect _).1, (s.setCauses_effect _).2.2⟩
  · exact ⟨rfl, BytesBut.refl _ s⟩

/-! ### Held tickets, the cursor and the remake list (R19, R33, R38) -/

/-- A held ticket changed: its held entry, and bytes of its own words only. -/
theorem State.changeTicket_effect (before after : HeldTicket) (s : State) :
    (s.changeTicket before after).sched = s.sched.put after ∧
      BytesBut ((changedFields before after).map (·.1)) s (s.changeTicket before after) := by
  refine ⟨by simp [State.changeTicket], ?_⟩
  intro x h
  exact State.putWords_bytes (changedFields before after) (s.updSched (Schedule.put after)) x h

theorem State.setCursor_effect (i : Nat) (s : State) :
    (s.setCursor i).sched = { s.sched with cursor := i } ∧ (s.setCursor i).word Header.cursor = BitVec.ofNat 32 i ∧
      BytesBut [Header.cursor] s (s.setCursor i) :=
  ⟨rfl, State.word_putWord_same _ _ _, fun x h => State.putWord_bytes Header.cursor (BitVec.ofNat 32 i) s x h⟩

theorem State.setRemakes_effect (l : List Nat) (s : State) :
    (s.setRemakes l).sched = { s.sched with remakes := l } ∧ BytesBut [Header.remakeLength] s (s.setRemakes l) := by
  unfold State.setRemakes
  dsimp only
  split
  · exact ⟨rfl, BytesBut.of_mem rfl⟩
  · exact ⟨rfl, fun x h => State.putWord_bytes Header.remakeLength _ s x h⟩

/-! ### The defect log (R148) -/

/-- One entry: its slot's words, its notice. -/
theorem State.logEntry_effect (b : Book) (e : LogEntry) (s : State) :
    (s.logEntry b e).port.counts = s.port.counts.set 2 (s.port.counts[(2 : Fin 8)] + 1) ∧ AttentionInv (s.logEntry b e) ∧
      BytesBut (logWordsAt s.port.counts[(2 : Fin 8)] ++ [Header.count 2]) s (s.logEntry b e) := by
  refine ⟨?_, (State.notify_effect .defectLogged _).2.2.1, ?_⟩
  · simp [State.logEntry, (State.notify_effect _ _).1, Attention.number]
  · unfold State.logEntry
    refine BytesBut.mono ((((State.putWord_bytes (logSlot s.port.counts[(2 : Fin 8)]) 0 s).trans
      (State.putWords_bytes ((logWords b e).mapIdx fun i w => (logSlot s.port.counts[(2 : Fin 8)] + 4 * (i + 1), w)) _)).trans
      (State.putWord_bytes (logSlot s.port.counts[(2 : Fin 8)]) (s.port.counts[(2 : Fin 8)] + 1) _)).trans
      (State.notify_bytes .defectLogged _)) ?_
    intro x hx
    simp only [logWords, List.mapIdx_cons, List.mapIdx_nil, List.map_cons, List.map_nil, List.mem_append, List.mem_cons,
      List.not_mem_nil, or_false] at hx
    simp only [logWordsAt, List.mem_append, List.mem_map, List.mem_range, List.mem_cons, List.not_mem_nil, or_false]
    rcases hx with ((h | h) | h) | h
    · exact .inl ⟨0, by omega, by omega⟩
    · rcases h with h | h | h | h | h | h | h
      · exact .inl ⟨1, by omega, by omega⟩
      · exact .inl ⟨2, by omega, by omega⟩
      · exact .inl ⟨3, by omega, by omega⟩
      · exact .inl ⟨4, by omega, by omega⟩
      · exact .inl ⟨5, by omega, by omega⟩
      · exact .inl ⟨6, by omega, by omega⟩
      · exact .inl ⟨7, by omega, by omega⟩
    · exact .inl ⟨0, by omega, by omega⟩
    · exact .inr h

/-! ### The command slot (R172) -/

/-- The answer of a command: result detail, result, DONE, the slot IDLE, one notice of COMMAND_DONE. -/
theorem State.slotDone_effect (r : Reply) (s : State) :
    Answered (s.slotDone r) r.result r.detail ∧ AttentionInv (s.slotDone r) ∧
      (s.slotDone r).port.counts = s.port.counts.set 0 (s.port.counts[(0 : Fin 8)] + 1) ∧
      BytesBut [Header.resultDetail, Header.result, Header.commandState, Header.count 0] s (s.slotDone r) := by
  have hc : ∀ a, a + 4 ≤ Header.count 0 → ∀ u : State, (u.notify .commandDone).word a = u.word a := by
    intro a ha u
    simp only [State.word, (State.notify_effect .commandDone u).2.1]
    exact Memory.readWord_writeWord_of_ne _ _ (.inl ha)
  refine ⟨⟨?_, ?_, ?_, ?_⟩, (State.notify_effect .commandDone _).2.2.1, ?_, ?_⟩
  · rw [State.slotDone, hc _ (by decide)]
    simp only [State.word, State.updPort_mem, State.putNat, State.putWord_mem]
    rw [Memory.readWord_writeWord_of_ne _ _ (by decide), Memory.readWord_writeWord_of_ne _ _ (by decide),
      Memory.readWord_writeWord_same]
  · rw [State.slotDone, hc _ (by decide)]
    simp only [State.word, State.updPort_mem, State.putNat, State.putWord_mem]
    rw [Memory.readWord_writeWord_of_ne _ _ (by decide), Memory.readWord_writeWord_same]
  · rw [State.slotDone, hc _ (by decide)]
    simp only [State.word, State.updPort_mem, State.putNat, State.putWord_mem, Memory.readWord_writeWord_same]
  · rfl
  · simp [State.slotDone, (State.notify_effect _ _).1, Attention.number]
  · exact BytesBut.mono ((((State.putWord_bytes Header.resultDetail r.detail s).trans
      (State.putWord_bytes Header.result (BitVec.ofNat 32 r.result.number) _)).trans
      (State.putWord_bytes Header.commandState 3 _)).trans fun x h => State.notify_bytes .commandDone _ x h)
      fun x hx => by simpa [Attention.number] using hx

/-! ### What a fetch reads: the magazine and the stock copies -/

theorem JobRecord.mag_of_zero {r : JobRecord} (h : r.magazine = 0) : r.mag = .a := if_pos h

theorem JobRecord.mag_of_one {r : JobRecord} (h : r.magazine = 1) : r.mag = .b := by simp [JobRecord.mag, h]

theorem copiedCaliper_le (n : Nat) : copiedCaliper n ≤ 400 := by unfold copiedCaliper; split <;> omega

theorem copiedCaliper_of_range {n : Nat} (lo : 40 ≤ n) (hi : n ≤ 400) : copiedCaliper n = n := if_pos ⟨lo, hi⟩

theorem copiedCompression_le (n : Nat) : copiedCompression n ≤ 1000 := by unfold copiedCompression; split <;> omega

theorem copiedCompression_of_range {n : Nat} (lo : 850 ≤ n) (hi : n ≤ 1000) : copiedCompression n = n := if_pos ⟨lo, hi⟩

/-- Whatever the words read, a stock copy stays within the bounds of R103. -/
theorem StockCopy.ofWords_bounds (mark caliper compression : Word) :
    (StockCopy.ofWords mark caliper compression).caliper ≤ 400 ∧
      (StockCopy.ofWords mark caliper compression).compression ≤ 1000 :=
  ⟨copiedCaliper_le _, copiedCompression_le _⟩

/-! ### Changeovers and the take -/

theorem Drive.toward_none {α : Type} [DecidableEq α] (d : Drive α) : d.toward none = d := rfl

/-- A changeover with a target is a command to the drive (R105, R121). -/
theorem Drive.toward_some {α : Type} [DecidableEq α] (d : Drive α) (k : α) : d.toward (some k) = d.command k := by
  unfold Drive.toward Drive.command
  cases h : d.target <;> simp

theorem Slot.goodValues_eq (x : Slot) : x.goodValues = x.goodFormat := by
  cases x with
  | holding b => cases h : b.spoil <;> simp [Slot.goodValues, Slot.goodFormat, Book.good, h]
  | _ => rfl

/-- What the miller's changeover does (R16, R105). -/
theorem State.millChangeover_effect (s : State) :
    s.millChangeover =
      { s with miller :=
          { s.miller with
            pending := false, drive := s.miller.drive.toward ((s.clampAt 3).goodValues.map (·.millDepth)) } } := by
  rw [Slot.goodValues_eq]
  unfold State.millChangeover
  cases h : (s.clampAt 3).goodFormat with
  | none => rfl
  | some g => simp [Drive.toward_some, State.updMiller]

/-- What the scorer's changeover does (R16, R121). -/
theorem State.coverChangeover_effect (s : State) :
    s.coverChangeover =
      { s with cover :=
          { s.cover with
            pending := false
            scorer := s.cover.scorer.toward ((s.clampAt 8).goodValues.bind fun g => g.cover.map (·.scores)) } } := by
  rw [Slot.goodValues_eq]
  unfold State.coverChangeover
  cases h : (s.clampAt 8).goodFormat with
  | none => rfl
  | some g => cases k : g.cover <;> simp [Drive.toward_some, Drive.toward_none, State.updCover, k]

/-- The pending changeovers set out, and nothing else changes (R16). -/
theorem State.takePending_effect (s : State) : PendingTaken s s.takePending ∧ SameBut [.miller, .cover] s s.takePending := by
  have cells : ∀ m c, { s with miller := m, cover := c }.clampAt 8 = s.clampAt 8 := fun _ _ => rfl
  unfold State.takePending PendingTaken
  simp only [State.millChangeover_effect, State.coverChangeover_effect]
  refine ⟨?_, fun p hp => ?_⟩
  · split <;> split <;> simp_all
  · split <;> split <;> cases p <;> first | rfl | simp at hp

/-- What a take makes of a trimmer whose queue has a head with values (R132 to R134, R137, R142). -/
theorem Trimmer.takeFrom_effect (now : Nat) (c : Settings) (e : QueueEntry) (rest : List QueueEntry) (g : GaugeFormat)
    (u : Trimmer) (hq : u.queue = e :: rest) (hg : e.book.gauged = some g) :
    Taken now c e rest g u (u.takeFrom now c g.knives) := by
  intro two h
  have knives : ∀ a b : KnifeSet, a = b ↔ a.front = b.front ∧ a.head = b.head ∧ a.foot = b.foot := fun a b => by
    cases a; cases b; simp
  have warned : ∀ b : Book, b.warned = false ↔ b.warnings = ⟨false, false, false⟩ := fun b => by
    unfold Book.warned; cases b.warnings; simp [and_assoc]
  have count : takeCount c u.queue = if two then 2 else 1 := by
    rw [hq]
    cases rest with
    | nil => simp [takeCount, h]
    | cons e2 r =>
      have : pairable c e.book e2.book e2.eligible = two := by
        cases k : e2.book.gauged with
        | none => simp [pairable, hg, k, h]
        | some g2 =>
          rw [h, Bool.eq_iff_iff]
          simp [pairable, hg, k, knives, warned, and_assoc]
      simp [takeCount, this]
  unfold Trimmer.takeFrom Drive.take Drive.standsAt
  simp only [count]
  refine ⟨?_, ?_⟩
  · cases two <;> cases rest <;> simp only [hq] <;> split <;> rfl
  · cases t : u.knives.target with
    | none => by_cases k : u.knives.setting = some g.knives <;> simp [k, Trimmer.cutting, positioningLimit]
    | some m => by_cases k : m = g.knives <;> simp [k, positioningLimit]

/-- Where nothing lets the trimmer take, the test for a take changes nothing (R132). -/
theorem State.testTake_of_noTake (s : State) (h : NoTake s s.trim.queue) : s.testTake = s := by
  unfold State.testTake
  split
  · rfl
  · rename_i e rest hq
    rw [if_neg fun k => ?_]
    simp_all [NoTake, Causes.guarded]

/-! ### Host writes and arrivals -/

/-- A host write of a header word starts no log entry of a reading (R170). -/
theorem State.hostWrite_header {a : Nat} (w : Word) (s : State) (h : a < 0x0200) : s.hostWrite a w = s.putWord a w := by
  have log : logWrite s.mem a = id := by
    funext l; simp [logWrite, Nat.not_le.mpr h]
  unfold State.hostWrite
  cases k : s.cache.fetch with
  | none =>
    simp only [log, State.updCache, State.updPort, k, Option.map_none, Option.map_id, id_eq]
    rw [← k]
  | some v =>
    obtain ⟨j, t, b, u, l⟩ := v
    simp only [log, State.updCache, State.updPort, k, Option.map_some, Option.map_id, id_eq, ite_self]
    rw [← k]

/-- While the slot is TAKEN an arrival is ignored (R172). -/
theorem State.arrival_of_taken (code arg1 : Word) (s : State) (h : s.port.taken = true) : s.arrival code arg1 = s := if_pos h

end Sys2Proof.Machine
end

