-- ==== Sys2Proof/Tests/Slice0.lean ====
section
/-!
SUPPORT. Tests on single steps, with expected values from the worked cases and tables of the spec; the smoke test of
WellFormed; and for each statement that has hypotheses a witness that meets them.
-/

namespace Sys2Proof.Tests
open Sys2Proof.Machine

-- The tests are elaborated one after another: side by side their threads' stacks pass the memory limit of the check.
set_option Elab.async false

/-! ### Helpers -/

/-- Whether a command answers a next state with a property. -/
def answers (c : Instr) (s : State) (p : State → Bool) : Bool :=
  match exec c s with
  | .next t => p t
  | _ => false

/-- The job of the worked case of chapter 6. -/
def job : JobRecord where
  defined := true
  editCount := 2
  titleCode := 5
  sigCount := 5
  sigs := [⟨1, 16, 3, false, 0x00050001⟩, ⟨2, 16, 3, false, 0x00050002⟩, ⟨3, 16, 3, false, 0x00050003⟩,
    ⟨4, 16, 3, false, 0x00050004⟩, ⟨6, 8, 7, true, 0⟩]
  coverMode := 1
  magazine := 0
  coverTitle := 5
  coverWidth := 311000
  allowance := 400
  designSpine := 7000
  driftLimit := 1000
  hinge := 6000
  height := 216000
  width := 156000
  millDepth := 2500
  finalHeight := 210000
  finalWidth := 148000
  headTrim := 3000
  tolerance := 30
  glueMargin := 5000
  flowFactor := 12
  setTime := 1500
  twoUp := true
  tolerateNoread := false

/-- The stock entries of the worked case: caliper 90 and 120, compression 960 and 940. -/
def stock (c : Nat) : Option StockCopy :=
  if c = 3 then some ⟨true, 90, 960⟩ else if c = 7 then some ⟨true, 120, 940⟩ else none

/-- A book of the worked case at its launch. -/
def fresh : Book where
  serial := 501
  ticket := 0
  job := 5
  kind := .first
  format := .present
  entry := some 0
  mask := 0
  spoil := none
  warnings := ⟨false, false, false⟩
  clamp := none
  glued := false
  covered := false
  nipped := false
  atLaunch := some (launchFormat job 0 stock)
  conversions := none
  gauged := none

/-- The values the worked case forms for it. -/
def format : GaugeFormat := gaugeFormat Settings.defaults job .title 6625

/-- The book after its GAUGE end, in clamp 9. -/
def book : Book := { fresh with entry := none, clamp := some 9, conversions := some 4, gauged := some format }

/-- A PERSONAL book. -/
def personal : Book := { book with atLaunch := some { launchFormat job 7 stock with mode := .personal } }

/-- Its ticket: five copies, three launched. -/
def ticket : HeldTicket where
  index := 0
  job := 5
  qty := 5
  remakeLimit := 2
  personal := 0
  mode := .title
  stage := .active
  launched := 3
  made := 0
  spoiled := 0
  remade := 0
  short := 0
  lastDefect := 0
  firstSerial := 1
  lastSerial := 500
  stop := .noStop

/-- A synchronised line in a mode, every window's marks taken, its ticket held and its job cached at entry 0. -/
def line (m : LineMode) : State :=
  { State.reset with
    phase := { State.reset.phase with synced := true, counter := 2000, startTaken := allWindows, endTaken := allWindows }
    line := { State.reset.line with
      mode := m, drive := if m.acting then .running else .stopped, reference := if m.acting then some 5000 else none }
    sched := { State.reset.sched with held := [ticket], nextSerial := 501 }
    cache := { State.reset.cache with
      entries := State.reset.cache.entries.set 0 ⟨.filled, some 5, some job, 1, true, false⟩ }
    gathering := { State.reset.gathering with cells := Vector.replicate 18 .empty }
    carousel := { State.reset.carousel with places := State.reset.carousel.places.map fun p => { p with slot := .empty } }
    pot := { State.reset.pot with inBand := true, temp := some 1669 } }

/-- A state one count before a window start, no other event standing there. -/
def beforeStart (w : Window) (s : State) : State :=
  { s with phase := { s.phase with
      counter := (s.config.settings.window w).first - 1, startTaken := allWindows.filter fun v => decide (v ≠ w) } }

/-- A state one count before the end of an engaged station's window. -/
def beforeEnd (w : Window) (s : State) : State :=
  { s with
    phase := { s.phase with
      counter := (s.config.settings.window w).last - 1, endTaken := allWindows.filter fun v => decide (v ≠ w) }
    stations := ⟨[w], [w]⟩ }

/-- The sensors: one sheet at each pocket, and a cover with title 5 and sequence 1. -/
def io : CountInputs := ⟨Vector.replicate 16 .one, some 0x00050001, []⟩

/-- A count on one line. -/
def count : Instr := .forwardEncoderCount 175 io

/-- A trimmer that cuts one book. -/
def cutting : Trimmer :=
  { Trimmer.atReset with
    phase := .cutting, books := [book], target := some format.knives, cutAt := some 0, knives := ⟨some format.knives, none, none⟩
    gate2 := .toTrimmer, infeed := .openFor 1 }

/-! ### Well-formed terms -/

theorem test_unknown_code_ok : WellFormed (.unknownCommand 0 12) = true := by decide
theorem test_unknown_code_of_a_command : WellFormed (.unknownCommand 0 11) = false := by decide
theorem test_word_ok : WellFormed (.hostWordWrite 0 0xFFFC 0) = true := by decide
theorem test_word_beyond_the_memory : WellFormed (.hostWordWrite 0 0x10000 0) = false := by decide
theorem test_word_not_aligned : WellFormed (.hostWordWrite 0 0x1002 0) = false := by decide
theorem test_word_with_own_row : WellFormed (.hostWordWrite 0 0x01C 0) = false := by decide
theorem test_attention_word_has_own_row : WellFormed (.hostWordWrite 0 0x080 0) = false := by decide
theorem test_issued_has_own_row : WellFormed (.hostWordWrite 0 0x020 1) = false := by decide
theorem test_other_state_word_ok : WellFormed (.hostWordWrite 0 0x020 2) = true := by decide
theorem test_no_word_spells_a_command : State.reset.withFetchWord 32 0xFFFFFFFF = State.reset := by rfl

/-! ### The worked cases of the spec -/

/-- Chapter 6, worked case: T_exp 6,432, T_meas 6,625 of a sum of 472 over four conversions. -/
theorem test_thickness : expectedThickness job stock = 6432 ∧ measuredThickness Settings.defaults ⟨4, 472⟩ = 6625 := by
  decide +kernel

/-- Chapter 6, worked case: spine 7,050, scores, glue phases 1,241 and 2,928, E 247, knives. -/
theorem test_format :
    format.cover = some ⟨7050, ⟨146000, 152000, 159050, 165050⟩⟩ ∧ format.spineOpen = 1241 ∧ format.spineClose = 2928 ∧
      format.expectedFlow = 247 ∧ format.knives = ⟨148000, 3000, 213000⟩ := by decide +kernel

/-- Chapter 6, worked case: the book passes every check. -/
theorem test_format_book : formatBook Settings.defaults job ⟨4, 472⟩ fresh =
    { book with clamp := none, entry := some 0 } := by decide +kernel

/-- Chapter 1, compensation figures. -/
theorem test_compensation :
    compFor 3000 1200000 = 10 ∧ compFor 3000 720000 = 17 ∧ compFor 20000 600000 = 136 ∧ compFor 20000 80000 = 1024 ∧
      compFor 0 5 = 0 ∧ compFor 1 0 = 1024 := by decide

/-- Chapter 7, R108 and R115: E_m 795, ratio 1,144, effective phases 1,224 and 2,911 at comp 17. -/
theorem test_milling_and_phases :
    expectedLoad Settings.defaults format = 795 ∧ wearRatio 910 795 = 1144 ∧
      effectivePhases ⟨1100, 3100⟩ 17 1241 2928 = some (1224, 2911) := by decide +kernel

/-- Chapter 7, glue pot figures. -/
theorem test_pot_figures :
    potTemperature 570 = 1669 ∧ dutyFor Settings.defaults 1700 1669 = 124 ∧ dutyFor Settings.defaults 1200 1669 = 0 ∧
      potTemperature 300 = 878 ∧ dutyFor Settings.defaults 1700 878 = 255 ∧ dutyFor Settings.defaults 1700 1702 = 0 := by
  decide

/-! ### One step of each command -/

theorem test_power_on : answers (.powerOnReset 0 ⟨true, false, true, false⟩) (line .running) (fun t =>
    decide (t.line.mode = .cold) && decide (t.word 0x014 = 1) && decide (t.word 0x0E4 = 1) && t.cover.emptyA) = true := by
  decide +kernel

theorem test_controller_reset_fails_active : answers (.controllerReset 0)
    { line .running with mem := (Memory.writeWord [] 0x4840 2).writeWord 0x4880 1 } (fun t =>
    decide (t.mem.ticket 1 .stage = 5) && decide (t.mem.ticket 1 .endReason = 68) && decide (t.mem.ticket 2 .stage = 1)) =
    true := by decide +kernel

theorem test_count_wraps : answers count { line .running with phase.counter := 4095, phase.startMark := false, now := 719825 }
    (fun t => decide (t.phase.counter = 0) && decide (t.phase.lastCycle = 720000) && decide (t.phase.comp = 17) &&
      decide (t.word 0x0C8 = 720000)) = true := by decide +kernel

theorem test_count_advances_cells : answers count
    (({ line .running with phase.counter := 4095 }).setCell 0 (.holding fresh)) (fun t =>
    decide (t.cell 1 = .holding fresh) && decide (t.cell 0 = .empty)) = true := by decide +kernel

theorem test_reverse_count : answers (.reverseEncoderCount 5) (line .running) (fun t =>
    decide (t.phase = (line .running).phase) && decide (t.now = 5)) = true := by decide +kernel

/-- R3: a mark at phase 4,090 deviates by 6; one at phase 30 by 30. -/
theorem test_mark_deviations : deviation 4090 = 6 ∧ deviation 30 = 30 := by decide

theorem test_jam_mark : answers (.indexMark 0 io) { line .ready with phase.counter := 100 } (fun t =>
    decide (t.line.mode = .halted) && t.line.causes.jam && decide (t.phase.counter = 0)) = true := by decide +kernel

theorem test_code_report : answers (.pocketCodeReport 0 3 0x00050004)
    { line .running with gathering.pockets := Vector.replicate 16 ⟨false, 0, some 501, none⟩ } (fun t =>
    decide (t.gathering.pockets[(3 : Fin 16)].code = some 0x00050004)) = true := by decide +kernel

theorem test_reload : answers (.pocketReloaded 0 3)
    { line .running with gathering.pockets := Vector.replicate 16 ⟨true, 3, none, none⟩ } (fun t =>
    decide (t.gathering.pockets[(3 : Fin 16)] = ⟨false, 0, none, none⟩) &&
      decide (t.gathering.pockets[(4 : Fin 16)] = ⟨true, 3, none, none⟩)) = true := by decide +kernel

/-- R66: a third miss at a limit of 3 takes the pocket to STARVED with one notice. -/
theorem test_starves : answers (.forwardEncoderCount 0 { io with sheets := Vector.replicate 16 .noSheet })
    { (beforeEnd .pocket (line .running)).setCell 1 (.holding fresh) with
      gathering.pockets := (Vector.replicate 16 ⟨false, 0, none, none⟩).set 0 ⟨false, 2, some 501, none⟩ } (fun t =>
    decide (t.gathering.pockets[(0 : Fin 16)] = ⟨true, 3, none, none⟩) && decide (t.word (Header.count 5) = 1) &&
      decide (t.cell 1 = .holding { fresh with spoil := some ⟨.sigMissing, ⟨false, 1⟩, 0, true⟩ })) = true := by
  decide +kernel

theorem test_pump_pulse : answers (.gluePumpPulse 0)
    { line .running with glue.spine := ⟨none, some 2911, true, true, 240, false⟩ } (fun t =>
    decide (t.glue.spine.flow = 241)) = true := by decide +kernel

/-- R46: an odd edit count waits 1 ms. -/
theorem test_attempt_odd : answers (.fetchAttemptEnd 0 []) { line .running with
    mem := Memory.writeWord [] (jobBase 6 + 4) 3, cache.fetch := some ⟨6, 3, 0, none, []⟩, now := 100 } (fun t =>
    decide (t.cache.fetch = some ⟨6, 3, 0, some 1100, []⟩)) = true := by decide +kernel

/-- R46: a count that the host raised between its two readings begins a new attempt. -/
theorem test_attempt_torn : answers (.fetchAttemptEnd 0 [1, 0]) { line .running with
    mem := Memory.writeWord [] (jobBase 6 + 4) 4, cache.fetch := some ⟨6, 3, 0, none, [(jobBase 6 + 4, 2)]⟩ } (fun t =>
    decide (t.cache.fetch = some ⟨6, 3, 0, none, []⟩)) = true := by decide +kernel

theorem test_fetch_wait : answers (.fetchWaitExpiry 1000) { line .running with cache.fetch := some ⟨6, 3, 0, some 1000, []⟩ }
    (fun t => decide (t.cache.fetch = some ⟨6, 3, 0, none, []⟩)) = true := by decide +kernel

theorem test_fetch_timeout : answers (.fetchTimeout 500000)
    (({ line .running with
        cache.fetch := some ⟨6, 3, 0, none, []⟩
        cache.entries := (line .running).cache.entries.set 3 ⟨.filling, some 6, none, 1, true, false⟩ }).setCell 0
      (.holding { fresh with entry := some 3, format := .pending })) (fun t =>
    decide (t.cell 0 =
      .holding { fresh with entry := none, format := .failed, spoil := some ⟨.unformatted, ⟨false, 0⟩, 0, false⟩ }) &&
      decide (t.word 0x09C = 1)) = true := by decide +kernel

/-- Chapter 6, worked case: the completion of 117 after 237 over two conversions. -/
theorem test_gauge_completion : answers (.conversionComplete 25 (some 117))
    { line .running with format := ⟨⟨.gauge, 1, false, true, 25⟩, some ⟨2, 237⟩⟩ } (fun t =>
    decide (t.format = ⟨⟨.gauge, 0, false, true, 50⟩, some ⟨3, 354⟩⟩)) = true := by decide +kernel

/-- Chapter 7, glue pot figures: reading 700 sets OVERHEAT and halts. -/
theorem test_overheat : answers (.conversionComplete 25 (some 700))
    { line .warming with format.converter := ⟨.temp, 0, false, false, 25⟩ } (fun t =>
    t.pot.overheat && decide (t.pot.temp = some 2050) && decide (t.line.mode = .halted) && decide (t.word 0x014 = 32)) =
    true := by decide +kernel

theorem test_temperature_timer : answers (.temperatureTimerExpiry 100000) (line .running) (fun t =>
    decide (t.format.converter = ⟨.temp, 0, false, false, 100025⟩) && decide (t.pot.conversionAt = 200000)) = true := by
  decide +kernel

theorem test_heater_start : answers (.heaterPeriodStart 1000000) { line .running with pot.computed := 124 } (fun t =>
    decide (t.pot.applied = 124) && t.pot.heaterOn) = true := by decide +kernel

theorem test_heater_start_cold : answers (.heaterPeriodStart 1000000) { line .cold with pot.computed := 124 } (fun t =>
    decide (t.pot.applied = 0) && !t.pot.heaterOn) = true := by decide +kernel

/-- R114: 128 of 256 is half the period. -/
theorem test_heater_end : answers (.heaterOnTimeEnd 500000)
    { line .running with pot.applied := 128, pot.heaterOn := true } (fun t => !t.pot.heaterOn) = true := by decide +kernel

theorem test_mill_report : answers (.millMotionComplete 0)
    { line .running with miller.drive := ⟨some 0, some 2500, some 3000⟩ } (fun t =>
    decide (t.miller.drive = ⟨some 2500, some 3000, none⟩)) = true := by decide +kernel

theorem test_load_pulse_held : answers (.spindleLoadPulse 0)
    { line .running with miller.integrating := true, miller.load := 65535 } (fun t => decide (t.miller.load = 65535)) =
    true := by decide +kernel

theorem test_scorer_report : answers (.scorerMotionComplete 0)
    { line .running with cover.scorer := ⟨none, some ⟨1, 2, 3, 4⟩, none⟩ } (fun t =>
    decide (t.cover.scorer = ⟨some ⟨1, 2, 3, 4⟩, none, none⟩)) = true := by decide +kernel

theorem test_magazine : answers (.magazineSensorChange 0 .b true) (line .running) (fun t =>
    t.cover.emptyB && !t.cover.emptyA && decide (t.word (Header.count 6) = 1)) = true := by decide +kernel

/-- R128, R134: the head takes at its set time; unknown knives are positioned. -/
theorem test_set_time : answers (.setTimeExpiry 1500000 0) { line .running with trim.queue := [⟨book, 0, false⟩] } (fun t =>
    decide (t.trim.phase = .positioning) && decide (t.trim.queue = []) && decide (t.trim.limitAt = some 4500000)) =
    true := by decide +kernel

theorem test_knife_report : answers (.knifePositioningReport 10) { line .running with
    trim := { cutting with phase := .positioning, cutAt := none, limitAt := some 99, knives := ⟨none, some format.knives, none⟩ } }
    (fun t => decide (t.trim.phase = .cutting) && decide (t.trim.cutAt = some 450010)) = true := by decide +kernel

theorem test_positioning_limit : answers (.positioningLimitExpiry 99) { line .running with
    trim := { cutting with phase := .positioning, cutAt := none, limitAt := some 99 } } (fun t =>
    decide (t.trim.phase = .fault) && decide (t.line.mode = .halted) && decide (t.word 0x014 = 8)) = true := by
  decide +kernel

theorem test_cut : answers (.cutTimerExpiry 0 true) { line .running with trim := cutting } (fun t =>
    decide (t.mem.ticket 0 .made = 1) && decide (t.trim.phase = .idle) && decide (t.trim.outfeed = some .stacker)) =
    true := by decide +kernel

theorem test_stroke_fault : answers (.cutTimerExpiry 0 false) { line .running with trim := cutting } (fun t =>
    decide (t.trim.phase = .fault) && decide (t.trim.reason = .stroke) && decide (t.trim.books = [book])) = true := by
  decide +kernel

theorem test_beam_top : answers (.cutCompleteInput 0) { line .halted with
    trim := { cutting with phase := .fault, reason := .stroke, cutAt := none }, line.causes.trimmer := true } (fun t =>
    decide (t.trim.phase = .idle) && decide (t.mem.ticket 0 .made = 1) && !t.line.causes.trimmer) = true := by decide +kernel

theorem test_estop : answers (.emergencyStopInput 0 true false) { line .running with trim := cutting } (fun t =>
    decide (t.line.mode = .halted) && decide (t.trim.phase = .idle) && decide (t.mem.read 0x880C = 20)) = true := by
  decide +kernel

theorem test_guard_closes : answers (.guardInput 0 false false)
    { line .halted with pins.guardOpen := true, line.causes.guardOpen := true } (fun t =>
    decide (t.line.mode = .halted) && !t.line.causes.guardOpen) = true := by decide +kernel

theorem test_key_inches : answers (.startKeyPress 0) (line .halted) (fun t =>
    decide (t.line.drive = .inching) && decide (t.line.mode = .halted) && t.phase.startMark) = true := by decide +kernel

theorem test_key_release : answers (.startKeyRelease 0) { line .halted with line.drive := .inching } (fun t =>
    decide (t.line.drive = .stopped)) = true := by decide +kernel

theorem test_stable : answers (.stableTimerExpiry 0) { line .warming with line.stableAt := some 0, line.runWhenReady := true }
    (fun t => decide (t.line.mode = .running)) = true := by decide +kernel

theorem test_rest : answers (.restTimerExpiry 0) { line .ready with line.restAt := some 0 } (fun t =>
    decide (t.line.mode = .setback) && decide (t.line.restAt = some 3600000000)) = true := by decide +kernel

theorem test_notice_wakes : answers (.scheduleNotice 0 9) { line .cold with mem := Memory.writeWord [] 0x018 4 } (fun t =>
    decide (t.line.mode = .warming) && t.line.runWhenReady) = true := by decide +kernel

theorem test_load_config_begins : answers (.loadConfig 0) (line .ready) (fun t =>
    t.port.taken && decide (t.word 0x020 = 2) && decide (t.port.reading = some [])) = true := by decide +kernel

/-- R176: the first field, of a record of zeros, fails. -/
theorem test_load_config_bad : answers (.loadConfigReadEnd 0 []) { line .ready with port.taken := true, port.reading := some [] }
    (fun t => decide (t.word 0x030 = 3) && decide (t.word 0x034 = 0) && decide (t.word 0x020 = 3)) = true := by decide +kernel

theorem test_warm : answers (.warm 0) (line .cold) (fun t =>
    decide (t.line.mode = .warming) && decide (t.line.stableAt = some 30000000) && decide (t.word 0x010 = 1)) = true := by
  decide +kernel

/-- R156, R169: the drive is given the configured speed setpoint. -/
theorem test_start : answers (.start 0) (line .ready) (fun t =>
    decide (t.line.reference = some 5000) && decide (t.line.mode = .running) && decide (t.phase.lastCycle = 1200000) &&
      decide (t.word 0x024 = 3)) = true := by decide +kernel

/-- R160: with no book in flight the emptying ends at once. -/
theorem test_run_out : answers (.runOut 0) (line .running) (fun t => decide (t.line.mode = .ready)) = true := by decide +kernel

theorem test_resume_spoils : answers (.resume 8000000) (({ line .halted with line.haltStart := some 0 }).setClamp 8
    (.holding { book with glued := true })) (fun t =>
    decide (t.clampAt 8 = .holding
      { book with glued := true, spoil := some ⟨.haltSpoil, ⟨true, 8⟩, 8000, false⟩ }) && decide (t.line.mode = .running)) =
    true := by decide +kernel

theorem test_clear_clamp : answers (.clearClamp 0 9) ((line .halted).setClamp 9 (.holding book)) (fun t =>
    decide (t.clampAt 9 = .empty) && decide (t.word 0x034 = 501) && decide (t.mem.read 0x880C = 18) &&
      decide (t.sched.remakes = [0])) = true := by decide +kernel

theorem test_purge : answers (.purgeCache 0) (line .running) (fun t =>
    decide (t.cache.entries[(0 : Fin 16)] = ⟨.filled, none, some job, 1, true, true⟩) && decide (t.word 0x09C = 1)) = true := by
  decide +kernel

theorem test_set_cursor : answers (.setCursor 0 255) State.reset (fun t =>
    decide (t.sched.cursor = 255) && decide (t.word 0x094 = 255) && decide (t.word 0x030 = 0)) = true := by decide +kernel

theorem test_set_cursor_busy : answers (.setCursor 0 255) (line .running) (fun t =>
    decide (t.sched.cursor = 0) && decide (t.word 0x030 = 1)) = true := by decide +kernel

theorem test_setback : answers (.setback 0) (line .ready) (fun t => decide (t.line.mode = .setback)) = true := by decide +kernel

theorem test_cool : answers (.cool 0) { line .warming with pot.applied := 9 } (fun t =>
    decide (t.line.mode = .cold) && decide (t.pot.applied = 0)) = true := by decide +kernel

theorem test_halt : answers (.halt 0) (line .ready) (fun t =>
    decide (t.line.mode = .halted) && decide (t.word 0x014 = 64) && decide (t.word (Header.count 4) = 1)) = true := by
  decide +kernel

theorem test_unknown_command : answers (.unknownCommand 0 12) (line .ready) (fun t =>
    decide (t.word 0x030 = 5) && decide (t.line.mode = .ready)) = true := by decide +kernel

/-- R178: enabling a cause whose counts differ asserts the line. -/
theorem test_attention : answers (.attentionWrite 0 .enables 4)
    { line .ready with port.counts := (Vector.replicate 8 0).set 2 7 } (fun t => t.port.attention) = true := by decide +kernel

theorem test_host_word : answers (.hostWordWrite 0 0x4848 5) (line .ready) (fun t =>
    decide (t.mem.ticket 1 .job = 5) && decide (t.mem.read 0x4848 = 5)) = true := by decide +kernel

/-! ### Witnesses: for each statement with hypotheses, states and operands that meet them together -/

/-- Whether a step answers a next state. -/
def goes (s : State) : Bool :=
  match step s with
  | .next _ => true
  | _ => false

theorem goes_next {s : State} (h : goes s = true) : ∃ t, step s = .next t := by
  unfold goes at h
  split at h
  · exact ⟨_, ‹_›⟩
  · cases h

theorem answers_next {c : Instr} {s : State} (h : answers c s (fun _ => true) = true) : ∃ t, exec c s = .next t := by
  unfold answers at h
  split at h
  · exact ⟨_, ‹_›⟩
  · cases h

/-- A state with one command waiting. -/
def waiting (c : Instr) (s : State) : State := { s with pending := [c] }

/-- A line that is cutting, or halted with the trimmer in its fault. -/
def cutLine : State := { line .running with trim := cutting }

/-- A job record of two signatures of 24 leaves at job number 6, its other values those of the worked case, and its stock entry. -/
def recordWords : List (Nat × Word) :=
  [(0, 1), (1, 2), (2, 5), (3, 2), (4, 0x00031801), (5, 0x00050001), (6, 0x00031802), (7, 0x00050002), (36, 1), (38, 5),
   (39, 311000), (40, 400), (41, 7000), (42, 1000), (43, 6000), (44, 216000), (45, 156000), (46, 2500), (47, 210000),
   (48, 148000), (49, 3000), (50, 30), (51, 5000), (52, 12), (53, 1500), (54, 1)].map (fun x => (jobBase 6 + 4 * x.1, x.2)) ++
  [(stockBase 3, 1), (stockBase 3 + 4, 90), (stockBase 3 + 8, 960)]

/-- The configuration record with the built-in defaults. -/
def configWords : List (Nat × Word) :=
  [(0, 1), (1, 500000), (2, 5000), (3, 1200000), (4, 0x025800C8), (5, 0x06400320), (6, 0x0A2807D0), (7, 0x057803E8),
   (8, 0x0D480258), (9, 0x0C1C044C), (10, 0x0C1C044C), (11, 0x09C405DC), (12, 0x0E100AF0), (13, 0x0ED80BB8), (14, 1200),
   (15, 1200), (16, 3000), (17, 12), (18, 64000), (19, 1700), (20, 80), (21, 1200), (22, 64), (23, 30), (24, 20), (25, 600),
   (26, 3600), (27, 8000), (28, 9), (29, 1), (30, 60000), (31, 450), (32, 3), (33, 48000), (34, 1400)].map
     fun x => (0x0200 + 4 * x.1, x.2)

/-- A line that fetches job 6 into entry 3. -/
def fetching (m : Memory) (writes : List (Nat × Word)) : State :=
  { line .running with
    mem := m
    cache := { (line .running).cache with
      fetch := some ⟨6, 3, 0, none, writes⟩
      entries := (line .running).cache.entries.set 3 ⟨.filling, some 6, none, 1, true, false⟩ } }

/-- Its memory with a POSTED ticket for job 6 and no record. -/
def postedOnly : Memory := (Memory.writeWord [] 0x4800 1).writeWord 0x4808 6

/-- A LOAD_CONFIG being read. -/
def reading (m : Memory) : State := { line .ready with mem := m, port.taken := true, port.reading := some [] }

theorem witness_StepTakesTheFrontCommand : State.reset.pending = [] := by decide +kernel

theorem witness_StepKeepsMemoryCanonical :
    MemoryInv (waiting (.hostWordWrite 0 0xFFFC 7) (line .running)) ∧
      ∃ t, step (waiting (.hostWordWrite 0 0xFFFC 7) (line .running)) = .next t :=
  ⟨by decide +kernel, goes_next (by decide +kernel)⟩

theorem witness_StepKeepsPhaseBounds :
    PhaseInv (waiting count { line .running with phase := ⟨4095, 65, 9, true, [], allWindows, 0, 1, true, 1024, false⟩ }) ∧
      ∃ t, step (waiting count { line .running with
        phase := ⟨4095, 65, 9, true, [], allWindows, 0, 1, true, 1024, false⟩ }) = .next t :=
  ⟨by decide +kernel, goes_next (by decide +kernel)⟩

theorem witness_StepKeepsAttentionLine :
    AttentionInv (waiting (.halt 0) (line .running)) ∧ ∃ t, step (waiting (.halt 0) (line .running)) = .next t :=
  ⟨by decide +kernel, goes_next (by decide +kernel)⟩

theorem witness_StepKeepsTrimmerBounds :
    TrimmerInv (waiting (.cutTimerExpiry 0 true) cutLine) ∧
      ∃ t, step (waiting (.cutTimerExpiry 0 true) cutLine) = .next t :=
  ⟨by decide +kernel, goes_next (by decide +kernel)⟩

theorem witness_StepKeepsHeaterDuty :
    HeaterInv (waiting (.heaterPeriodStart 1000000) { line .running with pot.computed := 255 }) ∧
      ∃ t, step (waiting (.heaterPeriodStart 1000000) { line .running with pot.computed := 255 }) = .next t :=
  ⟨by decide +kernel, goes_next (by decide +kernel)⟩

theorem witness_StepKeepsStationsAtRest :
    StationInv (waiting count ((beforeEnd .mill (line .running)).setClamp 4 (.holding book))) ∧
      ∃ t, step (waiting count ((beforeEnd .mill (line .running)).setClamp 4 (.holding book))) = .next t :=
  ⟨by decide +kernel, goes_next (by decide +kernel)⟩

theorem witness_StepKeepsLineControl :
    CauseInv (waiting (.guardInput 0 true false) cutLine) ∧ TimerInv (waiting (.guardInput 0 true false) cutLine) ∧
      ∃ t, step (waiting (.guardInput 0 true false) cutLine) = .next t :=
  ⟨by decide +kernel, by decide +kernel, goes_next (by decide +kernel)⟩

theorem witness_StepKeepsCacheConsistent :
    CacheInv (waiting (.purgeCache 0) (fetching [] [])) ∧ ∃ t, step (waiting (.purgeCache 0) (fetching [] [])) = .next t :=
  ⟨by decide +kernel, goes_next (by decide +kernel)⟩

theorem witness_StepKeepsScheduleBounds :
    ScheduleInv (waiting count (beforeStart .launch { line .running with sched.remakes := List.replicate 32 0 })) ∧
      ∃ t, step (waiting count (beforeStart .launch { line .running with sched.remakes := List.replicate 32 0 })) = .next t :=
  ⟨by decide +kernel, goes_next (by decide +kernel)⟩

theorem witness_PartNeverWritesHostAreas :
    MemoryInv (line .running) ∧ writesHostAreas (.halt 0) = false ∧ changesConfiguration (.halt 0) = false ∧
      ∃ t, exec (.halt 0) (line .running) = .next t :=
  ⟨by decide +kernel, by decide, by decide, answers_next (by decide +kernel)⟩

theorem witness_EncoderCounts : ∀ n ∈ [0, 4095], { line .running with phase.counter := n }.phase.counter ≤ 4095 := by
  decide +kernel

theorem witness_ForwardCountBetweenEvents :
    (PhaseInv State.reset ∧ State.reset.phase.synced = false) ∧
      PhaseInv (line .running) ∧ (line .running).phase.counter < 4095 ∧
        ∀ e ∈ defaultOrder, (line .running).eventValue e ≠ some ((line .running).phase.counter + 1) := by decide +kernel

/-- A synchronised line at a value of the counter and of the count since index. -/
def shaft (n c : Nat) : State := { line .running with phase.counter := n, phase.sinceIndex := c }

theorem witness_every_window_taken : ∀ w ∈ allWindows, w ∈ (shaft 4095 65).phase.endTaken := by decide

/-- A line at its wrap, with a book in a clamp. -/
def wrapping (m : LineMode) : State := { (line m).setClamp 4 (.holding book) with phase.counter := 4095 }

theorem witness_WrapAdvancesTheLine_advances : ∀ m ∈ [LineMode.running, .emptying, .ready, .halted],
    (wrapping m).phase.synced = true ∧ (wrapping m).phase.counter = 4095 ∧ (wrapping m).phase.endTaken = allWindows ∧
      ((wrapping m).cell 17).isHolding = false ∧ ModeStays (wrapping m) ∧
      ModeStays { shaft 4095 65 with line.idle := 19 } := by decide +kernel

theorem witness_WrapAdvancesTheLine_chainEnd : ∀ b ∈ [fresh, book],
    (∀ m ∈ [LineMode.running, .emptying],
        ((wrapping m).setCell 17 (.holding b)).cell 17 = .holding b ∧ ((wrapping m).setCell 17 (.holding b)).inFlight = 2 ∧
        MemoryInv ((wrapping m).setCell 17 (.holding b))) ∧ (fresh.entry = some 0 ∧ book.entry = none) := by
  decide +kernel

/-- A line in EMPTYING at its wrap with its last record at chain position 17. -/
def lastAtChainEnd (b : Book) : State := { (line .emptying).setCell 17 (.holding b) with phase.counter := 4095 }

theorem witness_WrapAdvancesTheLine_lastRecord : ∀ b ∈ [fresh, book],
    (lastAtChainEnd b).cell 17 = .holding b ∧ (lastAtChainEnd b).line.mode = .emptying ∧ (lastAtChainEnd b).inFlight = 1 ∧
      MemoryInv (lastAtChainEnd b) := by decide +kernel

/-- R160: the posting of the last record takes the line to READY. -/
theorem test_last_at_the_chain_end : answers count (lastAtChainEnd fresh) (fun t =>
    decide (t.line.mode = .ready) && decide (t.inFlight = 0) && decide (t.port.counts[(2 : Fin 8)] = 1)) = true := by
  decide +kernel

theorem witness_WrapAdvancesTheLine_ends :
    ({ line .emptying with phase.counter := 4095 }.inFlight = 0 ∧ (line .emptying).line.mode = .emptying) ∧
      { shaft 4095 65 with line.idle := 20 }.inFlight = 0 ∧ (shaft 4095 65).line.mode = .running ∧
        0 < (shaft 4095 65).config.settings.idleLimit ∧ (shaft 4095 65).config.settings.idleLimit ≤ 20 ∧
        (shaft 4095 65).anyUnknown = false := by decide +kernel

theorem witness_every_window (w : Window) : w ∈ allWindows := by cases w <;> decide

theorem witness_SmallMarks_small : ∀ n ∈ [0, 8, 4088, 4095],
    (shaft n 5).phase.synced = true ∧
      ((shaft n 5).phase.counter ≤ 8 ∨ (4088 ≤ (shaft n 5).phase.counter ∧ (shaft n 5).phase.counter ≤ 4095)) := by
  decide +kernel

theorem witness_SmallMarks_late : ∀ n ∈ [9, 64],
    (shaft n 64).phase.synced = true ∧ 9 ≤ (shaft n 64).phase.counter ∧ (shaft n 64).phase.counter ≤ 64 ∧
      (shaft n 64).phase.sinceIndex ≤ 64 := by decide +kernel

theorem witness_SmallMarks_early : ∀ n ∈ [4032, 4087],
    (shaft n 65).phase.synced = true ∧ 4032 ≤ (shaft n 65).phase.counter ∧ (shaft n 65).phase.counter ≤ 4087 ∧
      (shaft n 65).phase.sinceIndex = 65 ∧
      (∀ e ∈ defaultOrder, ∀ v ∈ (shaft n 65).eventValue e, v ≤ (shaft n 65).phase.counter ∨ 4095 < v) ∧
      (∀ w ∈ allWindows, w ∈ (shaft n 65).phase.endTaken) ∧ ((shaft n 65).cell 17).isHolding = false ∧
      (shaft n 65).line.mode ≠ .emptying ∧ (shaft n 65).line.idle < (shaft n 65).config.settings.idleLimit := by
  decide +kernel

/-- An index mark before the start and the end of the stations that are left in the skipped span. -/
theorem witness_SmallMarks_skipped : ∀ n ∈ [4032, 4087], ∀ c ∈ [64, 65],
    { shaft n c with config.settings.wDeliver := ⟨4090, 4095⟩, phase.startTaken := [], phase.endTaken := [] }.phase.synced =
        true ∧
      4032 ≤ (shaft n c).phase.counter ∧ (shaft n c).phase.counter ≤ 4087 ∧ (shaft n c).phase.sinceIndex ≤ 65 ∧
      { shaft n c with config.settings.wDeliver := ⟨4090, 4095⟩, phase.startTaken := [] }.eventValue (.opens .deliver) =
        some 4090 := by decide +kernel

theorem witness_JamMarkHalts_early : ∀ n ∈ [2048, 4031], ∀ c ∈ [64, 65],
    (shaft n c).phase.synced = true ∧ 2048 ≤ (shaft n c).phase.counter ∧ (shaft n c).phase.counter ≤ 4031 ∧
      (shaft n c).phase.sinceIndex ≤ 65 ∧
      { shaft 2048 65 with phase.endTaken := [] }.eventValue (.closes .deliver) = some 3800 := by decide +kernel

/-- R4: a DELIVER end in the skipped span opens the clamp at position 17 before the advance. -/
theorem test_early_mark_raises_the_span : answers (.indexMark 0 io)
    { (shaft 4087 65).setClamp 17 (.holding book) with
      config.settings.wDeliver := ⟨3000, 4088⟩, phase.endTaken := allWindows.filter fun w => decide (w ≠ .deliver)
      stations := ⟨[.deliver], []⟩ } (fun t =>
    decide (t.trim.queue.map (·.book) = [book]) && decide (t.clampAt 18 = .empty) && decide (t.phase.counter = 0)) = true := by
  decide +kernel

theorem witness_JamMarkHalts : ∀ n ∈ [65, 2047],
    (shaft n 65).phase.synced = true ∧ 65 ≤ (shaft n 65).phase.counter ∧ (shaft n 65).phase.counter ≤ 2047 ∧
      (shaft n 65).phase.sinceIndex = 65 ∧ (∀ w ∈ allWindows, w ∈ (shaft n 65).phase.endTaken) ∧
      ((shaft n 65).cell 17).isHolding = false ∧ (shaft n 65).line.mode ≠ .emptying ∧
      (shaft n 65).line.idle < (shaft n 65).config.settings.idleLimit ∧
      ({ (line .emptying).setClamp 4 (.holding book) with phase.counter := n }.inFlight ≠ 0 ∧
        (((line .emptying).setClamp 4 (.holding book)).cell 17).isHolding = false) := by decide +kernel

/-- A line that has had no index mark since its reset, with books under a pocket and in two clamps. -/
def unmarked (m : LineMode) : State :=
  { (((line m).setCell 3 (.holding fresh)).setClamp 2 (.holding book)).setClamp 4 (.holding book) with
    phase := State.reset.phase }

theorem witness_FirstMarkSynchronises : ∀ m ∈ [LineMode.cold, .halted, .running, .emptying],
    (unmarked m).phase.synced = false ∧ (unmarked m).phase.endTaken = [] ∧ (unmarked m).stations = ⟨[], []⟩ ∧
      ((unmarked m).cell 17).isHolding = false ∧ ((unmarked m).clampAt 17).isHolding = false ∧
      (unmarked m).clampAt 2 = .holding book ∧ book.entry = none ∧ (unmarked m).inFlight ≠ 0 := by decide +kernel

/-- The book with a spoil code. -/
def spoiledOf (b : Book) : Book := { b with spoil := some ⟨.inched, ⟨true, 4⟩, 0, false⟩ }

/-- A line in a mode whose next count takes one window end at a station that is not engaged. -/
def unserved (m : LineMode) (w : Window) : State := { beforeEnd w (line m) with stations := ⟨[], []⟩ }

theorem witness_UnservedEndMarksInched : ∀ m ∈ [LineMode.ready, .running], ∀ w ∈ allWindows,
    OnlyEvent (.closes w) (unserved m w) ∧ w ∉ (unserved m w).stations.engaged := by decide +kernel

theorem witness_UnservedEndMarksInched_positions :
    ∀ x ∈ [(Window.mill, (4 : Fin 24)), (.spineGlue, 6), (.sideGlue, 7), (.cover, 9), (.nip, 10)],
      stationPosition x.1 = some x.2 ∧ x.1 ≠ .gauge := by decide

theorem witness_UnservedEndMarksInched_records :
    (((unserved .ready .gauge).setClamp 2 (.holding fresh)).clampAt 2 = .holding fresh ∧ fresh.entry = some 0 ∧
        ((unserved .ready .gauge).setClamp 2 (.holding book)).clampAt 2 = .holding book ∧ book.entry = none) ∧
      ((unserved .running .deliver).clampAt 17).isHolding = false ∧
      MemoryInv ((unserved .running .deliver).setClamp 17 (.holding book)) ∧ (line .running).line.mode ≠ .emptying ∧
      ((unserved .running .deliver).setClamp 17 (.holding book)).clampAt 17 = .holding book := by decide +kernel

theorem witness_UnservedEndMarksInched_emptying : ∀ b ∈ [book, spoiledOf book],
    (∀ s ∈ [(unserved .emptying .deliver).setClamp 17 (.holding b)],
        OnlyEvent (.closes .deliver) s ∧ s.stations.engaged = [] ∧ MemoryInv s ∧ s.line.mode = .emptying ∧ s.inFlight = 1 ∧
        s.clampAt 17 = .holding b) ∧
      (((unserved .emptying .deliver).setClamp 17 (.holding b)).setClamp 4 (.holding book)).inFlight = 2 := by decide +kernel

theorem witness_LaunchMakesABook : (line .running).held ticket.index = some ticket := by decide +kernel

/-- A line one count before its launch demand, a fetch being in progress. -/
def demand (m : LineMode) : State := beforeStart .launch { line m with cache := (fetching [] []).cache }

theorem witness_LaunchDemandDecides_not_running :
    OnlyEvent (.opens .launch) (demand .ready) ∧ (demand .ready).line.mode ≠ .running := by decide +kernel

theorem witness_LaunchDemandDecides_no_room : ∀ n ∈ [9, 12],
    OnlyEvent (.opens .launch) { demand .running with trim.queue := List.replicate n ⟨book, 0, false⟩ } ∧
      (demand .running).cache.fetch.isSome = true ∧
      (demand .running).config.settings.highMark ≤ (List.replicate n (QueueEntry.mk book 0 false)).length ∧
      (demand .running).line.mode = .running ∧ (demand .running).line.idle ≤ 65535 := by decide +kernel

/-- A ticket of which one book more makes the quantity. -/
def lastOne : HeldTicket := { ticket with launched := 5, made := 4, stage := .draining }

/-- A line before its launch demand in RUNNING, below the high mark. -/
abbrev Demanded (s : State) : Prop :=
  OnlyEvent (.opens .launch) s ∧ s.line.mode = .running ∧ s.trim.queue.length < s.config.settings.highMark ∧ MemoryInv s

theorem witness_LaunchDemandDecides_active :
    Demanded (demand .running) ∧ (demand .running).cache.fetch.isSome = true ∧ (demand .running).sched.remakes = [] ∧
      (demand .running).held (demand .running).sched.cursor = some ticket ∧ ticket.stage = .active ∧
      ticket.stop = .noStop ∧ (demand .running).mem.cancelled (demand .running).sched.cursor = false ∧
      (demand .running).cache.lookup ticket.job = some 0 ∧
      (demand .running).cache.entries[(0 : Fin 16)].copy = some job ∧ NoHold job (demand .running) ∧
      ScheduleInv (demand .running) := by decide +kernel

theorem witness_LaunchDemandDecides_holds :
    HoldApplies job .pocketStarved
        { demand .running with gathering.pockets := Vector.replicate 16 ⟨true, 3, none, none⟩, pot.inBand := false } ∧
      HoldApplies job .magazineEmpty { demand .running with cover.emptyA := true, pot.inBand := false } ∧
      HoldApplies job .glueTemp { (demand .running).setCell 0 .unknown with pot.inBand := false } ∧
      HoldApplies job .cellUnknown ((demand .running).setCell 0 .unknown) := by
  unfold HoldApplies
  decide +kernel

/-- The demand of a line that holds one ticket, with a remake list and a memory. -/
def holding (x : HeldTicket) (remakes : List Nat) (m : Memory) : State :=
  { demand .running with sched.held := [x], sched.remakes := remakes, mem := m }

/-- A memory in which ticket 0 asks to be cancelled. -/
def cancelling : Memory := Memory.writeWord [] (ticketAddr 0 .request) 1

theorem witness_LaunchDemandDecides_remake :
    (Demanded (holding ticket [0, 0] []) ∧ (holding ticket [0, 0] []).held 0 = some ticket ∧
        (holding ticket [0, 0] []).mem.cancelled 0 = false ∧ NoHold job (holding ticket [0, 0] [])) ∧
      (Demanded (holding ticket [0] cancelling) ∧ (holding ticket [0] cancelling).mem.cancelled 0 = true ∧ ticket.stays) ∧
      { ticket with stop := .badJob }.stop ≠ .noStop ∧ { ticket with stop := .badJob }.stays := by decide +kernel

theorem witness_LaunchDemandDecides_drains :
    (Demanded (holding ticket [] cancelling) ∧ (holding ticket [] cancelling).held 0 = some ticket ∧
        (holding ticket [] cancelling).mem.cancelled 0 = true ∧ ticket.stage = .active ∧ ticket.stays) ∧
      ((holding lastOne [] []).held 0 = some lastOne ∧ lastOne.stage = .draining ∧ lastOne.stop = .noStop) ∧
      { demand .running with sched.held := [] }.held 0 = none ∧ (demand .running).mem.ticket 0 .stage ≠ 1 ∧
      ScheduleInv (holding lastOne [] []) := by decide +kernel

/-- A ticket whose job is fetched, and its line with no fetch. -/
def fetched (n : Nat) : HeldTicket := { ticket with job := n }

theorem witness_LaunchDemandDecides_uncached :
    (∀ n ∈ [6, 7], Demanded (holding (fetched n) [] []) ∧ ScheduleInv (holding (fetched n) [] []) ∧ (holding (fetched n) [] []).held 0 = some (fetched n) ∧
        (holding (fetched n) [] []).cache.lookup n = none ∧
        (holding (fetched n) [] []).cache.fetch = some ⟨6, 3, 0, none, []⟩ ∧ (fetched n).mode ≠ .personal ∧
        (holding (fetched n) [] []).pot.inBand = true ∧ (holding (fetched n) [] []).cell 0 = .empty) ∧
      { holding (fetched 6) [] [] with cache.fetch := none }.cache.fetch = none ∧
      (holding (fetched 6) [] []).cache.entries[(1 : Fin 16)].locks = 0 ∧
      { fetched 6 with mode := .personal }.mode = .personal := by decide +kernel

/-- A cache whose sixteen entries are stale and locked. -/
def locked : JobCache := { State.reset.cache with entries := Vector.replicate 16 ⟨.filled, none, some job, 1, true, true⟩ }

theorem witness_LaunchDemandDecides_locked :
    (∀ e : Fin 16, locked.entries[e].locks ≠ 0) ∧ locked.lookup 6 = none ∧
      Demanded { holding (fetched 6) [] [] with cache := { locked with fetch := some ⟨7, 3, 0, none, []⟩ } } := by
  decide +kernel

/-- The demand of a line that holds no ticket, one standing under the cursor with a job, a quantity and a limit. -/
def posted (n qty limit : Word) : State :=
  { demand .running with
    sched.held := []
    mem := ((((Memory.writeWord [] (ticketAddr 0 .stage) 1).writeWord (ticketAddr 0 .job) n).writeWord (ticketAddr 0 .qty)
      qty).writeWord (ticketAddr 0 .remakeLimit) limit)
    cache.stock := ((Vector.replicate 64 none).set 3 (stock 3)).set 7 (stock 7) }

theorem witness_LaunchDemandDecides_posted :
    (Demanded (posted 5 1 0) ∧ (posted 5 1 0).sched.remakes = [] ∧ (posted 5 1 0).held 0 = none ∧
        (posted 5 1 0).mem.ticket 0 .stage = 1 ∧ (posted 5 1 0).mem.ticket 0 .job = 5 ∧
        (posted 5 1 0).mem.ticket 0 .qty = 1 ∧ (posted 5 1 0).mem.ticket 0 .remakeLimit = 0 ∧
        (posted 5 1 0).mem.ticket 0 .request ≠ 1 ∧ (posted 5 1 0).cache.fetch.isSome = true) ∧
      ((posted 63 1 0).mem.ticket 0 .job = 63 ∧ (posted 63 1 0).cache.lookup 63 = none) ∧
      (posted 64 1 0).mem.ticket 0 .job = 64 := by decide +kernel

theorem witness_LaunchDemandDecides_refused :
    ({ posted 5 1 0 with mem := (posted 5 1 0).mem.writeWord (ticketAddr 0 .request) 1 }.mem.ticket 0 .request = 1) ∧
      (posted 5 1 0).cache.lookup 5 = some 0 ∧ (posted 5 1 0).cache.entries[(0 : Fin 16)].copy = some job ∧
      badJob job (posted 5 1 0).cache.stockPlace = none ∧ badJob job (demand .running).cache.stockPlace = some 6 ∧
      QtyFault job 0 0 1 ∧ QtyFault job 10000 16 1 ∧ QtyFault { job with coverMode := 2 } 2 16 2 ∧ QtyFault job 9999 16 3 := by
  unfold QtyFault
  decide +kernel

theorem witness_LaunchDemandDecides_accepted :
    (∀ code, ¬ QtyFault job 1 15 code) ∧ (∀ code, ¬ QtyFault job 9999 0 code) ∧ NoHold job (posted 5 1 0) :=
  ⟨fun _ => by simp [QtyFault, job, JobRecord.mode], fun _ => by simp [QtyFault, job, JobRecord.mode], by decide +kernel⟩

theorem witness_LaunchDemandDecides_prefetch :
    OnlyEvent (.opens .launch) { demand .running with trim.queue := List.replicate 9 ⟨book, 0, false⟩, cache.fetch := none } ∧
      { demand .running with mem := Memory.writeWord [] (ticketAddr 1 .stage) 1 }.mem.ticket 1 .stage = 1 ∧
      (demand .running).held 1 = none ∧
      { demand .running with sched.held := [{ ticket with index := 1 }] }.held 1 = some { ticket with index := 1 } := by
  decide +kernel

/-- A line before its POCKET window start with a book at chain position 1, and one just launched that waits. -/
def beforePocket (mode : LineMode) (b : Book) : State :=
  ((beforeStart .pocket (line mode)).setCell 0 (.holding { fresh with format := .pending })).setCell 1 (.holding b)

theorem witness_PocketStartFeeds : ∀ mode ∈ [LineMode.running, .emptying],
    OnlyEvent (.opens .pocket) (beforePocket mode fresh) ∧ (beforePocket mode fresh).line.mode.acting = true ∧
      (∀ p : Fin 18, p ≠ 0 → ((beforePocket mode fresh).cell p).waits = false) ∧
      ∀ p : Fin 24, ((beforePocket mode fresh).clampAt p).waits = false := by decide +kernel

/-- A book that still waits for its format. -/
def unformed : Book := { fresh with format := .pending }

theorem witness_PocketStartFeeds_usePoint : ∀ mode ∈ [LineMode.running, .halted],
    OnlyEvent (.opens .pocket) (beforePocket mode unformed) ∧ (beforePocket mode unformed).cell 1 = .holding unformed ∧
      unformed.format = .pending ∧ unformed.entry = some 0 ∧
      (beforePocket mode unformed).cache.entries[(0 : Fin 16)].stale = false ∧
      (∀ p : Fin 18, 1 < p → ((beforePocket mode unformed).cell p).waits = false) ∧
      ∀ p : Fin 24, ((beforePocket mode unformed).clampAt p).waits = false := by decide +kernel

/-- A line whose pocket `k + 1` feeds a book. -/
def feeding (k : Fin 16) : State :=
  { (line .running).setCell (pocketPosition k) (.holding fresh) with
    gathering.pockets := (Vector.replicate 16 ⟨false, 0, none, none⟩).set k ⟨false, 2, some 501, none⟩ }

theorem witness_PocketVerdict : ∀ x ∈ [((0 : Fin 16), 0), (5, 4)],
    (feeding x.1).gathering.pockets[x.1].feed.isSome = true ∧ (feeding x.1).cell (pocketPosition x.1) = .holding fresh ∧
      (feeding x.1).jobCopy fresh = some job ∧ job.sigFor x.1 = job.sigs[x.2]? ∧ (job.sigFor x.1).isSome = true ∧
      fresh.spoil = none := by decide +kernel

theorem witness_LoadAndNip :
    (OnlyEvent (.closes .load) (beforeEnd .load (line .running)) ∧
        .load ∈ (beforeEnd .load (line .running)).stations.engaged) ∧
      (OnlyEvent (.opens .nip) ((beforeStart .nip (line .running)).setClamp 10 (.holding book)) ∧
        (line .running).line.mode.acting = true ∧
        ((beforeStart .nip (line .running)).setClamp 10 (.holding book)).clampAt 10 = .holding book ∧ book.spoil = none) ∧
      OnlyEvent (.closes .nip) ((beforeEnd .nip (line .running)).setClamp 10 (.holding book)) ∧
        .nip ∈ ((beforeEnd .nip (line .running)).setClamp 10 (.holding book)).stations.engaged ∧
        ((beforeEnd .nip (line .running)).setClamp 10 (.holding book)).clampAt 10 = .holding book := by decide +kernel

/-- A line whose gauge has taken four conversions on a book. -/
def gauged : State :=
  { (beforeEnd .gauge (line .running)).setClamp 2 (.holding fresh) with format := ⟨⟨.idle, 0, false, false, 0⟩, some ⟨4, 472⟩⟩ }

theorem witness_GaugeServes :
    (OnlyEvent (.opens .gauge) ((beforeStart .gauge (line .running)).setClamp 2 (.holding fresh)) ∧
        (line .running).line.mode.acting = true ∧ (beforeStart .gauge (line .running)).format.converter.doing = .idle ∧
        ((beforeStart .gauge (line .running)).setClamp 2 (.holding fresh)).clampAt 2 = .holding fresh ∧ fresh.spoil = none) ∧
      OnlyEvent (.closes .gauge) gauged ∧ .gauge ∈ gauged.stations.engaged ∧ .gauge ∈ gauged.stations.serving ∧
        gauged.clampAt 2 = .holding fresh ∧ fresh.entry = some 0 ∧ gauged.cache.entries[(0 : Fin 16)].copy = some job ∧
        gauged.cache.entries[(0 : Fin 16)].stale = false ∧ gauged.format.gauge = some ⟨4, 472⟩ := by decide +kernel

theorem witness_GaugeFormulas :
    fresh.atLaunch = some (launchFormat job 0 stock) ∧ fresh.spoil = none ∧ fresh.warnings = ⟨false, false, false⟩ ∧
      job.glueMargin ≤ job.height ∧ (⟨1, 100⟩ : GaugeSeq).m < 2 ∧ 2 ≤ (⟨2, 237⟩ : GaugeSeq).m := by decide +kernel

/-- A line whose miller integrates the load of a book. -/
def milling : State :=
  { (beforeEnd .mill (line .running)).setClamp 4 (.holding book) with
    miller := ⟨⟨some 2500, none, none⟩, true, 910, [], true, false⟩ }

theorem witness_MillerServes :
    (OnlyEvent (.opens .mill) ((beforeStart .mill (line .running)).setClamp 4 (.holding book)) ∧
        (line .running).line.mode.acting = true ∧
        ((beforeStart .mill (line .running)).setClamp 4 (.holding book)).clampAt 4 = .holding book ∧ book.spoil = none ∧
        book.gauged = some format) ∧
      (OnlyEvent (.closes .mill) milling ∧ .mill ∈ milling.stations.engaged ∧ milling.line.mode.acting = true ∧
        (milling.clampAt 3).isHolding = false ∧ milling.miller.integrating = true ∧ milling.clampAt 4 = .holding book ∧
        book.gauged = some format) ∧
      ((line .running).setClamp 3 (.holding book)).clampAt 3 = .holding book ∧ book.spoil = none ∧
        book.gauged = some format := by decide +kernel

/-- A book whose glue line is empty. -/
def lineless : Book := { book with gauged := some { format with spineClose := 1241, sideClose := 1241 } }

theorem witness_GlueStationsStart : ∀ x ∈ [(Window.spineGlue, (6 : Fin 24)), (.sideGlue, 7)], ∀ b ∈ [book, lineless],
    OnlyEvent (.opens x.1) ((beforeStart x.1 (line .running)).setClamp x.2 (.holding b)) ∧
      (line .running).line.mode.acting = true ∧
      ((beforeStart x.1 (line .running)).setClamp x.2 (.holding b)).clampAt x.2 = .holding b ∧ b.spoil = none ∧
      b.gauged.isSome = true ∧ (line .running).pot.inBand = true ∧
      { line .running with pot.inBand := false }.pot.inBand = false := by decide +kernel

/-- A line gluing a spine, its valve's points given. -/
def gluing (openAt closeAt : Option Nat) : State :=
  { (line .running).setClamp 6 (.holding book) with
    stations := ⟨[.spineGlue], [.spineGlue]⟩, glue.spine := ⟨openAt, closeAt, openAt.isNone, openAt.isNone, 200, false⟩ }

/-- The same line before the end of its window, with the valve's close point and whether its line is empty. -/
def glueEnd (closeAt : Option Nat) (empty : Bool) : State :=
  { beforeEnd .spineGlue (gluing none none) with glue.spine := ⟨none, closeAt, !empty, !empty, 200, empty⟩ }

theorem witness_SpineValvePoints :
    OnlyEvent .spineOpen (gluing (some 2001) (some 2911)) ∧
      OnlyEvent .spineClose (gluing none (some 2001)) ∧ (gluing none (some 2001)).clampAt 6 = .holding book ∧
      book.gauged = some format ∧
      OnlyEvent .sideOpen
        { gluing none none with stations := ⟨[.sideGlue], []⟩, glue.side := ⟨some 2001, some 2911, false, false, 0, false⟩ } ∧
      OnlyEvent .sideClose
        { gluing none none with stations := ⟨[.sideGlue], []⟩, glue.side := ⟨none, some 2001, true, true, 0, false⟩ } ∧
      OnlyEvent (.closes .sideGlue) (beforeEnd .sideGlue (line .running)) ∧
      .sideGlue ∈ (beforeEnd .sideGlue (line .running)).stations.engaged := by decide +kernel

theorem witness_SpineValvePoints_end : ∀ s ∈ [glueEnd none false, glueEnd (some 3100) false, glueEnd none true],
    s.phase.synced = true ∧ s.phase.counter < 4095 ∧ s.eventValue (.closes .spineGlue) = some (s.phase.counter + 1) ∧
      (∀ f ∈ defaultOrder, f ≠ .closes .spineGlue → f ≠ .spineClose → s.eventValue f ≠ some (s.phase.counter + 1)) ∧
      (s.glue.spine.closeAt = none ∨ s.glue.spine.closeAt = some (s.phase.counter + 1)) ∧
      .spineGlue ∈ s.stations.engaged ∧ .spineGlue ∈ s.stations.serving ∧ s.clampAt 6 = .holding book ∧
      (s.glue.spine.emptyLine = true → s.glue.spine.closeAt = none) := by decide +kernel

/-- A line one count before its COVER window start, the scorer at the scores of the book in the clamp. -/
def covering (b : Book) : State :=
  { (beforeStart .cover (line .running)).setClamp 9 (.holding b) with
    cover.scorer := ⟨some ⟨146000, 152000, 159050, 165050⟩, none, none⟩ }

theorem witness_CoverStartChecksCode : ∀ x ∈ [(book, CoverMode.title), (personal, .personal)],
    OnlyEvent (.opens .cover) (covering x.1) ∧ (covering x.1).line.mode.acting = true ∧
      (covering x.1).clampAt 9 = .holding x.1 ∧ x.1.spoil = none ∧ x.1.atLaunch.map (·.mode) = some x.2 ∧
      x.1.gauged.map (·.cover) = some (some ⟨7050, ⟨146000, 152000, 159050, 165050⟩⟩) ∧
      (covering x.1).cover.scorer.target = none ∧
      (covering x.1).cover.scorer.setting = some ⟨146000, 152000, 159050, 165050⟩ ∧ (covering x.1).cover.emptyA = false ∧
      (covering x.1).cover.emptyB = false := by decide +kernel

theorem witness_CoverStartChecksCode_personal :
    personal.atLaunch.map (fun l => (l.coverTitle, l.personal)) = some (5, 7) ∧
      (∃ c ∈ some (0x00050007#32), c.toNat / 65536 = 5 ∧ c.toNat % 65536 = (7#32).toNat) ∧
      (∀ c ∈ io.cover, c.toNat / 65536 ≠ 5 ∨ c.toNat % 65536 ≠ (7#32).toNat) :=
  ⟨by decide +kernel, ⟨_, rfl, by decide, by decide⟩, fun c h => by cases h; decide⟩

/-- A book whose job has no cover. -/
def coverless : Book :=
  { book with
    atLaunch := some { launchFormat job 0 stock with mode := .noCover }, gauged := some { format with cover := none } }

theorem witness_CoverStartChecksCode_others :
    (∀ b ∈ [coverless, spoiledOf book, spoiledOf personal],
      OnlyEvent (.opens .cover) (covering b) ∧ (covering b).clampAt 9 = .holding b ∧ b.atLaunch.isSome = true) ∧
      coverless.spoil = none ∧ coverless.atLaunch.map (·.mode) = some .noCover ∧ (spoiledOf personal).spoil ≠ none ∧
      (∀ b ∈ [book, personal], ∀ l ∈ b.atLaunch, l.mode ≠ .noCover ∧ l.magazine = .a) ∧
      { covering book with cover.scorer := ⟨none, none, none⟩ }.cover.scorer.setting ≠
        some ⟨146000, 152000, 159050, 165050⟩ ∧
      { covering book with cover.emptyA := true }.cover.emptyA = true := by decide +kernel

theorem witness_CoverStartChecksCode_end :
    OnlyEvent (.closes .cover) ((beforeEnd .cover (line .running)).setClamp 9 (.holding book)) ∧
      .cover ∈ (beforeEnd .cover (line .running)).stations.engaged ∧ (line .running).line.mode.acting = true ∧
      ((beforeEnd .cover (line .running)).setClamp 9 (.holding book)).clampAt 9 = .holding book ∧
      ((line .running).setClamp 8 (.holding book)).clampAt 8 = .holding book ∧ book.spoil = none ∧
      (line .running).clampAt 8 = .empty := by decide +kernel

/-- A line one count before its DELIVER window end. -/
def delivering (n : Nat) (x : Slot) : State :=
  { (beforeEnd .deliver (line .running)).setClamp 17 x with trim.queue := List.replicate n ⟨book, 0, false⟩ }

theorem witness_DeliverEndServed : ∀ x ∈ [(0, Slot.holding book), (11, .holding book), (3, .unknown), (12, .holding book)],
    OnlyEvent (.closes .deliver) (delivering x.1 x.2) ∧ .deliver ∈ (delivering x.1 x.2).stations.engaged ∧
      (delivering x.1 x.2).line.mode ≠ .emptying ∧ MemoryInv (delivering x.1 x.2) ∧ (delivering x.1 x.2).clampAt 17 = x.2 ∧
      (delivering x.1 x.2).trim.queue.length = x.1 ∧
      NoTake (delivering x.1 x.2) ((delivering x.1 x.2).trim.queue ++ [⟨book, 0, decide (format.setTime = 0)⟩]) ∧
      book.gauged = some format := by decide +kernel

theorem witness_DeliverEndServed_spoiled :
    OnlyEvent (.closes .deliver) (delivering 12 (.holding (spoiledOf book))) ∧
      (delivering 12 (.holding (spoiledOf book))).clampAt 17 = .holding (spoiledOf book) ∧
      (spoiledOf book).spoil = some ⟨.inched, ⟨true, 4⟩, 0, false⟩ ∧ MemoryInv (delivering 12 (.holding (spoiledOf book))) := by
  decide +kernel

/-- A line in EMPTYING one count before its DELIVER window end. -/
def lastDelivery (x : Slot) : State := (beforeEnd .deliver (line .emptying)).setClamp 17 x

theorem witness_DeliverEndServed_emptying :
    (∀ x ∈ [Slot.holding book, .holding (spoiledOf book)],
        OnlyEvent (.closes .deliver) (lastDelivery x) ∧ .deliver ∈ (lastDelivery x).stations.engaged ∧
        (lastDelivery x).line.mode = .emptying ∧ (lastDelivery x).inFlight = 1 ∧ MemoryInv (lastDelivery x) ∧
        (lastDelivery x).clampAt 17 = x ∧ ((lastDelivery x).setClamp 4 (.holding book)).inFlight = 2 ∧
        NoTake (lastDelivery x) ((lastDelivery x).trim.queue ++ [⟨book, 0, false⟩])) ∧
      (((lastDelivery .unknown).clampAt 17).isHolding = false ∧
        ((lastDelivery .unknown).setClamp 4 (.holding book)).inFlight = 1) := by decide +kernel

/-- R160: a good book stays in flight in the queue, and a rejected last one takes the line to READY. -/
theorem test_last_delivery :
    (∀ x ∈ [(book, LineMode.emptying), (spoiledOf book, .ready)],
      answers count (lastDelivery (.holding x.1)) (fun t => decide (t.line.mode = x.2)) = true) := by decide +kernel

theorem witness_SpoilPostingRemake :
    MemoryInv (line .running) ∧ (line .running).held book.ticket = some ticket ∧ ticket.made < ticket.qty ∧
      ticket.made + ticket.spoiled + 1 < ticket.launched := by decide +kernel

/-- A ticket with nothing left to come: five launched, four made, one spoiled and counted short. -/
def spent (stop : StopMark) : HeldTicket := { ticket with launched := 5, made := 4, spoiled := 1, short := 1, stop }

theorem witness_SpoilPostingRemake_endCheck :
    (ticket.made < ticket.qty ∧ ticket.made + ticket.spoiled ≠ ticket.launched) ∧
      { lastOne with made := 5 }.made = lastOne.qty ∧
      ∀ stop ∈ [StopMark.noStop, .cancelled, .badJob],
        MemoryInv { line .running with sched.held := [spent stop] } ∧
          { line .running with sched.held := [spent stop] }.held 0 = some (spent stop) ∧
          (spent stop).made < (spent stop).qty ∧ (spent stop).made + (spent stop).spoiled = (spent stop).launched ∧
          (spent stop).spoiled = (spent stop).short + (spent stop).remade ∧
          (spent stop).qty + (spent stop).remade = (spent stop).launched := by decide +kernel

theorem witness_PulsesAndMotionReports : ∀ n ∈ [0, 65535],
    { line .running with glue.spine.flow := n }.glue.spine.flow ≤ 65535 ∧
      { line .running with miller.load := n }.miller.load ≤ 65535 := by decide +kernel

theorem witness_FetchEngineRetries_odd :
    (fetching (Memory.writeWord [] (jobBase 6 + 4) 3) []).cache.fetch = some ⟨6, 3, 0, none, []⟩ ∧
      (attemptReads (Memory.writeWord [] (jobBase 6 + 4) 3) [] 6 []).firstCount.toNat % 2 = 1 := by decide +kernel

theorem witness_FetchEngineRetries_unequal :
    (attemptReads (Memory.writeWord [] (jobBase 6 + 4) 4) [(jobBase 6 + 4, 2)] 6 [1, 0]).firstCount ≠
      (attemptReads (Memory.writeWord [] (jobBase 6 + 4) 4) [(jobBase 6 + 4, 2)] 6 [1, 0]).secondCount := by decide +kernel

theorem witness_FetchEngineRetries_wait :
    { fetching [] [] with cache.fetch := some ⟨6, 3, 0, some 1000, []⟩ }.cache.fetch = some ⟨6, 3, 0, some 1000, []⟩ ∧
      1000 ≤ (fetching [] []).now + 1000 ∧ 0 + 500000 ≤ (fetching [] []).now + 500000 ∧
      (fetching [] []).cache.entries[(3 : Fin 16)].state = .filling := by decide +kernel

theorem witness_FetchCompletesValid :
    (fetching (Memory.writeWords [] recordWords) []).cache.entries[(3 : Fin 16)].state = .filling ∧
      (attemptReads (Memory.writeWords [] recordWords) [] 6 []).firstCount.toNat % 2 = 0 ∧
      (attemptReads (Memory.writeWords [] recordWords) [] 6 []).firstCount =
        (attemptReads (Memory.writeWords [] recordWords) [] 6 []).secondCount ∧
      badJob (attemptReads (Memory.writeWords [] recordWords) [] 6 []).record
        (fun c => ((attemptReads (Memory.writeWords [] recordWords) [] 6 []).stock.find? fun p => decide (p.1 = c)).map
          (·.2)) = none := by decide +kernel

/-- The thickest job and stock: sixteen signatures of 64 leaves at caliper 400 and compression 1,000. -/
def thickest : JobRecord := { job with sigCount := 16, sigs := List.replicate 16 ⟨1, 64, 3, true, 0⟩ }

/-- R103: its expected thickness is the bound, 409,600 µm. -/
theorem test_thickest : expectedThickness thickest (fun _ => some ⟨true, 400, 1000⟩) = 409600 := by decide +kernel

theorem witness_FetchCompletesValid_launch :
    (∀ g ∈ job.entries, (stock g.stock).isSome = true) ∧ (job.magazine = 0 ∧ { job with magazine := 1 }.magazine = 1) ∧
      thickest.sigCount ≤ 16 ∧
      (∀ g ∈ thickest.entries, g.leaves ≤ 64 ∧ (some (StockCopy.mk true 400 1000)).isSome = true) ∧
      ∀ c ∈ some (StockCopy.mk true 400 1000), c.caliper ≤ 400 ∧ c.compression ≤ 1000 := by decide +kernel

/-- A line that holds no ticket and fetches for the POSTED ticket under the cursor. -/
def refusing : State := { fetching postedOnly [] with sched.held := [] }

theorem witness_InvalidRecordRefusesTicket :
    MemoryInv refusing ∧ refusing.sched.held = [] ∧ refusing.cache.fetch = some ⟨6, 3, 0, none, []⟩ ∧
      refusing.cache.entries[(3 : Fin 16)].state = .filling ∧
      (attemptReads postedOnly [] 6 []).firstCount = (attemptReads postedOnly [] 6 []).secondCount ∧
      (attemptReads postedOnly [] 6 []).firstCount.toNat % 2 = 0 ∧
      refusing.mem.ticket refusing.sched.cursor .stage = Stage.posted.word ∧
      refusing.mem.ticket refusing.sched.cursor .request ≠ 1 ∧
      (refusing.mem.ticket refusing.sched.cursor .job).toNat = 6 ∧
      badJob (attemptReads postedOnly [] 6 []).record
        (fun c => ((attemptReads postedOnly [] 6 []).stock.find? fun p => decide (p.1 = c)).map (·.2)) = some 2 := by
  decide +kernel

/-- A line whose held ticket is for the job it fetches. -/
def condemning : State := { fetching [] [] with sched.held := [fetched 6] }

theorem witness_InvalidRecordRefusesTicket_held :
    ScheduleInv condemning ∧ condemning.cache.fetch = some ⟨6, 3, 0, none, []⟩ ∧
      condemning.cache.entries[(3 : Fin 16)].state = .filling ∧ condemning.held condemning.sched.cursor ≠ none ∧
      (fetched 6).job = 6 ∧ (fetched 6).stop = .noStop ∧ (fetched 6).stays ∧
      (attemptReads [] [] 6 []).firstCount = (attemptReads [] [] 6 []).secondCount ∧
      (attemptReads [] [] 6 []).firstCount.toNat % 2 = 0 ∧
      badJob (attemptReads [] [] 6 []).record
        (fun c => ((attemptReads [] [] 6 []).stock.find? fun p => decide (p.1 = c)).map (·.2)) = some 2 := by decide +kernel

/-- A line whose held ticket for the job it fetches has nothing left to come. -/
def ending (made : Nat) : State :=
  { fetching [] [] with
    sched.held := [{ fetched 6 with stage := .draining, qty := 1, launched := 2, made, spoiled := 2 - made, short := 2 - made }] }

theorem witness_InvalidRecordRefusesTicket_ended : ∀ made ∈ [0, 1],
    ScheduleInv (ending made) ∧ MemoryInv (ending made) ∧ (ending made).cache.fetch = some ⟨6, 3, 0, none, []⟩ ∧
      (ending made).mem.ticket (ending made).sched.cursor .stage ≠ 1 ∧
      ((ending made).sched.held.filter fun x => decide (x.job = 6 ∧ x.stop = .noStop ∧ x.endsStopped)).length = 1 := by
  decide +kernel

/-- R32, R39: the ticket so stopped ends FAILED with reason BAD_JOB, or DONE when it has its quantity. -/
theorem test_stopped_ticket_ends :
    ∀ x ∈ [(0, (5 : Word)), (1, 4)],
      answers (.fetchAttemptEnd 0 []) (ending x.1) (fun t =>
        decide (t.sched.held = []) && decide (t.mem.ticket (fetched 6).index .stage = x.2)) = true := by decide +kernel

/-- A line whose converter makes a conversion that ends at 25 µs. -/
def converting (d : Converting) (m : LineMode) : State := { line m with format.converter := ⟨d, 0, false, true, 25⟩ }

theorem witness_GaugeConversionEnds :
    (converting .gauge .running).format.converter.doing = .gauge ∧
      (converting .gauge .running).format.converter.endsAt ≤ (converting .gauge .running).now + 25 := by decide +kernel

/-- Reading 683 is 200.0 °C, the working setpoint and its 30.0 °C; reading 581 is 170.2 °C. -/
theorem witness_TemperatureCompletion : ∀ x ∈ [(some (683 : BitVec 10), false), (some 581, true), (none, false), (none, true)],
    (converting .temp .warming).format.converter.doing = .temp ∧
      (converting .temp .warming).format.converter.endsAt ≤ (converting .temp .warming).now + 25 ∧
      ∀ v ∈ x.1.map (fun r => r.toNat * 3000 / 1024),
        (x.2 = false → v ≤ (converting .temp .warming).config.settings.workingSet + 300) ∧
          (x.2 = true → (converting .temp .warming).config.settings.workingSet < v) := by decide +kernel

theorem witness_OverheatHalts :
    ((converting .temp .running).pot.overheat = false ∧ (converting .temp .running).format.converter.endsAt ≤ 25 ∧
        (converting .temp .running).config.settings.workingSet + 300 < (684 : BitVec 10).toNat * 3000 / 1024) ∧
      ({ converting .temp .halted with pot.overheat := true }.pot.overheat = true ∧
        (converting .temp .halted).line.mode ≠ .warming ∧
        (580 : BitVec 10).toNat * 3000 / 1024 ≤ (converting .temp .halted).config.settings.workingSet) := by decide +kernel

theorem witness_ConverterAndHeaterTimers :
    (line .running).pot.conversionAt ≤ (line .running).now + 100000 ∧
      (line .running).pot.periodStart + 1000000 ≤ (line .running).now + 1000000 ∧
      { line .running with pot.applied := 255 }.pot.applied * 1000000 ≤
        ({ line .running with pot.applied := 255 }.now + 996094 - (line .running).pot.periodStart) * 256 := by decide +kernel

/-- A line with two books in its cooling queue, the second eligible. -/
def cooling : State := { line .running with trim.queue := [⟨book, 0, false⟩, ⟨book, 0, true⟩] }

theorem witness_TakeFromTheQueue :
    cooling.trim.queue = ⟨book, 0, false⟩ :: [⟨book, 0, true⟩] ∧ cooling.trim.phase = .idle ∧
      cooling.line.causes.estop = false ∧ cooling.line.causes.guardOpen = false ∧ book.gauged = some format ∧
      0 + format.setTime * 1000 ≤ cooling.now + 1500000 := by decide +kernel

/-- A book of set time 0. -/
def unset : Book := { book with gauged := some { format with setTime := 0 } }

theorem witness_TakeFromTheQueue_append :
    OnlyEvent (.closes .deliver) (delivering 0 (.holding unset)) ∧
      .deliver ∈ (delivering 0 (.holding unset)).stations.engaged ∧ (delivering 0 (.holding unset)).trim.queue = [] ∧
      (delivering 0 (.holding unset)).trim.phase = .idle ∧ (delivering 0 (.holding unset)).line.causes.guarded = false ∧
      (delivering 0 (.holding unset)).clampAt 17 = .holding unset ∧ unset.spoil = none ∧
      unset.gauged = some { format with setTime := 0 } := by decide +kernel

theorem witness_TakeFromTheQueue_expiries :
    ∀ s ∈ [cooling, { cooling with trim := { cutting with queue := [⟨book, 0, false⟩] } },
        { cooling with line.causes.guardOpen := true }],
      (∀ e ∈ s.trim.queue[0]?, e.eligible = false ∧ 0 + format.setTime * 1000 ≤ s.now + 1500000 ∧
          s.now + 1499999 < 0 + format.setTime * 1000) ∧
        s.trim.queue[11]? = none ∧
        (s.trim.phase = .cutting ∨ s.line.causes.guardOpen = true → NoTake s (s.trim.queue.set 0 ⟨book, 0, true⟩)) ∧
        NoTake { s with trim.queue := [⟨book, 0, false⟩, ⟨book, 0, false⟩] } [⟨book, 0, false⟩, ⟨book, 0, true⟩] := by
  decide +kernel

/-- A trimmer that positions its knives. -/
def positioning : State :=
  { line .running with
    trim := { cutting with phase := .positioning, cutAt := none, limitAt := some 99, knives := ⟨none, some format.knives, none⟩ } }

theorem witness_KnifeReportStartsTheCut :
    (line .running).trim.knives.target = none ∧ positioning.trim.phase = .positioning ∧
      positioning.trim.target = some format.knives ∧ positioning.trim.knives.target = some format.knives := by decide +kernel

/-- A line halted by a POSITIONING fault, with its books and what the knives move on to. -/
def misplaced (books : List Book) (next : Option KnifeSet) : State :=
  { line .halted with
    trim := { positioning.trim with
      phase := .fault, limitAt := none, reason := .positioning, books, knives := ⟨none, some format.knives, next⟩ } }

theorem witness_KnifeReportStartsTheCut_fault :
    ∀ s ∈ [misplaced [book] none, misplaced [] none, misplaced [book] (some ⟨1, 2, 3⟩)],
      s.trim.phase = .fault ∧ s.trim.reason = .positioning ∧ s.trim.target = some format.knives ∧
        s.trim.knives.target = some format.knives ∧ NoTake { s with trim.phase := .idle } s.trim.queue := by decide +kernel

/-- A line halted by a STROKE fault without books. -/
def stroke : State :=
  { line .halted with trim := { cutting with phase := .fault, reason := .stroke, cutAt := none, books := [] } }

theorem witness_TrimmerFaultsHalt :
    (positioning.trim.phase = .positioning ∧ ∃ u ∈ positioning.trim.limitAt, u ≤ positioning.now + 99) ∧
      (cutLine.trim.phase = .cutting ∧ ∃ u ∈ cutLine.trim.cutAt, u ≤ cutLine.now + 0) ∧
      stroke.trim.phase = .fault ∧ stroke.trim.reason = .stroke ∧ stroke.trim.books = [] ∧
        ∀ e ∈ stroke.trim.queue.head?, e.eligible = false := by decide +kernel

theorem witness_TrimmerFaultsHalt_holding :
    MemoryInv { stroke with trim.books := [book] } ∧ stroke.line.mode ≠ .emptying ∧ book.warnings = ⟨false, false, false⟩ ∧
      stroke.held book.ticket = some ticket ∧ stroke.mem.cancelled book.ticket = false ∧ ticket.made + 1 ≠ ticket.qty ∧
      (ticket.launched : Int) - (ticket.made + 1) - ticket.spoiled ≠ 0 := by decide +kernel

theorem witness_CutPostsMade : ∀ x ∈ [ticket, lastOne],
    MemoryInv { cutLine with sched.held := [x] } ∧ cutLine.trim.phase = .cutting ∧
      (∃ u ∈ cutLine.trim.cutAt, u ≤ cutLine.now + 0) ∧ cutLine.line.mode ≠ .emptying ∧
      (∀ e ∈ cutLine.trim.queue.head?, e.eligible = false) ∧ cutLine.trim.books = [book] ∧
      book.warnings = ⟨false, false, false⟩ ∧ { cutLine with sched.held := [x] }.held book.ticket = some x ∧
      cutLine.mem.cancelled book.ticket = false := by decide +kernel

theorem witness_CutPostsMade_counts :
    (ticket.made + 1 ≠ ticket.qty ∧ (ticket.launched : Int) - (ticket.made + 1) - ticket.spoiled ≠ 0) ∧
      lastOne.made + 1 = lastOne.qty := by decide

/-- A book with all three warnings. -/
def warned : Book := { book with warnings := ⟨true, true, true⟩ }

/-- A book of another ticket. -/
def other : Book := { book with ticket := 1, serial := 502 }

theorem witness_CutPostsMade_warnings :
    { cutLine with trim.books := [warned] }.trim.books = [warned] ∧ warned.gauged = some format ∧
      cutLine.held warned.ticket = some ticket ∧ ticket.made + 1 < ticket.qty ∧
      ticket.made + ticket.spoiled + 1 < ticket.launched ∧ warned.warnings ≠ ⟨false, false, false⟩ := by decide +kernel

theorem witness_CutPostsMade_twoUp : ∀ b ∈ [book, other],
    MemoryInv { cutLine with trim.books := [book, b], sched.held := [ticket, { ticket with index := 1 }] } ∧
      { cutLine with sched.held := [ticket, { ticket with index := 1 }] }.held b.ticket =
        some { ticket with index := b.ticket } ∧
      b.warnings = ⟨false, false, false⟩ ∧ cutLine.mem.cancelled b.ticket = false ∧ ticket.made + 2 < ticket.qty ∧
      ticket.made + ticket.spoiled + 2 < ticket.launched := by decide +kernel

/-- A line in EMPTYING whose last records are in the trimmer. -/
def lastCut (books : List Book) : State := { line .emptying with trim := { cutting with books } }

theorem witness_CutPostsMade_emptying :
    (∀ books ∈ [[book], [warned], [book, other]],
        MemoryInv (lastCut books) ∧ (lastCut books).trim.phase = .cutting ∧
        (∃ u ∈ (lastCut books).trim.cutAt, u ≤ (lastCut books).now + 0) ∧ (lastCut books).line.mode = .emptying ∧
        (lastCut books).trim.books = books ∧ (lastCut books).inFlight = books.length) ∧
      ∀ books ∈ [[book], [book, other]],
        books.length < { lastCut books with trim.queue := [⟨book, 0, false⟩] }.inFlight := by decide +kernel

/-- R160: the last cut takes the line to READY. -/
theorem test_last_cut : answers (.cutTimerExpiry 0 true) (lastCut [book, other]) (fun t =>
    decide (t.line.mode = .ready) && decide (t.inFlight = 0)) = true := by decide +kernel

/-- A trimmer's eligible queue behind what the trimmer is at. -/
def behind (s : State) : State := { s with trim.queue := [⟨book, 0, true⟩, ⟨other, 0, true⟩] }

theorem witness_TakeFromTheQueue_returns :
    (∀ s ∈ [behind cutLine, behind { stroke with trim.books := [book, other] }, behind stroke, behind (misplaced [] none),
          behind (line .running)],
        s.trim.queue = ⟨book, 0, true⟩ :: [⟨other, 0, true⟩] ∧ s.line.causes.guarded = false ∧ MemoryInv s) ∧
      ((behind cutLine).trim.phase = .cutting ∧ ∃ u ∈ (behind cutLine).trim.cutAt, u ≤ (behind cutLine).now + 0) ∧
      ((behind stroke).trim.phase = .fault ∧ (behind stroke).trim.reason = .stroke ∧ (behind stroke).trim.books = []) ∧
      ((behind (misplaced [] none)).trim.reason = .positioning ∧ (behind (misplaced [] none)).trim.books = [] ∧
        (behind (misplaced [] none)).trim.target = some format.knives ∧
        (behind (misplaced [] none)).trim.knives = ⟨none, some format.knives, none⟩) ∧
      ∀ x ∈ [(true, false), (false, true)],
        { behind (line .halted) with
            pins.estop := x.1, pins.guardOpen := x.2, line.causes.estop := x.1, line.causes.guardOpen := x.2 }.trim.phase =
          .idle := by decide +kernel

/-- R132, R133: the trimmer takes at its return to IDLE from a cut, two books with the two-up option on. -/
theorem test_take_at_the_return : answers (.cutTimerExpiry 0 true) (behind cutLine) (fun t =>
    decide (t.trim.phase = .cutting) && decide (t.trim.books = [book, other]) && decide (t.trim.queue = [])) = true := by
  decide +kernel

/-- A halted line with both guards' levels on. -/
def guarded : State :=
  { line .halted with pins := ⟨true, true, false, false, false⟩, line.causes := ⟨true, true, false, false, false, false, false⟩ }

theorem witness_GuardsHaltAndRelease :
    ((line .running).pins.estop = false ∧ (line .running).pins.guardOpen = false ∧ (line .running).trim.books = [] ∧
        (line .running).trim.phase = .idle ∧ (line .running).line.mode ≠ .emptying) ∧
      guarded.pins.estop = true ∧ guarded.pins.guardOpen = true ∧
        NoTake { guarded with line.causes.estop := false } guarded.trim.queue ∧
        NoTake { guarded with line.causes.guardOpen := false } guarded.trim.queue := by decide +kernel

/-- A line whose trimmer holds books in a state. -/
def holdingBooks (p : TrimPhase) (books : List Book) : State :=
  { line (if p = .fault then .halted else .running) with
    trim := { cutting with
      phase := p, books, cutAt := if p = .cutting then some 0 else none, limitAt := if p = .positioning then some 99 else none
      reason := if p = .fault then .positioning else .noFault } }

theorem witness_GuardAbortsTheCut : ∀ p ∈ [TrimPhase.positioning, .cutting, .fault], ∀ books ∈ [[book], [book, other]],
    MemoryInv (holdingBooks p books) ∧ (holdingBooks p books).pins.estop = false ∧
      (holdingBooks p books).pins.guardOpen = false ∧ (holdingBooks p books).line.causes.guarded = false ∧
      (holdingBooks p books).trim.phase ≠ .idle ∧ (holdingBooks p books).trim.books ≠ [] ∧
      (holdingBooks p books).trim.books.length ≤ 2 ∧ ∀ b ∈ (holdingBooks p books).trim.books, b.spoil = none := by
  decide +kernel

theorem witness_StartKeyRunsAndInches :
    (line .ready).pins.startKey = false ∧ (line .ready).line.mode = .ready ∧
      ((line .halted).pins.startKey = false ∧ (line .halted).line.mode = .halted ∧ (line .halted).line.causes.estop = false) ∧
      (line .cold).pins.startKey = false ∧ (line .cold).line.mode ≠ .ready ∧ (line .cold).line.mode ≠ .halted := by
  decide +kernel

theorem witness_LineTimersChangeMode :
    (∀ r : Bool, { line .warming with line.stableAt := some 5, line.runWhenReady := r }.line.mode = .warming ∧
        ∃ u ∈ { line .warming with line.stableAt := some 5, line.runWhenReady := r }.line.stableAt, u ≤ 0 + 5) ∧
      ∀ m ∈ [LineMode.ready, .setback], { line m with line.restAt := some 5 }.line.mode = m ∧
        ∃ u ∈ { line m with line.restAt := some 5 }.line.restAt, u ≤ 0 + 5 := by decide +kernel

theorem witness_CommandsTurnedAway_taken :
    { line .ready with port.taken := true }.port.taken = true ∧ slotCommand (.warm 0) = some (2, none) ∧
      slotCommand (.clearClamp 0 9) = some (6, some 9) ∧ slotCommand (.unknownCommand 0 12) = some (12, none) := by
  decide +kernel

theorem witness_CommandsTurnedAway_modes :
    (∀ m ∈ [LineMode.warming, .running, .emptying, .halted], (line m).port.taken = false ∧ (line m).line.mode ≠ .cold ∧
        (line m).line.mode ≠ .setback ∧ (line m).line.mode ≠ .ready) ∧
      ((line .ready).line.mode ≠ .running ∧ (line .ready).line.mode ≠ .halted) ∧
      ((line .cold).line.mode ≠ .setback ∧ (line .cold).line.mode ≠ .ready ∧ (line .cold).line.mode ≠ .warming) ∧
      (line .running).line.mode ≠ .cold ∧ (line .running).line.mode ≠ .ready ∧ (line .running).line.mode ≠ .setback := by
  decide +kernel

theorem witness_CommandsTurnedAway_causes :
    ({ line .cold with line.causes.jam := true }.line.mode = .cold ∧
        { line .cold with line.causes.jam := true }.line.causes.any = true) ∧
      { line .halted with line.causes.jam := true }.line.mode = .halted ∧
        { line .halted with line.causes.jam := true }.line.causes.jam = true := by decide +kernel

theorem witness_CommandsTurnedAway_arguments :
    23 < (24 : Word).toNat ∧ (23 : Word).toNat ≤ 23 ∧ (0 : Word).toNat = 0 ∧ 11 < (12 : Word).toNat ∧
      ((line .ready).setClamp 4 (.holding book)).inFlight ≠ 0 ∧ ((line .ready).setClamp 4 .unknown).anyUnknown = true ∧
      ((line .emptying).setClamp 4 (.holding book)).inFlight ≠ 0 := by decide +kernel

theorem witness_ModeCommandsAccepted :
    (∀ m ∈ [LineMode.cold, .setback, .ready, .warming, .running], (line m).port.taken = false ∧ (line m).line.mode = m ∧
        (line m).line.causes.any = false) ∧
      ((line .running).setClamp 4 (.holding book)).inFlight ≠ 0 ∧ (line .running).inFlight = 0 := by decide +kernel

theorem witness_HaltHalts :
    (∀ m ∈ [LineMode.running, .emptying, .ready, .warming, .cold, .setback, .halted],
        (line m).port.taken = false ∧ (line m).line.mode = m) ∧
      ∃ t, exec (.resume 0) { line .halted with line.haltStart := some 0, line.causes.hostHalt := true } = .next t ∧
        t.line.causes.hostHalt = false := by
  refine ⟨by decide +kernel, ?_⟩
  have h : answers (.resume 0) { line .halted with line.haltStart := some 0, line.causes.hostHalt := true }
      (fun t => !t.line.causes.hostHalt) = true := by decide +kernel
  unfold answers at h
  split at h
  · exact ⟨_, ‹_›, by simpa using h⟩
  · cases h

theorem witness_ResumeAppliesOpenTime :
    { line .halted with line.haltStart := some 0 }.port.taken = false ∧
      { line .halted with line.haltStart := some 0 }.line.mode = .halted ∧
      { line .halted with line.haltStart := some 0 }.line.causes = ⟨false, false, false, false, false, false, false⟩ ∧
      { line .halted with line.haltStart := some 0 }.line.haltStart = some 0 ∧
      (line .halted).config.settings.openTime ≤ ((line .halted).now + 8000000 - 0) / 1000 := by decide +kernel

/-- A halted line with both changeovers pending, and books at carousel positions 3 and 8. -/
def changing (m : LineMode) : State :=
  { ((line m).setClamp 3 (.holding book)).setClamp 8 (.holding book) with
    miller.pending := true, cover.pending := true, line.haltStart := if m = .halted then some 0 else none }

theorem witness_PendingTaken : ∀ m ∈ [LineMode.halted, .ready, .warming],
    (changing m).miller.pending = true ∧ (changing m).cover.pending = true ∧
      (changing m).clampAt 3 = .holding book ∧ (changing m).clampAt 8 = .holding book ∧ book.spoil = none ∧
      (Slot.goodValues (.holding book)).map (·.millDepth) = some 2500 ∧
      (Slot.goodValues (.holding (spoiledOf book))).map (·.millDepth) = none ∧ (changing m).port.taken = false ∧
      (changing m).line.causes.any = false := by decide +kernel

/-- R16: the pending changeovers set out at the return to RUNNING. -/
theorem test_pending_changeovers :
    ∀ x ∈ [(Instr.resume 0, LineMode.halted), (.start 0, .ready)],
      answers x.1 (changing x.2) (fun t =>
        decide (t.miller.drive.target = some 2500) && decide (t.cover.scorer.target = some ⟨146000, 152000, 159050, 165050⟩) &&
          !t.miller.pending && !t.cover.pending) = true := by decide +kernel

/-- A halted line with a book in clamp 9. -/
def stopped (b : Book) : State := (line .halted).setClamp 9 (.holding b)

theorem witness_ClearClamp : ∀ p ∈ [(0 : Fin 24), 9, 23],
    (stopped book).port.taken = false ∧ (stopped book).line.mode = .halted ∧ MemoryInv (stopped book) ∧
      (BitVec.ofNat 32 p.val).toNat ≤ 23 ∧ (stopped book).carousel.places[p].number = (BitVec.ofNat 32 p.val).toNat ∧
      (∀ q : Fin 24, q ≠ p → (stopped book).carousel.places[q].number ≠ (BitVec.ofNat 32 p.val).toNat) ∧
      ((stopped book).clampAt p).isHolding = decide (p = 9) := by decide +kernel

theorem witness_ClearClamp_holding :
    (stopped book).clampAt 9 = .holding book ∧ book.entry = none ∧ (stopped fresh).clampAt 9 = .holding fresh ∧
      fresh.entry = some 0 ∧ answers (.clearClamp 0 9) (stopped fresh) (fun t =>
        decide (t.cache.entries[(0 : Fin 16)].locks = 0)) = true := by decide +kernel

theorem witness_SetCursor :
    State.reset.port.taken = false ∧ 255 < (256 : Word).toNat ∧ (255 : Word).toNat ≤ 255 ∧
      (line .running).sched.held ≠ [] ∧ State.reset.sched.held = [] ∧ State.reset.sched.remakes = [] := by decide +kernel

theorem witness_PurgeCache :
    (fetching [] []).port.taken = false ∧ (fetching [] []).cache.fetch = some ⟨6, 3, 0, none, []⟩ ∧
      (line .running).cache.fetch = none := by decide +kernel

theorem witness_LoadConfig :
    (∀ m ∈ [LineMode.cold, .ready, .setback], (line m).port.taken = false ∧ (line m).line.mode = m ∧ (line m).inFlight = 0 ∧
        (line m).anyUnknown = false) ∧
      (reading []).port.reading = some [] ∧ firstBadField (configReads [] [] []) = some 0 ∧
      firstBadField (configReads (Memory.writeWords [] configWords) [] []) = none ∧
      settingsOfWords (configReads (Memory.writeWords [] configWords) [] []) = Settings.defaults ∧
      (line .ready).port.reading = none := by decide +kernel

theorem witness_HostWrites :
    (∀ a ∈ [0x028, 0x01FC, 0x0200, 0x47FC, 0x4800, 0xFFFC], WellFormed (.hostWordWrite 0 a 1) = true) ∧
      AttentionInv (fetching [] []) ∧ 0x10000 % 4 = 0 ∧ 0xFFFE % 4 ≠ 0 ∧ 0x064 + 4 * 7 = 0x080 := by decide +kernel

/-- A line whose slot words hold a code and an argument. -/
def coded (m : LineMode) (code arg1 : Word) : State :=
  { line m with mem := Memory.writeWords [] [(Header.commandCode, code), (Header.arg1, arg1)] }

theorem witness_HostWrites_issued :
    MemoryInv (coded .cold 2 0) ∧ commandRow 0 ((coded .cold 2 0).word Header.commandCode) 0 = .warm 0 ∧
      commandRow 0 6 ((coded .halted 6 9).word Header.arg1) = .clearClamp 0 9 ∧ commandRow 0 12 0 = .unknownCommand 0 12 ∧
      { coded .cold 2 0 with port.taken := true }.port.taken = true := by decide +kernel

/-- R171 to R173: an ISSUED written by itself carries out the command whose code stands, and so does its code's row. -/
theorem test_issued_word :
    ∀ x ∈ [(Instr.hostWordWrite 0 0x020 1, (2 : Word)), (.unknownCommand 0 2, 0)],
      answers x.1 (coded .cold x.2 0) (fun t =>
        decide (t.line.mode = .warming) && decide (t.word Header.commandState = 3) && decide (t.word Header.result = 0)) =
          true := by decide +kernel

/-- R168, R171: a write of the schedule-notice word wakes the line. -/
theorem test_notice_word : answers (.hostWordWrite 0 0x01C 7)
    { line .ready with mem := Memory.writeWords [] [(Header.wakeEnables, 1)] } (fun t => decide (t.line.mode = .running)) =
      true := by decide +kernel

end Sys2Proof.Tests
end

section
/-!
The command slot from the host's write to the answer (R172), for any command carried out whole within its arrival; and
SET_CURSOR (R34) as a use of it.
-/

namespace Sys2Proof.Machine

/-! ### Words read back and time passed -/

/-- A word that overlaps none of the words written reads as before. -/
theorem BytesBut.word {ws : List Nat} {s t : State} (h : BytesBut ws s t) {a : Nat}
    (ha : ∀ w ∈ ws, a + 4 ≤ w ∨ w + 4 ≤ a) : t.word a = s.word a := by
  refine Memory.readWord_congr fun i hi => h (a + i) fun w hw => ?_
  have := ha w hw
  omega

theorem State.elapse_sameBut (dt : Nat) (s : State) : SameBut [.now] s (s.elapse dt) := by
  intro p hp
  cases p
  case now => exact absurd (List.mem_singleton_self _) hp
  all_goals rfl

theorem State.putWord_sameBut (a : Nat) (w : Word) (s : State) : SameBut [] s (s.putWord a w) := by
  intro p _
  cases p <;> rfl

/-! ### The host's write and the taking of a command (R172) -/

/-- The words that a command with or without an argument and its answer write. -/
def issueWords : Option Word → List Nat
  | some _ => slotWordsArg
  | none => slotWords

theorem issueWords_subset (arg : Option Word) : issueWords arg ⊆ slotWordsArg := by
  cases arg with
  | none => exact List.subset_cons_self _ _
  | some w => exact List.Subset.refl _

/-- The three words of a command are header words, so issuing it touches the memory only. -/
theorem State.hostIssue_effect (code : Word) (arg : Option Word) (s : State) :
    SameBut [] s (s.hostIssue code arg) ∧ BytesBut (issueWords arg) s (s.hostIssue code arg) := by
  cases arg with
  | none =>
    simp only [State.hostIssue, State.hostWrite_header _ _ (show Header.commandCode < 0x0200 by decide),
      State.hostWrite_header _ _ (show Header.commandState < 0x0200 by decide)]
    exact ⟨(State.putWord_sameBut _ _ _).trans (State.putWord_sameBut _ _ _),
      ((State.putWord_bytes _ _ _).trans (State.putWord_bytes _ _ _)).mono (by decide)⟩
  | some w =>
    simp only [State.hostIssue, State.hostWrite_header _ _ (show Header.commandCode < 0x0200 by decide),
      State.hostWrite_header _ _ (show Header.arg1 < 0x0200 by decide),
      State.hostWrite_header _ _ (show Header.commandState < 0x0200 by decide)]
    exact ⟨((State.putWord_sameBut _ _ _).trans (State.putWord_sameBut _ _ _)).trans (State.putWord_sameBut _ _ _),
      (((State.putWord_bytes _ _ _).trans (State.putWord_bytes _ _ _)).trans (State.putWord_bytes _ _ _)).mono
        (w := slotWordsArg) (by decide)⟩

theorem State.slotTaken_effect (s : State) :
    s.slotTaken.port = { s.port with taken := true } ∧ SameBut [.port] s s.slotTaken ∧
      BytesBut [Header.commandState] s s.slotTaken := by
  refine ⟨rfl, ?_, fun x h => State.putWord_bytes Header.commandState 2 s x h⟩
  intro p hp
  cases p
  case port => exact absurd (List.mem_singleton_self _) hp
  all_goals rfl

/-- The state in which a command is carried out: its time has passed, it is issued, the slot has taken it. -/
def State.taking (dt : Nat) (code : Word) (arg : Option Word) (s : State) : State :=
  ((s.elapse dt).hostIssue code arg).slotTaken

/-- An idle slot carries the command out in `State.taking` and answers. -/
theorem State.command_of_idle (dt : Nat) (code : Word) (arg : Option Word) (run : State → State × Reply) (s : State)
    (idle : s.port.taken = false) :
    (s.elapse dt).command code arg run =
      (run (s.taking dt code arg)).1.slotDone (run (s.taking dt code arg)).2 := by
  have port : ((s.elapse dt).hostIssue code arg).port = s.port :=
    ((s.elapse dt).hostIssue_effect code arg).1 .port (by decide)
  have taken : ¬ ((s.elapse dt).hostIssue code arg).port.taken = true := by simp [port, idle]
  exact if_neg taken

/-- Before a command acts, only the slot's words, the time and the taken mark have changed. -/
theorem State.taking_effect (dt : Nat) (code : Word) (arg : Option Word) (s : State) :
    (s.taking dt code arg).now = s.now + dt ∧ (s.taking dt code arg).port = { s.port with taken := true } ∧
      SameBut [.now, .port] s (s.taking dt code arg) ∧ BytesBut (issueWords arg) s (s.taking dt code arg) := by
  obtain ⟨issuedSame, issuedBytes⟩ := (s.elapse dt).hostIssue_effect code arg
  obtain ⟨takenPort, takenSame, takenBytes⟩ := ((s.elapse dt).hostIssue code arg).slotTaken_effect
  refine ⟨?_, ?_, (((s.elapse_sameBut dt).trans issuedSame).trans takenSame).mono (by decide), ?_⟩
  · exact (takenSame .now (by decide)).trans (issuedSame .now (by decide))
  · exact takenPort.trans (by rw [issuedSame .port (by decide), State.elapse_port])
  · have both := ((BytesBut.of_mem (w := []) (s.elapse_mem dt)).trans issuedBytes).trans takenBytes
    have state : Header.commandState ∈ issueWords arg := by
      cases arg with
      | none => exact List.mem_cons_self
      | some w => exact List.mem_cons_of_mem _ List.mem_cons_self
    exact both.mono fun x hx => (List.mem_append.mp hx).elim id fun h => List.mem_singleton.mp h ▸ state

/-! ### The answer (R172) -/

/-- The answer touches the slot's part of the state only. -/
theorem State.slotDone_sameBut (r : Reply) (s : State) : SameBut [.port] s (s.slotDone r) := by
  intro p hp
  cases p
  case port => exact absurd (List.mem_singleton_self _) hp
  all_goals simp [Part.same, State.slotDone]

theorem State.slotDone_port (r : Reply) (s : State) :
    (s.slotDone r).port =
      { s.port with taken := false, counts := (s.slotDone r).port.counts, attention := (s.slotDone r).port.attention } :=
  rfl

/-- Where nothing before the answer posted a notice, the whole command posts one of COMMAND_DONE. -/
theorem State.slotDone_noticed (r : Reply) {s v : State} (h : v.port.counts = s.port.counts) :
    Noticed (oneNotice .commandDone) s (v.slotDone r) := by
  have counts : (v.slotDone r).port.counts = s.port.counts.set 0 (s.port.counts[(0 : Fin 8)] + 1) := by
    rw [(v.slotDone_effect r).2.2.1, h]
  have written : (v.slotDone r).word (Header.count 0) = (v.slotDone r).port.counts[(0 : Fin 8)] := by
    rw [State.word, State.slotDone, (State.notify_effect .commandDone _).2.1, (State.notify_effect .commandDone _).1]
    simp [Attention.number]
  intro c
  by_cases hc : c = 0
  · subst hc
    exact ⟨by simp [counts, oneNotice, Attention.number], fun _ => written⟩
  · have ne : (0 : Nat) ≠ c.val := fun k => hc (Fin.ext k.symm)
    exact ⟨by simp [counts, oneNotice, Attention.number, hc, ne], fun k => by simp [oneNotice, Attention.number, hc] at k⟩

theorem State.slotDone_bytes (r : Reply) (s : State) : BytesBut slotWords s (s.slotDone r) :=
  (s.slotDone_effect r).2.2.2.mono (by decide)

/-- A command answered without an effect of its own. -/
theorem State.taking_onlyAnswered (dt : Nat) (code : Word) (arg : Option Word) (r : Reply) (s : State) :
    Later dt s ((s.taking dt code arg).slotDone r) ∧
      OnlyAnswered r.result r.detail s ((s.taking dt code arg).slotDone r) := by
  obtain ⟨now, port, same, bytes⟩ := s.taking_effect dt code arg
  have doneSame := (s.taking dt code arg).slotDone_sameBut r
  refine ⟨(doneSame .now (by decide)).trans now, ((s.taking dt code arg).slotDone_effect r).1,
    State.slotDone_noticed r (by rw [port]), ?_, (same.trans doneSame).mono (by decide), ?_⟩
  · exact ((s.taking dt code arg).slotDone_port r).trans (by rw [port])
  · refine (bytes.trans ((s.taking dt code arg).slotDone_bytes r)).mono fun x hx => ?_
    exact (List.mem_append.mp hx).elim (issueWords_subset arg ·) (List.mem_cons_of_mem _)

/-! ### SET_CURSOR (R34) -/

theorem State.runSetCursor_badArg {arg : Word} (s : State) (h : 255 < arg.toNat) :
    s.runSetCursor arg = (s, .plain .badArg) := if_pos h

theorem State.runSetCursor_busy {arg : Word} (s : State) (range : arg.toNat ≤ 255)
    (busy : s.sched.held ≠ [] ∨ s.sched.remakes ≠ []) : s.runSetCursor arg = (s, .plain .busy) := by
  have notFree : ¬ (s.sched.held = [] ∧ s.sched.remakes = []) := fun free => busy.elim (· free.1) (· free.2)
  rw [State.runSetCursor, if_neg (Nat.not_lt.mpr range), if_neg notFree]

theorem State.runSetCursor_ok {arg : Word} (s : State) (range : arg.toNat ≤ 255) (held : s.sched.held = [])
    (remakes : s.sched.remakes = []) : s.runSetCursor arg = (s.setCursor arg.toNat, .plain .ok) := by
  rw [State.runSetCursor, if_neg (Nat.not_lt.mpr range), if_pos ⟨held, remakes⟩]

theorem State.setCursor_sameBut (i : Nat) (s : State) : SameBut [.sched] s (s.setCursor i) := by
  intro p hp
  cases p
  case sched => exact absurd (List.mem_singleton_self _) hp
  all_goals rfl

theorem exec_setCursor_of_idle (dt : Nat) (arg : Word) (s : State) (idle : s.port.taken = false) :
    exec (.setCursor dt arg) s =
      .next (((s.taking dt 8 (some arg)).runSetCursor arg).1.slotDone ((s.taking dt 8 (some arg)).runSetCursor arg).2) :=
  congrArg Host.Outcome.next (s.command_of_idle dt 8 (some arg) (State.runSetCursor arg) idle)

/-- The cursor set while a command is carried out, and the command answered. -/
theorem State.taking_setCursor (dt : Nat) (arg : Word) (r : Reply) {s t : State}
    (answer : t = ((s.taking dt 8 (some arg)).setCursor arg.toNat).slotDone r) :
    Later dt s t ∧ Answered t r.result r.detail ∧ t.sched = { s.sched with cursor := arg.toNat } ∧
      t.word Header.cursor = arg ∧ Noticed (oneNotice .commandDone) s t ∧ SameBut [.now, .sched, .port] s t ∧
      BytesBut (Header.cursor :: slotWordsArg) s t := by
  subst answer
  obtain ⟨now, port, same, bytes⟩ := s.taking_effect dt 8 (some arg)
  generalize s.taking dt 8 (some arg) = u at now port same bytes ⊢
  obtain ⟨sched, word, cursorBytes⟩ := u.setCursor_effect arg.toNat
  have cursorSame := u.setCursor_sameBut arg.toNat
  generalize u.setCursor arg.toNat = v at sched word cursorBytes cursorSame ⊢
  have doneSame := v.slotDone_sameBut r
  have doneBytes := v.slotDone_bytes r
  have vPort : v.port = u.port := cursorSame .port (by decide)
  have uSched : u.sched = s.sched := same .sched (by decide)
  refine ⟨?_, (v.slotDone_effect r).1, ?_, ?_, State.slotDone_noticed r (by rw [vPort, port]),
    ((same.trans cursorSame).trans doneSame).mono (by decide),
    ((bytes.trans cursorBytes).trans doneBytes).mono (v := slotWordsArg ++ [Header.cursor] ++ slotWords) (by decide)⟩
  · exact (doneSame .now (by decide)).trans ((cursorSame .now (by decide)).trans now)
  · exact (doneSame .sched (by decide)).trans (sched.trans (by rw [uSched]))
  · rw [doneBytes.word (by decide), word, BitVec.ofNat_toNat, BitVec.setWidth_eq]

/-- Settles O56: the three outcomes of SET_CURSOR's execution, each in the state in which the slot has taken it. -/
theorem setCursor : Obligations.SetCursor := by
  intro s dt arg idle
  have run := exec_setCursor_of_idle dt arg s idle
  have sched : (s.taking dt 8 (some arg)).sched = s.sched :=
    (s.taking_effect dt 8 (some arg)).2.2.1 .sched (by decide)
  refine ⟨fun high => ?_, fun range busy => ?_, fun range held remakes => ?_⟩
  · rw [State.runSetCursor_badArg _ high] at run
    exact ⟨_, run, s.taking_onlyAnswered dt 8 (some arg) (.plain .badArg)⟩
  · rw [State.runSetCursor_busy _ range (by rwa [sched])] at run
    exact ⟨_, run, s.taking_onlyAnswered dt 8 (some arg) (.plain .busy)⟩
  · rw [State.runSetCursor_ok _ range (by rwa [sched]) (by rwa [sched])] at run
    exact ⟨_, run, State.taking_setCursor dt arg (.plain .ok) rfl⟩

end Sys2Proof.Machine
end

section
/-!
PURGE_CACHE (R54): what the purge does to the Job cache, and the whole command from the host's write to the answer.
-/

namespace Sys2Proof.Machine

/-! ### A command with an effect of its own (R172) -/

/-- A command whose effect leaves the time and the port alone: it is answered, posts one notice of COMMAND_DONE, and
changes beside the slot only what its effect changes. -/
theorem State.taking_answered (dt : Nat) (code : Word) (arg : Option Word) (r : Reply) {ps : List Part} {ws : List Nat}
    {s v : State} (same : SameBut ps (s.taking dt code arg) v) (bytes : BytesBut ws (s.taking dt code arg) v)
    (now : Part.now ∉ ps) (port : Part.port ∉ ps) :
    Later dt s (v.slotDone r) ∧ Answered (v.slotDone r) r.result r.detail ∧
      Noticed (oneNotice .commandDone) s (v.slotDone r) ∧ SameBut ([.now, .port] ++ ps ++ [.port]) s (v.slotDone r) ∧
      BytesBut (issueWords arg ++ ws ++ slotWords) s (v.slotDone r) := by
  obtain ⟨takenNow, takenPort, takenSame, takenBytes⟩ := s.taking_effect dt code arg
  have counts : v.port.counts = s.port.counts := by
    rw [show v.port = (s.taking dt code arg).port from same .port port, takenPort]
  refine ⟨?_, (v.slotDone_effect r).1, State.slotDone_noticed r counts,
    (takenSame.trans same).trans (v.slotDone_sameBut r), (takenBytes.trans bytes).trans (v.slotDone_bytes r)⟩
  exact (v.slotDone_sameBut r .now (by decide)).trans ((same .now now).trans takenNow)

/-! ### The purge of the Job cache (R54) -/

theorem CacheEntry.purged_eq (x : CacheEntry) :
    x.purged =
      if x.state = .filled ∧ x.locks = 0 then ⟨.empty, none, none, 0, false, false⟩
      else if x.state = .filled then { x with stale := true, job := none }
      else x := by
  rw [CacheEntry.purged, CacheEntry.emptyEntry, ite_and]
  by_cases filled : x.state = .filled
  · rw [if_pos filled, if_pos filled, if_pos filled]
  · rw [if_neg filled, if_neg filled, if_neg filled]

/-- The occupancy counts the entries by number (R44). -/
theorem JobCache.occupancy_eq (c : JobCache) :
    c.occupancy = ((List.finRange 16).filter fun e => decide (c.entries[e].state ≠ .empty)).length := by
  have entries : c.entries.toList = (List.finRange 16).map (c.entries[·]) :=
    List.ext_getElem (by simp) (by simp)
  rw [JobCache.occupancy, entries, List.filter_map, List.length_map]
  rfl

theorem State.purge_entries (s : State) (e : Fin 16) : s.purge.cache.entries[e] = s.cache.entries[e].purged :=
  Vector.getElem_ofFn e.isLt

theorem State.purge_stock (s : State) (c : Fin 64) : s.purge.cache.stock[c] = none :=
  Vector.getElem_replicate c.isLt

theorem State.purge_fetch (s : State) :
    s.purge.cache.fetch =
      s.cache.fetch.map fun f => { f with startedAt := s.now, waitUntil := none, writes := [] } := rfl

theorem State.purge_occupancy (s : State) :
    s.purge.word Header.occupancy = BitVec.ofNat 32 s.purge.cache.occupancy :=
  State.word_putWord_same _ _ _

theorem State.purge_bytes (s : State) : BytesBut [Header.occupancy] s s.purge := by
  unfold State.purge
  exact (BytesBut.of_mem (w := []) (State.updCache_mem _ s)).trans (State.putWord_bytes Header.occupancy _ _)

theorem State.purge_sameBut (s : State) : SameBut [.cache] s s.purge := by
  intro p hp
  cases p
  case cache => exact absurd (List.mem_singleton_self _) hp
  all_goals simp [Part.same]

/-! ### PURGE_CACHE (R54) -/

theorem exec_purgeCache_of_idle (dt : Nat) (s : State) (idle : s.port.taken = false) :
    exec (.purgeCache dt) s = .next ((s.taking dt 7 none).purge.slotDone (.plain .ok)) :=
  congrArg Host.Outcome.next (s.command_of_idle dt 7 none State.runPurge idle)

/-- Settles O57: the purge, made in the state in which the slot has taken the command, seen through the answer. -/
theorem purgeCache : Obligations.PurgeCache := by
  intro s dt idle
  refine ⟨_, exec_purgeCache_of_idle dt s idle, ?_⟩
  obtain ⟨later, answered, noticed, same, bytes⟩ :=
    State.taking_answered dt 7 none (.plain .ok) (s.taking dt 7 none).purge_sameBut (s.taking dt 7 none).purge_bytes
      (by decide) (by decide)
  obtain ⟨takenNow, -, takenSame, -⟩ := s.taking_effect dt 7 none
  have takenCache : (s.taking dt 7 none).cache = s.cache := takenSame .cache (by decide)
  generalize s.taking dt 7 none = u at *
  have cache : (u.purge.slotDone (.plain .ok)).cache = u.purge.cache := u.purge.slotDone_sameBut _ .cache (by decide)
  have fetch : (u.purge.slotDone (.plain .ok)).cache.fetch =
      s.cache.fetch.map fun f => { f with startedAt := s.now + dt, waitUntil := none, writes := [] } := by
    rw [cache, State.purge_fetch, takenCache, takenNow]
  refine ⟨later, answered, fun e => ?_, fun c => ?_, fun resting => ?_, fun f reading => ?_, ?_, noticed,
    same.mono (by decide), bytes.mono (by decide)⟩
  · rw [cache, State.purge_entries, CacheEntry.purged_eq, takenCache]
  · rw [cache, State.purge_stock]
  · rw [fetch, resting, Option.map_none]
  · rw [fetch, reading, Option.map_some]
  · rw [(u.purge.slotDone_bytes _).word (by decide), State.purge_occupancy, JobCache.occupancy_eq, cache]

end Sys2Proof.Machine
end

section
/-!
HOST_HALT stays until a RESUME is accepted (R163): no operation of the machine and no other command removes it. Each
lemma is the frame of an operation that touches the line, read at the halt causes or at HOST_HALT among them.
-/

namespace Sys2Proof.Machine

/-! ### Halt causes and mode changes (R156, R161) -/

theorem Causes.put_hostHalt (x : Causes) (b : Bool) {c : Cause} (h : c ≠ .hostHalt) : (x.put b c).hostHalt = x.hostHalt := by
  cases c
  case hostHalt => exact absurd rfl h
  all_goals rfl

@[simp] theorem State.changeMode_causes (m : LineMode) (s : State) : (s.changeMode m).line.causes = s.line.causes := by
  rw [State.changeMode_line]
  rfl

@[simp] theorem State.beginWarming_causes (r : Bool) (s : State) : (s.beginWarming r).line.causes = s.line.causes := by
  simp [State.beginWarming]

@[simp] theorem State.emptyingCheck_causes (s : State) : s.emptyingCheck.line.causes = s.line.causes := by
  unfold State.emptyingCheck
  split <;> simp

@[simp] theorem State.levelOne_causes (s : State) : s.levelOne.line.causes = s.line.causes := by
  unfold State.levelOne
  split <;> simp

/-- A source other than HALT sets its own cause only. -/
@[simp] theorem State.raiseCause_hostHalt {c : Cause} (h : c ≠ .hostHalt) (s : State) :
    (s.raiseCause c).line.causes.hostHalt = s.line.causes.hostHalt := by
  rw [(s.raiseCause_effect c).1]
  split
  · rfl
  · exact Causes.put_hostHalt _ true h

/-- A source other than HALT clears its own cause only. -/
@[simp] theorem State.clearCause_hostHalt {c : Cause} (h : c ≠ .hostHalt) (s : State) :
    (s.clearCause c).line.causes.hostHalt = s.line.causes.hostHalt := by
  rw [(s.clearCause_effect c).1]
  change (if _ then _ else _ : Causes).hostHalt = _
  split
  · exact Causes.put_hostHalt _ false h
  · rfl

/-! ### The shaft (R1 to R7, R14, R23, R122) -/

@[simp] theorem State.launchDemand_causes (s : State) : s.launchDemand.line.causes = s.line.causes := by
  unfold State.launchDemand
  split <;> simp [countIdle]

@[simp] theorem State.cycleIndex_causes (s : State) : s.cycleIndex.line.causes = s.line.causes := by
  simp [State.cycleIndex]

@[simp] theorem State.feedCover_hostHalt (l : LaunchFormat) (code : Option Word) (d : Bool) (b : Book) (s : State) :
    (s.feedCover l code d b).line.causes.hostHalt = s.line.causes.hostHalt := by
  unfold State.feedCover
  dsimp only
  split <;> simp

@[simp] theorem State.coverStart_hostHalt (code : Option Word) (s : State) :
    (s.coverStart code).line.causes.hostHalt = s.line.causes.hostHalt := by
  unfold State.coverStart State.coverChecks
  dsimp only
  (repeat' split) <;> simp

@[simp] theorem State.startWork_hostHalt (w : Window) (io : CountInputs) (s : State) :
    (s.startWork w io).line.causes.hostHalt = s.line.causes.hostHalt := by
  cases w <;> simp [State.startWork]

@[simp] theorem State.windowStart_hostHalt (w : Window) (io : CountInputs) (s : State) :
    (s.windowStart w io).line.causes.hostHalt = s.line.causes.hostHalt := by
  unfold State.windowStart
  dsimp only
  (repeat' split) <;> simp

@[simp] theorem State.windowEnd_causes (w : Window) (io : CountInputs) (s : State) :
    (s.windowEnd w io).line.causes = s.line.causes := by
  unfold State.windowEnd
  dsimp only
  (repeat' split) <;> simp

@[simp] theorem State.eventAt_hostHalt (p : Nat) (io : CountInputs) (s : State) (e : PhaseEvent) :
    (s.eventAt p io e).line.causes.hostHalt = s.line.causes.hostHalt := by
  unfold State.eventAt
  split
  · cases e <;> simp [State.takeEvent]
  · rfl

@[simp] theorem State.eventsAt_hostHalt (p : Nat) (io : CountInputs) (s : State) :
    (s.eventsAt p io).line.causes.hostHalt = s.line.causes.hostHalt :=
  foldl_same (fun s => s.line.causes.hostHalt) _ (fun s e => s.eventAt_hostHalt p io e) _ s

@[simp] theorem State.skippedAt_hostHalt (p : Nat) (io : CountInputs) (s : State) :
    (s.skippedAt p io).line.causes.hostHalt = s.line.causes.hostHalt :=
  foldl_same (fun s => s.line.causes.hostHalt) _ (fun s e => s.eventAt_hostHalt p io e) _ s

@[simp] theorem State.runSpan_hostHalt (io : CountInputs) (n : Nat) (s : State) :
    (s.runSpan io n).line.causes.hostHalt = s.line.causes.hostHalt := by
  induction n generalizing s with
  | zero => rfl
  | succ n ih => rw [State.runSpan, ih, State.skippedAt_hostHalt]

@[simp] theorem State.forwardCount_hostHalt (io : CountInputs) (s : State) :
    (s.forwardCount io).line.causes.hostHalt = s.line.causes.hostHalt := by
  unfold State.forwardCount
  dsimp only
  (repeat' split) <;> simp

@[simp] theorem State.forcePhase_hostHalt (io : CountInputs) (s : State) :
    (s.forcePhase io).line.causes.hostHalt = s.line.causes.hostHalt := by
  unfold State.forcePhase
  dsimp only
  (repeat' split) <;> simp

@[simp] theorem State.indexMark_hostHalt (io : CountInputs) (s : State) :
    (s.indexMark io).line.causes.hostHalt = s.line.causes.hostHalt := by
  unfold State.indexMark State.judgeJam State.synchronise
  dsimp only
  (repeat' split) <;> simp

/-! ### The trimmer, the guards and the start key (chapter 8, R140, R158) -/

@[simp] theorem State.cutComplete_causes (s : State) : s.cutComplete.line.causes = s.line.causes := by
  simp [State.cutComplete]

@[simp] theorem State.trimFault_hostHalt (r : TrimReason) (s : State) :
    (s.trimFault r).line.causes.hostHalt = s.line.causes.hostHalt := by
  simp [State.trimFault]

@[simp] theorem State.knifeReport_hostHalt (s : State) :
    s.knifeReport.line.causes.hostHalt = s.line.causes.hostHalt := by
  unfold State.knifeReport State.afterReport
  dsimp only
  (repeat' split) <;> simp

@[simp] theorem State.beamTop_hostHalt (s : State) : s.beamTop.line.causes.hostHalt = s.line.causes.hostHalt := by
  unfold State.beamTop
  dsimp only
  (repeat' split) <;> simp

@[simp] theorem State.guardTrimmer_causes (already : Bool) (s : State) :
    (s.guardTrimmer already).line.causes = s.line.causes := by
  unfold State.guardTrimmer
  split <;> simp

@[simp] theorem State.guardSet_hostHalt {c : Cause} (h : c ≠ .hostHalt) (abortFirst : Bool) (s : State) :
    (s.guardSet c abortFirst).line.causes.hostHalt = s.line.causes.hostHalt := by
  unfold State.guardSet
  dsimp only
  split <;> simp [h]

@[simp] theorem State.guardCleared_hostHalt {c : Cause} (h : c ≠ .hostHalt) (s : State) :
    (s.guardCleared c).line.causes.hostHalt = s.line.causes.hostHalt := by
  simp [State.guardCleared, h]

@[simp] theorem LineControl.stopInch_causes (l : LineControl) : l.stopInch.causes = l.causes := by
  unfold LineControl.stopInch
  split <;> rfl

@[simp] theorem State.estopLevel_hostHalt (active abortFirst : Bool) (s : State) :
    (s.estopLevel active abortFirst).line.causes.hostHalt = s.line.causes.hostHalt := by
  unfold State.estopLevel
  dsimp only
  (repeat' split) <;> simp

@[simp] theorem State.guardLevel_hostHalt (opened abortFirst : Bool) (s : State) :
    (s.guardLevel opened abortFirst).line.causes.hostHalt = s.line.causes.hostHalt := by
  unfold State.guardLevel
  dsimp only
  (repeat' split) <;> simp

@[simp] theorem State.keyPress_causes (s : State) : s.keyPress.line.causes = s.line.causes := by
  unfold State.keyPress State.beginInch
  dsimp only
  (repeat' split) <;> simp

/-! ### Timers and conversions (R46, R50, R90, R110 to R114, R136, R137, R159, R167) -/

@[simp] theorem State.judgeStable_causes (s : State) : s.judgeStable.line.causes = s.line.causes := by
  unfold State.judgeStable
  split <;> simp

@[simp] theorem State.takeTemperature_hostHalt (r : Option (BitVec 10)) (s : State) :
    (s.takeTemperature r).line.causes.hostHalt = s.line.causes.hostHalt := by
  unfold State.takeTemperature State.judgeOverheat
  dsimp only
  (repeat' split) <;> simp

@[simp] theorem State.conversionEnd_hostHalt (r : Option (BitVec 10)) (s : State) :
    (s.conversionEnd r).line.causes.hostHalt = s.line.causes.hostHalt := by
  unfold State.conversionEnd
  dsimp only
  (repeat' split) <;> simp

@[simp] theorem State.attemptEnd_line (lags : List Nat) (s : State) : (s.attemptEnd lags).line = s.line := by
  unfold State.attemptEnd
  (repeat' split) <;> simp

@[simp] theorem State.waitExpiry_line (s : State) : s.waitExpiry.line = s.line := by
  unfold State.waitExpiry
  (repeat' split) <;> simp

@[simp] theorem State.fetchExpiry_line (s : State) : s.fetchExpiry.line = s.line := by
  unfold State.fetchExpiry
  (repeat' split) <;> simp

@[simp] theorem State.temperatureTimer_line (s : State) : s.temperatureTimer.line = s.line := by
  unfold State.temperatureTimer
  split <;> simp

@[simp] theorem State.heaterStart_line (s : State) : s.heaterStart.line = s.line := by
  unfold State.heaterStart
  split <;> simp

@[simp] theorem State.heaterEnd_line (s : State) : s.heaterEnd.line = s.line := by
  unfold State.heaterEnd
  split <;> simp

@[simp] theorem State.magazineLevel_line (m : Magazine) (empty : Bool) (s : State) :
    (s.magazineLevel m empty).line = s.line := by
  unfold State.magazineLevel
  dsimp only
  split <;> simp

@[simp] theorem State.setTimeExpiry_line (place : Fin 12) (s : State) : (s.setTimeExpiry place).line = s.line := by
  unfold State.setTimeExpiry
  (repeat' split) <;> simp

@[simp] theorem State.limitExpiry_hostHalt (s : State) : s.limitExpiry.line.causes.hostHalt = s.line.causes.hostHalt := by
  unfold State.limitExpiry
  split <;> simp

@[simp] theorem State.cutExpiry_hostHalt (top : Bool) (s : State) :
    (s.cutExpiry top).line.causes.hostHalt = s.line.causes.hostHalt := by
  unfold State.cutExpiry
  (repeat' split) <;> simp

@[simp] theorem State.stableExpiry_causes (s : State) : s.stableExpiry.line.causes = s.line.causes := by
  unfold State.stableExpiry
  split <;> simp

@[simp] theorem State.restExpiry_causes (s : State) : s.restExpiry.line.causes = s.line.causes := by
  unfold State.restExpiry
  (repeat' split) <;> simp

/-! ### The host and the command slot (chapter 11) -/

@[simp] theorem State.hostWrite_line (a : Nat) (w : Word) (s : State) : (s.hostWrite a w).line = s.line := by
  simp [State.hostWrite]

@[simp] theorem State.hostIssue_line (code : Word) (arg : Option Word) (s : State) : (s.hostIssue code arg).line = s.line :=
  (s.hostIssue_effect code arg).1 .line (by decide)

@[simp] theorem State.slotDone_line (r : Reply) (s : State) : (s.slotDone r).line = s.line :=
  s.slotDone_sameBut r .line (by decide)

@[simp] theorem State.notice_causes (s : State) : s.notice.line.causes = s.line.causes := by
  unfold State.notice
  dsimp only
  (repeat' split) <;> simp

@[simp] theorem State.loadTaken_causes (s : State) : s.loadTaken.line.causes = s.line.causes := by
  unfold State.loadTaken State.slotTaken
  split <;> simp

@[simp] theorem State.loadEnd_causes (lags : List Nat) (s : State) : (s.loadEnd lags).line.causes = s.line.causes := by
  unfold State.loadEnd State.judgeRecord State.takeSettings
  dsimp only
  (repeat' split) <;> simp

theorem State.carryOut_line (run : State → State × Reply) (s : State) : (s.carryOut run).line = (run s.slotTaken).1.line := by
  simp [State.carryOut]

/-- Where a command's effect keeps HOST_HALT, so does the command carried out. -/
theorem State.carryOut_keeps {run : State → State × Reply} (s : State)
    (h : ∀ u : State, u.line.causes.hostHalt = true → (run u).1.line.causes.hostHalt = true)
    (set : s.line.causes.hostHalt = true) : (s.carryOut run).line.causes.hostHalt = true := by
  rw [State.carryOut_line]
  exact h _ (by simpa [State.slotTaken] using set)

theorem State.modeCommand_causes (accepted : LineMode → Bool) (m : LineMode) (s : State) :
    (s.modeCommand accepted m).1.line.causes = s.line.causes := by
  unfold State.modeCommand
  split <;> simp

theorem State.runWarm_causes (s : State) : s.runWarm.1.line.causes = s.line.causes := by
  unfold State.runWarm
  (repeat' split) <;> simp

theorem State.runRunOut_causes (s : State) : s.runRunOut.1.line.causes = s.line.causes := by
  simp [State.runRunOut, State.modeCommand_causes]

theorem State.runClearClamp_line (arg : Word) (s : State) : (s.runClearClamp arg).1.line = s.line := by
  unfold State.runClearClamp State.clearPlace
  (repeat' split) <;> simp

theorem State.runSetCursor_line (arg : Word) (s : State) : (s.runSetCursor arg).1.line = s.line := by
  unfold State.runSetCursor
  (repeat' split) <;> simp

/-- HALT removes no cause. -/
theorem State.runHalt_keeps (s : State) (set : s.line.causes.hostHalt = true) :
    s.runHalt.1.line.causes.hostHalt = true := by
  unfold State.runHalt
  split
  · rw [(s.raiseCause_effect .hostHalt).1, if_pos (show s.line.causes.has .hostHalt = true from set)]
    exact set
  · exact set

/-- RESUME that removes HOST_HALT has been accepted. -/
theorem State.runResume_accepted (s : State) (set : s.line.causes.hostHalt = true)
    (gone : s.runResume.1.line.causes.hostHalt = false) :
    s.line.mode = .halted ∧ s.runResume.1.line.mode = .running ∧ s.runResume.2 = .plain .ok := by
  unfold State.runResume at gone ⊢
  split at gone
  · simp [set] at gone
  · next halted =>
    split at gone
    · simp [set] at gone
    · next free =>
      rw [if_neg halted, if_neg free]
      refine ⟨not_not.mp halted, ?_, rfl⟩
      rw [State.changeMode_line]
      rfl

/-- A RESUME carried out that removes HOST_HALT has been accepted, and is answered OK. -/
theorem State.carryOut_runResume_accepted (s : State) (set : s.line.causes.hostHalt = true)
    (gone : (s.carryOut State.runResume).line.causes.hostHalt = false) :
    s.line.mode = .halted ∧ (s.carryOut State.runResume).line.mode = .running ∧
      (s.carryOut State.runResume).word Header.result = 0 := by
  have taken : s.slotTaken.line = s.line := s.slotTaken_effect.2.1 .line (by decide)
  rw [State.carryOut_line] at gone ⊢
  obtain ⟨halted, running, ok⟩ := s.slotTaken.runResume_accepted (by rwa [taken]) gone
  refine ⟨by rwa [taken] at halted, running, ?_⟩
  obtain ⟨-, result, -⟩ := (s.slotTaken.runResume.1.slotDone_effect s.slotTaken.runResume.2).1
  exact result.trans (by rw [ok]; rfl)

/-- The command of every code but RESUME's keeps HOST_HALT (R163). -/
theorem State.arrival_keeps {code : Word} (other : code ≠ 5) (arg : Word) (s : State)
    (set : s.line.causes.hostHalt = true) : (s.arrival code arg).line.causes.hostHalt = true := by
  unfold State.arrival
  split
  · exact set
  · split
    case h_1 => simpa using set
    case h_2 => exact s.carryOut_keeps (fun u k => by rwa [u.runWarm_causes]) set
    case h_3 => exact s.carryOut_keeps (fun u k => by rwa [State.runStart, u.modeCommand_causes]) set
    case h_4 => exact s.carryOut_keeps (fun u k => by rwa [u.runRunOut_causes]) set
    case h_5 five => exact absurd (BitVec.eq_of_toNat_eq five) other
    case h_6 => exact s.carryOut_keeps (fun u k => by rwa [u.runClearClamp_line]) set
    case h_7 => exact s.carryOut_keeps (fun u k => by simpa [State.runPurge] using k) set
    case h_8 => exact s.carryOut_keeps (fun u k => by rwa [u.runSetCursor_line]) set
    case h_9 => exact s.carryOut_keeps (fun u k => by rwa [State.runSetback, u.modeCommand_causes]) set
    case h_10 => exact s.carryOut_keeps (fun u k => by rwa [State.runCool, u.modeCommand_causes]) set
    case h_11 => exact s.carryOut_keeps State.runHalt_keeps set
    case h_12 => exact s.carryOut_keeps (fun _ k => k) set

theorem State.arrival_resume (arg : Word) (s : State) :
    s.arrival 5 arg = if s.port.taken then s else s.carryOut State.runResume := rfl

/-- An arrival that removes HOST_HALT is a RESUME's, accepted. -/
theorem State.arrival_accepted {code arg : Word} {s : State} (set : s.line.causes.hostHalt = true)
    (gone : (s.arrival code arg).line.causes.hostHalt = false) :
    code = 5 ∧ s.line.mode = .halted ∧ (s.arrival code arg).line.mode = .running ∧
      (s.arrival code arg).word Header.result = 0 := by
  by_cases resume : code = 5
  · subst resume
    rw [State.arrival_resume] at gone ⊢
    split at gone
    · simp [set] at gone
    · next idle =>
      rw [if_neg idle]
      exact ⟨rfl, s.carryOut_runResume_accepted set gone⟩
  · simp [State.arrival_keeps resume arg s set] at gone

/-- A command issued through the slot is the issue of its code and the arrival it makes (R172, R173). -/
theorem exec_of_slotCommand {c : Instr} {code : Word} {arg : Option Word} (h : slotCommand c = some (code, arg)) (s : State) :
    ∃ dt w, exec c s = .next (((s.elapse dt).hostIssue code arg).arrival code w) := by
  cases c <;> cases h
  case clearClamp dt w => exact ⟨dt, w, rfl⟩
  case setCursor dt w => exact ⟨dt, w, rfl⟩
  case unknownCommand dt => exact ⟨dt, s.word Header.arg1, rfl⟩
  all_goals exact ⟨_, 0, rfl⟩

/-- A slot command of code 5 is RESUME, by its own row or as a code. -/
theorem slotCommand_resume {c : Instr} {arg : Option Word} (h : slotCommand c = some (5, arg)) :
    ∃ dt, c = .resume dt ∨ c = .unknownCommand dt 5 := by
  cases c <;> cases h
  case resume dt => exact ⟨dt, .inl rfl⟩
  case unknownCommand dt => exact ⟨dt, .inr rfl⟩

/-! ### Every command (R163) -/

/-- A host word write that removes HOST_HALT issues a RESUME that is accepted. -/
theorem State.wordWritten_accepted {a : Nat} {w : Word} {s : State} (set : s.line.causes.hostHalt = true)
    (gone : (s.wordWritten a w).line.causes.hostHalt = false) :
    a = Header.commandState ∧ w = 1 ∧ s.word Header.commandCode = 5 ∧ s.line.mode = .halted ∧
      (s.wordWritten a w).line.mode = .running ∧ (s.wordWritten a w).word Header.result = 0 := by
  unfold State.wordWritten at gone ⊢
  dsimp only at gone ⊢
  split at gone
  · simp [set] at gone
  · next notNotice =>
    rw [if_neg notNotice]
    split at gone
    · next issued =>
      rw [if_pos issued]
      obtain ⟨rfl, rfl⟩ := issued
      obtain ⟨code, halted, accepted⟩ := State.arrival_accepted (by simpa using set) gone
      refine ⟨rfl, rfl, ?_, by simpa using halted, accepted⟩
      rwa [State.hostWrite_header _ _ (by decide), State.word_putWord_of_ne _ _ (by decide)] at code
    · split at gone <;> simp [set] at gone

theorem exec_hostWordWrite_next {dt a : Nat} {w : Word} {s t : State} (h : exec (.hostWordWrite dt a w) s = .next t) :
    t = (s.elapse dt).wordWritten a w := by
  change execHostWordWrite dt a w s = _ at h
  unfold execHostWordWrite at h
  split at h
  · cases h
  · split at h
    · cases h
    · injection h with h
      exact h.symm

/-- A command that is neither issued through the slot, nor a host word write, nor a reset keeps HOST_HALT. -/
theorem exec_keeps_hostHalt {c : Instr} {s t : State} (slot : slotCommand c = none)
    (noPower : ∀ dt levels, c ≠ .powerOnReset dt levels) (noReset : ∀ dt, c ≠ .controllerReset dt)
    (noWord : ∀ dt a w, c ≠ .hostWordWrite dt a w) (h : exec c s = .next t) :
    t.line.causes.hostHalt = s.line.causes.hostHalt := by
  cases c
  case powerOnReset dt levels => exact absurd rfl (noPower dt levels)
  case controllerReset dt => exact absurd rfl (noReset dt)
  case hostWordWrite dt a w => exact absurd rfl (noWord dt a w)
  case loadConfig | warm | start | runOut | resume | clearClamp | purgeCache | setCursor | setback | cool | halt | unknownCommand =>
    cases slot
  all_goals
    injection h with h
    subst h
    simp [State.modPocket]

/-- HOST_HALT, once set, goes at no command but an accepted RESUME, however issued, and a reset (R163). -/
theorem exec_hostHalt_stays {c : Instr} {s t : State} (run : exec c s = .next t) (set : s.line.causes.hostHalt = true)
    (gone : t.line.causes.hostHalt = false) :
    ((∃ dt, c = .resume dt ∨ c = .unknownCommand dt 5 ∨
          (c = .hostWordWrite dt 0x020 1 ∧ s.word Header.commandCode = 5)) ∧
        s.line.mode = .halted ∧ t.line.mode = .running ∧ t.word Header.result = 0) ∨
      (∃ dt levels, c = .powerOnReset dt levels) ∨ ∃ dt, c = .controllerReset dt := by
  cases slot : slotCommand c with
  | some issue =>
    obtain ⟨code, arg⟩ := issue
    obtain ⟨dt, w, arrives⟩ := exec_of_slotCommand slot s
    rw [arrives] at run
    injection run with run
    subst run
    obtain ⟨rfl, halted, accepted⟩ := State.arrival_accepted (by simpa using set) gone
    obtain ⟨dt, row⟩ := slotCommand_resume slot
    exact .inl ⟨⟨dt, row.imp_right .inl⟩, by simpa using halted, accepted⟩
  | none =>
    by_cases power : ∃ dt levels, c = .powerOnReset dt levels
    · exact .inr (.inl power)
    by_cases reset : ∃ dt, c = .controllerReset dt
    · exact .inr (.inr reset)
    by_cases word : ∃ dt a w, c = .hostWordWrite dt a w
    · obtain ⟨dt, a, w, rfl⟩ := word
      have write := exec_hostWordWrite_next run
      subst write
      obtain ⟨rfl, rfl, code, halted, accepted⟩ := State.wordWritten_accepted (s := s.elapse dt) set gone
      exact .inl ⟨⟨dt, .inr (.inr ⟨rfl, code⟩)⟩, halted, accepted⟩
    · push Not at power reset word
      have kept := exec_keeps_hostHalt slot power reset word run
      rw [kept, set] at gone
      cases gone

end Sys2Proof.Machine
end

section
/-!
HALT (R163): the notices of a change of the line mode, what a change to a resting mode leaves alone, a halt cause set in a
mode that halts, and the whole command from the host's write to the answer.
-/

namespace Sys2Proof.Machine

/-! ### Notices in a row (R177) -/

/-- Notices add up where the later operation writes the count words of its own notices only. -/
theorem Noticed.trans {m n : Fin 8 → Nat} {s t u : State} (h : Noticed m s t) (k : Noticed n t u)
    (stays : ∀ c, n c = 0 → u.word (Header.count c) = t.word (Header.count c)) : Noticed (fun c => m c + n c) s u := by
  intro c
  obtain ⟨first, written⟩ := h c
  obtain ⟨second, written'⟩ := k c
  refine ⟨by rw [second, first, BitVec.ofNat_add, BitVec.add_assoc], fun posted => ?_⟩
  by_cases quiet : n c = 0
  · rw [stays c quiet, written (by simpa [quiet] using posted), second, quiet]
    simp
  · exact written' quiet

/-- Notices are counted from any earlier state with the same counts. -/
theorem Noticed.of_counts {n : Fin 8 → Nat} {s t u : State} (h : Noticed n t u) (same : t.port.counts = s.port.counts) :
    Noticed n s u := fun c => by
  rw [← same]
  exact h c

theorem Noticed.congr {m n : Fin 8 → Nat} {s t : State} (h : Noticed m s t) (eq : ∀ c, m c = n c) : Noticed n s t :=
  funext eq ▸ h

theorem State.notify_noticed (c : Attention) (s : State) : Noticed (oneNotice c) s (s.notify c) := by
  intro d
  by_cases hd : d = c.number
  · subst hd
    refine ⟨by simp [(s.notify_effect c).1, oneNotice], fun _ => ?_⟩
    rw [State.word, (s.notify_effect c).2.1, Memory.readWord_writeWord_same]
    simp [(s.notify_effect c).1]
  · have ne : c.number.val ≠ d.val := fun k => hd (Fin.ext k.symm)
    exact ⟨by simp [(s.notify_effect c).1, oneNotice, hd, ne], fun k => by simp [oneNotice, hd] at k⟩

/-- The count words stand apart. -/
theorem State.notify_count_of_ne {c : Attention} {d : Fin 8} (s : State) (h : d ≠ c.number) :
    (s.notify c).word (Header.count d) = s.word (Header.count d) := by
  refine (s.notify_bytes c).word fun w hw => ?_
  rw [List.mem_singleton] at hw
  subst hw
  have ne : d.val ≠ c.number.val := fun k => h (Fin.ext k)
  simp only [Header.count]
  omega

/-- A notice after others adds its own. -/
theorem Noticed.notify {n : Fin 8 → Nat} {s t : State} (h : Noticed n s t) (c : Attention) :
    Noticed (fun d => n d + oneNotice c d) s (t.notify c) :=
  h.trans (t.notify_noticed c) fun d quiet => t.notify_count_of_ne fun eq => by simp [oneNotice, eq] at quiet

/-- The answer's notice after others. -/
theorem Noticed.slotDone {n : Fin 8 → Nat} {s t : State} (h : Noticed n s t) (r : Reply) :
    Noticed (fun d => n d + oneNotice .commandDone d) s (t.slotDone r) := by
  refine h.trans (State.slotDone_noticed r rfl) fun d quiet => ?_
  have other : d ≠ 0 := fun eq => by simp [oneNotice, eq, Attention.number] at quiet
  refine (t.slotDone_effect r).2.2.2.word fun w hw => ?_
  have pos : 0 < d.val := Nat.pos_of_ne_zero fun k => other (Fin.ext k)
  simp only [List.mem_cons, List.not_mem_nil, or_false] at hw
  simp only [Header.resultDetail, Header.result, Header.commandState, Header.count] at hw ⊢
  omega

/-! ### Stations at rest (R12) -/

/-- What the rest of the stations leaves alone beside their own work: the contents of cells and clamps, the settings of
the two drives and the pending changeovers. -/
def WorksKept (s t : State) : Prop :=
  t.gathering.cells = s.gathering.cells ∧ t.carousel.places = s.carousel.places ∧ t.miller.drive = s.miller.drive ∧
    t.miller.pending = s.miller.pending ∧ t.cover.scorer = s.cover.scorer ∧ t.cover.pending = s.cover.pending

theorem WorksKept.refl (s : State) : WorksKept s s := ⟨rfl, rfl, rfl, rfl, rfl, rfl⟩

theorem State.restStation_works (w : Window) (s : State) : WorksKept s (s.restStation w) := by
  cases w <;> simp [WorksKept, State.restStation]

theorem State.disengage_works (w : Window) (s : State) : WorksKept s (s.disengage w) := by
  unfold State.disengage
  split
  · exact State.restStation_works w (s.updStations (Stations.drop w))
  · exact WorksKept.refl s

theorem WorksKept.trans {s t u : State} (h : WorksKept s t) (k : WorksKept t u) : WorksKept s u := by
  obtain ⟨cells, places, drive, drivePending, scorer, scorerPending⟩ := h
  obtain ⟨cells', places', drive', drivePending', scorer', scorerPending'⟩ := k
  exact ⟨cells'.trans cells, places'.trans places, drive'.trans drive, drivePending'.trans drivePending,
    scorer'.trans scorer, scorerPending'.trans scorerPending⟩

theorem State.disengage_foldl_works (l : List Window) (s : State) :
    WorksKept s (l.foldl (fun s w => s.disengage w) s) := by
  induction l generalizing s with
  | nil => exact WorksKept.refl s
  | cons w l ih => exact (s.disengage_works w).trans (ih (s.disengage w))

theorem State.disengageAll_works (s : State) : WorksKept s s.disengageAll := by
  unfold State.disengageAll
  exact State.disengage_foldl_works allWindows s

theorem State.disengage_engaged (w : Window) (s : State) :
    (s.disengage w).stations.engaged = s.stations.engaged.filter fun v => decide (v ≠ w) := by
  unfold State.disengage State.isEngaged
  split
  · simp [Stations.drop]
  · next out =>
    refine (List.filter_eq_self.mpr fun v hv => ?_).symm
    exact decide_eq_true fun eq => out (decide_eq_true (eq ▸ hv))

theorem mem_allWindows (w : Window) : w ∈ allWindows := by cases w <;> decide

theorem State.mem_disengage_foldl (l : List Window) (s : State) (v : Window) :
    v ∈ (l.foldl (fun s w => s.disengage w) s).stations.engaged ↔ v ∈ s.stations.engaged ∧ v ∉ l := by
  induction l generalizing s with
  | nil => simp
  | cons w l ih => simp [ih, State.disengage_engaged, and_assoc]

theorem State.disengageAll_engaged (s : State) : s.disengageAll.stations.engaged = [] := by
  refine List.eq_nil_iff_forall_not_mem.mpr fun v hv => ?_
  rw [State.disengageAll, State.mem_disengage_foldl] at hv
  exact hv.2 (mem_allWindows v)

/-! ### A change to HALTED (R156, R162) -/

/-- The drive stopped, without a speed reference. -/
def State.stopDrive (s : State) : State := s.updLine fun l => { l with drive := .stopped, reference := none }

theorem State.changeDrive_halted (before : LineMode) (s : State) :
    s.changeDrive before .halted = if before.acting then s.stopDrive.disengageAll else s.stopDrive := by
  simp [State.changeDrive, State.stopDrive]

/-- The drive stopped for HALTED: the stations of an acting mode come to rest, the rest of the machine is as it was. -/
theorem State.changeDrive_halted_effect (before : LineMode) (s : State) :
    WorksKept s (s.changeDrive before .halted) ∧
      SameBut [.stations, .gathering, .carousel, .format, .miller, .glue, .cover, .line] s (s.changeDrive before .halted) ∧
      (before.acting = true → (s.changeDrive before .halted).stations.engaged = []) := by
  have stopped : WorksKept s s.stopDrive := WorksKept.refl s
  rw [State.changeDrive_halted]
  split
  · refine ⟨stopped.trans s.stopDrive.disengageAll_works, fun p hp => ?_, fun _ => s.stopDrive.disengageAll_engaged⟩
    cases p <;> simp [Part.same, State.stopDrive] at hp ⊢
  · next resting =>
    refine ⟨stopped, fun p hp => ?_, fun acting => absurd acting resting⟩
    cases p <;> simp [Part.same, State.stopDrive] at hp ⊢

/-- The mode written and the timers changed for HALTED (R156). -/
def State.markedHalted (s : State) : State :=
  (s.putNat Header.mode LineMode.halted.number).updLine (changeTimers s.now s.config.settings s.pot.inBand .halted)

theorem State.markedHalted_effect (s : State) :
    WorksKept s s.markedHalted ∧ SameBut [.line] s s.markedHalted ∧
      s.markedHalted.mem = s.mem.writeWord Header.mode (BitVec.ofNat 32 LineMode.halted.number) := by
  refine ⟨by simp [WorksKept, State.markedHalted], fun p hp => ?_, rfl⟩
  cases p <;> simp [Part.same, State.markedHalted] at hp ⊢

/-- The state in which a change to HALTED writes the snapshot and posts its notices. -/
def State.stoppedForHalt (s : State) : State := s.markedHalted.changeDrive s.line.mode .halted

theorem State.changeMode_halted (s : State) :
    s.changeMode .halted = (s.stoppedForHalt.snapshot.notify .modeChanged).notify .halted := by
  simp [State.changeMode, State.stoppedForHalt, State.markedHalted]

theorem State.stoppedForHalt_effect (s : State) :
    WorksKept s s.stoppedForHalt ∧
      SameBut [.stations, .gathering, .carousel, .format, .miller, .glue, .cover, .line] s s.stoppedForHalt ∧
      (s.line.mode.acting = true → s.stoppedForHalt.stations.engaged = []) ∧
      s.stoppedForHalt.word Header.mode = BitVec.ofNat 32 LineMode.halted.number := by
  obtain ⟨marked, markedSame, markedMem⟩ := s.markedHalted_effect
  obtain ⟨works, same, atRest⟩ := State.changeDrive_halted_effect s.line.mode s.markedHalted
  obtain ⟨-, -, -, -, -, -, -, mem, -⟩ := s.markedHalted.changeDrive_frame s.line.mode .halted
  refine ⟨marked.trans works, (markedSame.trans same).mono (by decide), atRest, ?_⟩
  rw [State.word, State.stoppedForHalt, mem, markedMem, Memory.readWord_writeWord_same]

/-- A change to HALTED posts one notice of MODE_CHANGED and one of HALTED (R156). -/
theorem State.changeMode_halted_noticed (s : State) :
    Noticed (fun c => if c = 3 ∨ c = 4 then 1 else 0) s (s.changeMode .halted) := by
  obtain ⟨-, stopped, -⟩ := s.stoppedForHalt_effect
  have counts : s.stoppedForHalt.snapshot.port.counts = s.port.counts := by
    rw [(State.snapshot_effect _).1, show s.stoppedForHalt.port = s.port from stopped .port (by decide)]
  rw [State.changeMode_halted]
  exact (((State.notify_noticed .modeChanged _).notify .halted).of_counts counts).congr (by decide)

/-- What a change to HALTED leaves alone (R162). -/
theorem State.changeMode_halted_frame (s : State) :
    WorksKept s (s.changeMode .halted) ∧
      SameBut [.stations, .gathering, .carousel, .format, .miller, .glue, .cover, .line, .port] s (s.changeMode .halted) := by
  obtain ⟨works, same, -⟩ := s.stoppedForHalt_effect
  rw [State.changeMode_halted]
  refine ⟨by simpa [WorksKept] using works, (same.trans (w := [.port]) fun p hp => ?_).mono (by decide)⟩
  cases p <;> simp [Part.same] at hp ⊢

/-- A change to HALTED enters HALTED (R156, R162). -/
theorem State.changeMode_halted_entered (s : State) : Entered .halted s (s.changeMode .halted) := by
  obtain ⟨works, same⟩ := s.changeMode_halted_frame
  obtain ⟨-, -, drive, drivePending, scorer, scorerPending⟩ := works
  obtain ⟨-, stopped, atRest, mode⟩ := s.stoppedForHalt_effect
  have line := State.changeMode_line .halted s
  have word : (s.changeMode .halted).word Header.mode = BitVec.ofNat 32 LineMode.halted.number := by
    rw [State.changeMode_halted, (State.notify_bytes _ _).word (by decide), (State.notify_bytes _ _).word (by decide),
      s.stoppedForHalt.snapshot_effect.2.2.word (by decide), mode]
  have engaged : (s.changeMode .halted).stations = s.stoppedForHalt.stations := by
    rw [State.changeMode_halted]
    simp
  have seq : (s.changeMode .halted).port.snapSeq = s.port.snapSeq + 2 := by
    rw [State.changeMode_halted, (State.notify_effect _ _).2.2.2, (State.notify_effect _ _).2.2.2,
      (State.snapshot_effect _).1, show s.stoppedForHalt.port = s.port from stopped .port (by decide)]
  refine ⟨by rw [line]; rfl, word, by rw [line], by rw [line], by rw [line]; rfl, by rw [line]; rfl, by rw [line]; rfl,
    fun acting => (by cases acting), fun _ acting => ?_, fun cold => (by cases cold),
    fun _ => ⟨drive, drivePending, scorer, scorerPending⟩, seq⟩
  rw [engaged]
  exact atRest acting

/-- An entry to a mode, seen from a state that differs before it in the causes and the halt start time, the time and the
slot, and after it in the slot. -/
theorem Entered.congr {m : LineMode} {s u v t : State} (h : Entered m u v) (before : SameBut [.now, .line, .port] s u)
    (line : u.line = { s.line with causes := u.line.causes, haltStart := u.line.haltStart })
    (seqBefore : u.port.snapSeq = s.port.snapSeq) (after : SameBut [.port] v t)
    (word : t.word Header.mode = v.word Header.mode) (seqAfter : t.port.snapSeq = v.port.snapSeq) : Entered m s t := by
  have mode : u.line.mode = s.line.mode := by rw [line]
  have drive : u.line.drive = s.line.drive := by rw [line]
  have reference : u.line.reference = s.line.reference := by rw [line]
  have idle : u.line.idle = s.line.idle := by rw [line]
  have config : u.config = s.config := before .config (by decide)
  have pot : u.pot = s.pot := before .pot (by decide)
  have miller : u.miller = s.miller := before .miller (by decide)
  have cover : u.cover = s.cover := before .cover (by decide)
  have now' : t.now = v.now := after .now (by decide)
  have line' : t.line = v.line := after .line (by decide)
  have phase' : t.phase = v.phase := after .phase (by decide)
  have stations' : t.stations = v.stations := after .stations (by decide)
  have pot' : t.pot = v.pot := after .pot (by decide)
  have miller' : t.miller = v.miller := after .miller (by decide)
  have cover' : t.cover = v.cover := after .cover (by decide)
  unfold Entered at h ⊢
  rw [mode, drive, reference, idle, config, pot, miller, cover, seqBefore] at h
  rwa [now', line', phase', stations', pot', miller', cover', word, seqAfter]

/-! ### A cause set in a mode that halts (R161, R162) -/

theorem Causes.put_of_has {x : Causes} {c : Cause} (h : x.has c = true) : x.put true c = x := by
  obtain ⟨estop, guardOpen, jam, trimmer, coverSequence, overheat, hostHalt⟩ := x
  cases c <;> (simp only [Causes.has] at h; subst h; rfl)

/-- A cause reported set in a mode that halts: it joins the causes, written to the header where it is new, and the line
enters HALTED. -/
theorem State.raiseCause_of_halts (c : Cause) (s : State) (h : s.line.mode.halts = true) :
    ∃ u : State, s.raiseCause c = u.enterHalt ∧ u.line = { s.line with causes := s.line.causes.put true c } ∧
      SameBut [.line] s u ∧ BytesBut [Header.causes] s u ∧
      (s.line.causes.has c = false → u.word Header.causes = u.line.causes.word) := by
  unfold State.raiseCause
  cases has : s.line.causes.has c
  · refine ⟨s.setCauses (s.line.causes.put true c), if_pos h, rfl, fun p hp => ?_, (s.setCauses_effect _).2.2,
      fun _ => (s.setCauses_effect _).2.1⟩
    cases p <;> simp [Part.same] at hp ⊢
  · exact ⟨s, if_pos h, by rw [Causes.put_of_has has], SameBut.refl _ s, BytesBut.refl _ s, fun k => by cases k⟩

/-- The halt of a line in any mode: HALTED is entered at the time of the halt, with its two notices (R162). -/
theorem State.enterHalt_whole (s : State) :
    Entered .halted s s.enterHalt ∧ Noticed (fun c => if c = 3 ∨ c = 4 then 1 else 0) s s.enterHalt ∧
      WorksKept s s.enterHalt ∧
      SameBut [.stations, .gathering, .carousel, .format, .miller, .glue, .cover, .line, .port] s s.enterHalt := by
  have timed : SameBut [.line] s (s.updLine fun l => { l with haltStart := some s.now }) := by
    intro p hp
    cases p <;> simp [Part.same] at hp ⊢
  obtain ⟨works, same⟩ := (s.updLine fun l => { l with haltStart := some s.now }).changeMode_halted_frame
  exact ⟨(s.updLine fun l => { l with haltStart := some s.now }).changeMode_halted_entered,
    (s.updLine fun l => { l with haltStart := some s.now }).changeMode_halted_noticed, works,
    (timed.trans same).mono (by decide)⟩

/-! ### HALT (R163) -/

theorem State.runHalt_of_halts (s : State) (h : s.line.mode.halts = true) :
    s.runHalt = (s.raiseCause .hostHalt, .plain .ok) := if_pos h

theorem State.runHalt_busy (s : State) (h : s.line.mode.halts = false) : s.runHalt = (s, .plain .busy) :=
  if_neg (by simp [h])

theorem exec_halt_of_idle (dt : Nat) (s : State) (idle : s.port.taken = false) :
    exec (.halt dt) s = .next ((s.taking dt 11 none).runHalt.1.slotDone (s.taking dt 11 none).runHalt.2) :=
  congrArg Host.Outcome.next (s.command_of_idle dt 11 none State.runHalt idle)

/-- HALT in a mode that halts, from the host's write to the answer (R162, R163). -/
theorem State.taking_halted (dt : Nat) {s t : State} (halts : s.line.mode.halts = true)
    (answer : t = ((s.taking dt 11 none).raiseCause .hostHalt).slotDone (.plain .ok)) :
    Later dt s t ∧ t.line.causes = { s.line.causes with hostHalt := true } ∧
      (s.line.causes.hostHalt = false → t.word Header.causes = t.line.causes.word) ∧ Entered .halted s t ∧
      t.line.haltStart = some (s.now + dt) ∧
      t.line.runWhenReady = (if s.line.mode = .warming then false else s.line.runWhenReady) ∧
      Answered t .ok 0 ∧ Noticed (fun c => if c = 0 ∨ c = 3 ∨ c = 4 then 1 else 0) s t ∧
      t.gathering.cells = s.gathering.cells ∧ t.carousel.places = s.carousel.places ∧
      SameBut [.now, .stations, .gathering, .carousel, .format, .miller, .glue, .cover, .line, .port] s t ∧
      BytesBut (Header.causes :: slotWords ++ modeWords) s t := by
  subst answer
  obtain ⟨takenNow, takenPort, takenSame, takenBytes⟩ := s.taking_effect dt 11 none
  generalize s.taking dt 11 none = a at takenNow takenPort takenSame takenBytes ⊢
  have aLine : a.line = s.line := takenSame .line (by decide)
  obtain ⟨u, halt, uLine, uSame, uBytes, written⟩ := a.raiseCause_of_halts .hostHalt (by rwa [aLine])
  rw [halt]
  rw [aLine] at uLine written
  obtain ⟨entered, noticed, ⟨cells, places, -⟩, haltSame⟩ := u.enterHalt_whole
  obtain ⟨haltLine, haltBytes⟩ := u.enterHalt_effect
  have uPort : u.port = { s.port with taken := true } := (uSame .port (by decide)).trans takenPort
  have uNow : u.now = s.now + dt := (uSame .now (by decide)).trans takenNow
  have doneSame := u.enterHalt.slotDone_sameBut (.plain .ok)
  have doneBytes := u.enterHalt.slotDone_bytes (.plain .ok)
  have answered := (u.enterHalt.slotDone_effect (.plain .ok)).1
  have line : (u.enterHalt.slotDone (.plain .ok)).line = u.enterHalt.line := State.slotDone_line _ _
  have causes : u.enterHalt.line.causes = u.line.causes := by rw [haltLine]; rfl
  have gathering : (u.enterHalt.slotDone (.plain .ok)).gathering = u.enterHalt.gathering := doneSame .gathering (by decide)
  have carousel : (u.enterHalt.slotDone (.plain .ok)).carousel = u.enterHalt.carousel := doneSame .carousel (by decide)
  refine ⟨?_, ?_, fun absent => ?_, ?_, ?_, ?_, answered, ?_, ?_, ?_, ?_, ?_⟩
  · exact (doneSame .now (by decide)).trans ((haltSame .now (by decide)).trans uNow)
  · rw [line, causes, uLine]; rfl
  · rw [doneBytes.word (by decide), haltBytes.word (by decide), written absent, line, causes]
  · refine entered.congr ((takenSame.trans uSame).mono (by decide)) (by rw [uLine]) (by rw [uPort]) doneSame
      (doneBytes.word (by decide)) (by rw [State.slotDone_port])
  · rw [line, haltLine, ← uNow]
  · rw [line, haltLine, uLine]; rfl
  · exact ((noticed.of_counts (by rw [uPort])).slotDone (.plain .ok)).congr (by decide)
  · rw [gathering, cells, uSame .gathering (by decide), takenSame .gathering (by decide)]
  · rw [carousel, places, uSame .carousel (by decide), takenSame .carousel (by decide)]
  · exact (((takenSame.trans uSame).trans haltSame).trans doneSame).mono (by decide)
  · exact (((takenBytes.trans uBytes).trans haltBytes).trans doneBytes).mono (by decide)

/-- Settles O53: HALT carried out in the state in which the slot has taken it, by whether the mode halts; and the cause
stays at every command but an accepted RESUME and a reset. -/
theorem haltHalts : Obligations.HaltHalts := by
  refine ⟨fun s dt idle => ?_, fun c s t run => exec_hostHalt_stays run⟩
  have run := exec_halt_of_idle dt s idle
  obtain ⟨-, -, same, -⟩ := s.taking_effect dt 11 none
  have line : (s.taking dt 11 none).line = s.line := same .line (by decide)
  refine ⟨fun modes => ?_, fun modes => ?_⟩
  · have halts : s.line.mode.halts = true := by rcases modes with h | h | h | h <;> rw [h] <;> rfl
    rw [State.runHalt_of_halts _ (by rwa [line])] at run
    exact ⟨_, run, State.taking_halted dt halts rfl⟩
  · have rests : s.line.mode.halts = false := by rcases modes with h | h | h <;> rw [h] <;> rfl
    rw [State.runHalt_busy _ (by rwa [line])] at run
    exact ⟨_, run, s.taking_onlyAnswered dt 11 none (.plain .busy)⟩

end Sys2Proof.Machine
end

section
/-!
The attention line (R178): the words its judgment reads, and for every operation that writes a word of the shared memory
or raises a count, that the line is asserted after it as R178 says. A judgment is taken with every notice, so an operation
that ends in one needs nothing of the state before it; any other writes clear of the line's words.
-/

namespace Sys2Proof.Machine

/-! ### The words the judgment reads (R177) -/

/-- The enables and the seen counts. -/
def lineWords : List Nat := Header.attentionEnables :: (List.range 8).map Header.seen

/-- A word that overlaps none of those the judgment reads. -/
abbrev ClearOfLine (a : Nat) : Prop := ∀ w ∈ lineWords, w + 4 ≤ a ∨ a + 4 ≤ w

theorem seen_mem_lineWords (c : Fin 8) : Header.seen c ∈ lineWords :=
  List.mem_cons_of_mem _ (List.mem_map_of_mem (List.mem_range.mpr c.isLt))

/-- The judgment reads the enables and the seen counts, and nothing else of the memory. -/
theorem attentionNews_congr {m n : Memory} (counts : Vector Word 8) (same : ∀ w ∈ lineWords, n.readWord w = m.readWord w) :
    attentionNews counts n = attentionNews counts m := by
  have enables : n.readWord Header.attentionEnables = m.readWord Header.attentionEnables := same _ List.mem_cons_self
  have seen : ∀ c : Fin 8, n.readWord (Header.seen c) = m.readWord (Header.seen c) := fun c => same _ (seen_mem_lineWords c)
  simp only [attentionNews, enables, seen]

/-- Above the seen counts stand the counters and the snapshot of the header, and every other area of the memory (R170). -/
theorem clearOfLine_of_le {a : Nat} (h : 0x084 ≤ a) : ClearOfLine a := by
  have ends : ∀ w ∈ lineWords, w + 4 ≤ 0x084 := by decide
  exact fun w hw => .inl ((ends w hw).trans h)

theorem clearOfLine_ticketAddr (i : Nat) (f : TicketField) : ClearOfLine (ticketAddr i f) :=
  clearOfLine_of_le (by unfold ticketAddr ticketBase; omega)

theorem clearOfLine_changedFields (t u : HeldTicket) : ∀ p ∈ changedFields t u, ClearOfLine p.1 := by
  intro p hp
  obtain ⟨x, -, written⟩ := List.mem_filterMap.mp hp
  split at written
  · cases written
  · cases written
    exact clearOfLine_ticketAddr _ _

/-- A word of the host's at which the line is not judged is none the judgment reads. -/
theorem clearOfLine_of_aligned {a : Nat} (aligned : a % 4 = 0) (other : isAttentionAddr a = false) : ClearOfLine a := by
  have words : ∀ w ∈ lineWords, w % 4 = 0 ∧ isAttentionAddr w = true := by decide
  intro w hw
  obtain ⟨wAligned, judged⟩ := words w hw
  have ne : a ≠ w := by
    rintro rfl
    simp [judged] at other
  omega

/-! ### Judged, or clear of the line's words -/

theorem State.judgeAttention_judged (s : State) : AttentionInv s.judgeAttention := rfl

theorem State.notify_judged (c : Attention) (s : State) : AttentionInv (s.notify c) := rfl

/-- What leaves the counts and the line as they are, and writes clear of the line's words, keeps the line right. -/
theorem AttentionInv.of_bytes {ws : List Nat} {s t : State} (h : AttentionInv s) (counts : t.port.counts = s.port.counts)
    (line : t.port.attention = s.port.attention) (bytes : BytesBut ws s t) (clear : ∀ w ∈ ws, ClearOfLine w) :
    AttentionInv t := by
  have same : ∀ w ∈ lineWords, t.mem.readWord w = s.mem.readWord w :=
    fun w hw => bytes.word fun x hx => clear x hx w hw
  rw [AttentionInv, counts, line, attentionNews_congr _ same]
  exact h

/-- What touches neither the port nor the memory keeps the line right. -/
theorem AttentionInv.same {s t : State} (h : AttentionInv s) (port : t.port = s.port := by simp)
    (mem : t.mem = s.mem := by simp) : AttentionInv t := by
  rw [AttentionInv, port, mem]
  exact h

theorem AttentionInv.ite {c : Prop} [Decidable c] {s t : State} (hs : AttentionInv s) (ht : AttentionInv t) :
    AttentionInv (if c then s else t) := by
  split
  · exact hs
  · exact ht

section
variable {s : State} (h : AttentionInv s)
include h

theorem AttentionInv.updPhase {f : PhaseUnit → PhaseUnit} : AttentionInv (s.updPhase f) := h

theorem AttentionInv.updStations {f : Stations → Stations} : AttentionInv (s.updStations f) := h

theorem AttentionInv.updSched {f : Schedule → Schedule} : AttentionInv (s.updSched f) := h

theorem AttentionInv.updCache {f : JobCache → JobCache} : AttentionInv (s.updCache f) := h

theorem AttentionInv.updCover {f : CoverStation → CoverStation} : AttentionInv (s.updCover f) := h

theorem AttentionInv.updMiller {f : Miller → Miller} : AttentionInv (s.updMiller f) := h

theorem AttentionInv.updPot {f : GluePot → GluePot} : AttentionInv (s.updPot f) := h

theorem AttentionInv.updFormat {f : FormatUnit → FormatUnit} : AttentionInv (s.updFormat f) := h

theorem AttentionInv.updPins {f : Pins → Pins} : AttentionInv (s.updPins f) := h

theorem AttentionInv.updTrim {f : Trimmer → Trimmer} : AttentionInv (s.updTrim f) := h

theorem AttentionInv.updLine {f : LineControl → LineControl} : AttentionInv (s.updLine f) := h

theorem AttentionInv.setCell {p : Fin 18} {x : Slot} : AttentionInv (s.setCell p x) := h

theorem AttentionInv.setClamp {p : Fin 24} {x : Slot} : AttentionInv (s.setClamp p x) := h

theorem AttentionInv.setFetch {f : Option Fetch} : AttentionInv (s.setFetch f) := h

theorem AttentionInv.testTake : AttentionInv s.testTake := h.same

theorem AttentionInv.putWord {a : Nat} {w : Word} (clear : ClearOfLine a) : AttentionInv (s.putWord a w) :=
  h.of_bytes rfl rfl (State.putWord_bytes a w s) (by simpa using clear)

theorem AttentionInv.putNat {a n : Nat} (clear : ClearOfLine a) : AttentionInv (s.putNat a n) := h.putWord clear

theorem AttentionInv.putWords {l : List (Nat × Word)} (clear : ∀ p ∈ l, ClearOfLine p.1) : AttentionInv (s.putWords l) :=
  List.foldlRecOn l _ h fun _ hu p hp => hu.putWord (clear p hp)

theorem AttentionInv.foldl {α : Type} {f : State → α → State} (keeps : ∀ u x, AttentionInv u → AttentionInv (f u x))
    (l : List α) : AttentionInv (l.foldl f s) :=
  List.foldlRecOn l f h fun u hu x _ => keeps u x hu

theorem AttentionInv.snapshot : AttentionInv s.snapshot := by
  obtain ⟨port, -, bytes⟩ := s.snapshot_effect
  exact h.of_bytes (by rw [port]) (by rw [port]) bytes (by decide)

/-! ### Cache entries (R44, R51) -/

theorem AttentionInv.changeCache {f : JobCache → JobCache} : AttentionInv (s.changeCache f) :=
  .ite h (h.updCache.putNat (by decide))

theorem AttentionInv.setEntry {e : Fin 16} {x : CacheEntry} : AttentionInv (s.setEntry e x) := h.changeCache

theorem AttentionInv.dropLock {e : Fin 16} : AttentionInv (s.dropLock e) := h.setEntry

theorem AttentionInv.freeLock {b : Book} : AttentionInv (s.freeLock b) := by
  unfold State.freeLock
  split
  · exact h.dropLock
  · exact h

theorem AttentionInv.releaseClamp {p : Fin 24} : AttentionInv (s.releaseClamp p) := by
  unfold State.releaseClamp
  split
  · exact h.same.freeLock
  · exact h

/-! ### Tickets, the cursor and the remake list (R19, R33, R38, R39) -/

theorem AttentionInv.changeTicket {t u : HeldTicket} : AttentionInv (s.changeTicket t u) :=
  h.updSched.putWords (clearOfLine_changedFields t u)

theorem AttentionInv.setCursor {i : Nat} : AttentionInv (s.setCursor i) := h.updSched.putNat (by decide)

theorem AttentionInv.advanceCursor : AttentionInv s.advanceCursor := h.setCursor

theorem AttentionInv.setRemakes {l : List Nat} : AttentionInv (s.setRemakes l) :=
  .ite h (h.updSched.putNat (by decide))

end

theorem State.writeEnd_judged (i : Nat) (l : List (TicketField × Word)) (r : EndReason) (g : Stage) (s : State) :
    AttentionInv (s.writeEnd i l r g) := State.notify_judged _ _

theorem State.endHeld_judged (t : HeldTicket) (r : EndReason) (g : Stage) (s : State) : AttentionInv (s.endHeld t r g) := by
  unfold State.endHeld
  dsimp only
  refine .ite (.advanceCursor ?ended) ?ended
  exact State.writeEnd_judged _ _ _ _ _

theorem State.logEntry_judged (b : Book) (e : LogEntry) (s : State) : AttentionInv (s.logEntry b e) :=
  State.notify_judged _ _

theorem State.refuse_judged (i : Nat) (r : EndReason) (d : Nat) (s : State) : AttentionInv (s.refuse i r d).1 :=
  (State.writeEnd_judged _ _ _ _ _).advanceCursor

section
variable {s : State} (h : AttentionInv s)
include h

theorem AttentionInv.endCheck {i : Nat} : AttentionInv (s.endCheck i) := by
  unfold State.endCheck
  split
  · exact h
  · exact .ite (s.endHeld_judged _ _ _) (.ite (s.endHeld_judged _ _ _) h)

/-! ### Postings (R35, R37, R152) -/

theorem AttentionInv.postBook {b : Book} {p : PostPoint} : AttentionInv (s.postBook b p) := by
  unfold State.postBook State.postSpoiled
  dsimp only
  split
  · split
    · exact State.logEntry_judged _ _ _
    · exact (State.logEntry_judged _ _ _).changeTicket.endCheck
  · exact h

theorem AttentionInv.postMade {b : Book} : AttentionInv (s.postMade b) := by
  have logged : AttentionInv ((warningEntries b).foldl (fun s e => s.logEntry b e) (s.consult b.ticket)) :=
    h.same.foldl (fun u e _ => u.logEntry_judged b e) _
  unfold State.postMade
  dsimp only
  split
  · exact logged
  · exact logged.changeTicket.endCheck

/-! ### The launch demand (R23 to R31, R45) -/

theorem AttentionInv.startFetch {j : Nat} : AttentionInv (s.startFetch j) := by
  unfold State.startFetch
  split
  · exact h
  · exact h.changeCache

theorem AttentionInv.launch {t : HeldTicket} {k : BookKind} {f : FormatState} {e : Fin 16} :
    AttentionInv (s.launch t k f e) := by
  unfold State.launch
  dsimp only
  refine .ite (.advanceCursor ?changed) ?changed
  refine .changeTicket (.setEntry (.ite (.setRemakes ?stored) ?stored))
  exact h.setCell.updSched.putWord (by decide)

theorem AttentionInv.holdOrLaunch {i : Nat} {k : BookKind} {f : FormatState} {e : Fin 16} :
    AttentionInv (s.holdOrLaunch i k f e).1 := by
  unfold State.holdOrLaunch
  dsimp only
  split
  · exact h.launch
  · exact h
  · exact h

theorem AttentionInv.provisional {t : HeldTicket} {k : BookKind} : AttentionInv (s.provisional t k).1 := by
  unfold State.provisional
  split
  · exact h
  · split
    · exact h.holdOrLaunch
    · exact h

theorem AttentionInv.heldLookup {t : HeldTicket} {k : BookKind} : AttentionInv (s.heldLookup t k).1 := by
  unfold State.heldLookup
  split
  · exact h.holdOrLaunch
  · split
    · split
      · exact h.provisional
      · split <;> exact h
    · split
      · exact h
      · exact h.startFetch.provisional

theorem AttentionInv.preflight {i : Nat} {e : Fin 16} {r : JobRecord} : AttentionInv (s.preflight i e r).1 := by
  unfold State.preflight
  dsimp only
  split
  · exact s.refuse_judged _ _ _
  · split
    · exact s.refuse_judged _ _ _
    · exact (h.updSched.putWord (clearOfLine_ticketAddr i .stage)).holdOrLaunch

theorem AttentionInv.postedLookup {i : Nat} : AttentionInv (s.postedLookup i).1 := by
  unfold State.postedLookup
  dsimp only
  split
  · exact s.refuse_judged _ _ _
  · split
    · split
      · exact h.preflight
      · exact h
    · split
      · exact h
      · split
        · exact h.startFetch
        · exact h

theorem AttentionInv.remakeCandidate {i : Nat} : AttentionInv (s.remakeCandidate i).1 := by
  have consulted : AttentionInv (s.consult i) := h.same
  unfold State.remakeCandidate
  dsimp only
  split
  · exact consulted
  · split
    · exact consulted.setRemakes.changeTicket.endCheck
    · exact consulted.heldLookup

theorem AttentionInv.cursorCandidate : AttentionInv s.cursorCandidate.1 := by
  have consulted : AttentionInv (s.consult s.sched.cursor) := h.same
  unfold State.cursorCandidate State.drain
  dsimp only
  split
  · split
    · split
      · exact consulted.setRemakes.changeTicket.advanceCursor.endCheck
      · exact consulted.heldLookup
    · split
      · exact consulted
      · exact consulted.endCheck
  · split
    · split
      · exact s.refuse_judged _ _ _
      · exact h.postedLookup
    · exact h

theorem AttentionInv.decision : AttentionInv s.decision.1 := by
  unfold State.decision
  split
  · exact h
  · split
    · exact h.remakeCandidate
    · exact h.cursorCandidate

theorem AttentionInv.setHold {r : HoldReason} : AttentionInv (s.setHold r) := h.updSched.putNat (by decide)

theorem AttentionInv.prefetch : AttentionInv s.prefetch := by
  unfold State.prefetch
  split
  · exact h
  · exact .ite h.startFetch h

theorem AttentionInv.launchDemand : AttentionInv s.launchDemand :=
  .ite h.decision.setHold.updLine.prefetch h.setHold

/-! ### The fetch (R32, R48 to R54) -/

theorem AttentionInv.stopForJob {j i : Nat} : AttentionInv (s.stopForJob j i) := by
  unfold State.stopForJob
  split
  · exact .ite h.updSched.endCheck h
  · exact h

theorem AttentionInv.verdict {j code : Nat} : AttentionInv (s.verdict j code) := by
  unfold State.verdict
  dsimp only
  exact AttentionInv.foldl (.ite (s.refuse_judged _ _ _) h) (fun _ _ hu => hu.stopForJob) _

theorem AttentionInv.formatPending {e : Fin 16} {r : JobRecord} : AttentionInv (s.formatPending e r) := h.same

theorem AttentionInv.failPending {e : Fin 16} : AttentionInv (s.failPending e) := h.same

theorem AttentionInv.completeFetch {f : Fetch} {a : AttemptReads} : AttentionInv (s.completeFetch f a) := by
  unfold State.completeFetch
  dsimp only
  split
  · exact h.updCache.setEntry.formatPending.setFetch
  · exact h.updCache.failPending.setEntry.setFetch.verdict

theorem AttentionInv.attemptEnd {lags : List Nat} : AttentionInv (s.attemptEnd lags) := by
  unfold State.attemptEnd State.endAttempt
  split
  · exact .ite (.ite h.setFetch (.ite h.setFetch h.completeFetch)) h
  · exact h

theorem AttentionInv.waitExpiry : AttentionInv s.waitExpiry := by
  unfold State.waitExpiry
  split
  · exact .ite h.setFetch h
  · exact h

theorem AttentionInv.fetchExpiry : AttentionInv s.fetchExpiry := by
  unfold State.fetchExpiry
  split
  · exact .ite h.failPending.setEntry.setFetch h
  · exact h

end

/-! ### The line mode and the halt causes (R156, R160 to R162, R166) -/

/-- A mode change ends in its notices, MODE_CHANGED's and at a halt HALTED's (R156). -/
theorem State.changeMode_judged (m : LineMode) (s : State) : AttentionInv (s.changeMode m) := by
  unfold State.changeMode
  dsimp only
  exact .ite (State.notify_judged _ _) (State.notify_judged _ _)

theorem State.beginWarming_judged (r : Bool) (s : State) : AttentionInv (s.beginWarming r) := s.changeMode_judged .warming

section
variable {s : State} (h : AttentionInv s)
include h

theorem AttentionInv.setCauses {c : Causes} : AttentionInv (s.setCauses c) := h.updLine.putWord (by decide)

theorem AttentionInv.raiseCause {c : Cause} : AttentionInv (s.raiseCause c) := by
  unfold State.raiseCause
  dsimp only
  exact .ite (State.changeMode_judged _ _) (.ite h h.setCauses)

theorem AttentionInv.clearCause {c : Cause} : AttentionInv (s.clearCause c) := .ite h.setCauses h

theorem AttentionInv.emptyingCheck : AttentionInv s.emptyingCheck := .ite (s.changeMode_judged _) h

theorem AttentionInv.levelOne : AttentionInv s.levelOne := .ite (s.changeMode_judged _) h

/-! ### The trimmer (R136 to R140) -/

theorem AttentionInv.postCut (l : List Book) : AttentionInv (s.postCut l) := by
  induction l generalizing s with
  | nil => exact h
  | cons b rest ih => exact ih h.same.postMade

theorem AttentionInv.postAborted {p : TrimPhase} (l : List Book) : AttentionInv (s.postAborted p l) := by
  induction l generalizing s with
  | nil => exact h
  | cons b rest ih => exact ih h.same.postBook

theorem AttentionInv.cutComplete : AttentionInv s.cutComplete := (h.postCut s.trim.books).same.emptyingCheck

theorem AttentionInv.trimFault {r : TrimReason} : AttentionInv (s.trimFault r) := h.same.raiseCause

theorem AttentionInv.abortTrimmer : AttentionInv s.abortTrimmer := by
  unfold State.abortTrimmer
  split
  · exact h
  · exact .ite h (h.postAborted _).updTrim
  · exact (h.postAborted _).updTrim

theorem AttentionInv.afterReport : AttentionInv s.afterReport := by
  unfold State.afterReport
  dsimp only
  split
  · exact h
  · refine .ite ?_ h
    split
    · exact h.updTrim
    · exact .ite (.ite h.clearCause.updTrim.testTake h.clearCause.updTrim) h
    · exact h

theorem AttentionInv.knifeReport : AttentionInv s.knifeReport := .ite h.updTrim.afterReport h

theorem AttentionInv.beamTop : AttentionInv s.beamTop :=
  .ite (.ite h.clearCause.updTrim.testTake h.clearCause.cutComplete) h

/-! ### Stations (chapters 4 to 7) -/

theorem AttentionInv.usePoint {p : Fin 18} : AttentionInv (s.usePoint p) := by
  unfold State.usePoint
  split
  · exact .ite h.setCell.freeLock h
  · exact h

theorem AttentionInv.usePointClamp {p : Fin 24} : AttentionInv (s.usePointClamp p) := by
  unfold State.usePointClamp
  split
  · exact .ite h.setClamp.freeLock h
  · exact h

theorem AttentionInv.usePoints : AttentionInv s.usePoints := by
  unfold State.usePoints
  exact (h.foldl (fun _ _ hu => hu.usePoint) _).foldl (fun _ _ hu => hu.usePointClamp) _

theorem AttentionInv.pocketVerdict {io : CountInputs} {k : Fin 16} : AttentionInv (s.pocketVerdict io k) := by
  unfold State.pocketVerdict
  dsimp only
  split
  · exact h
  · exact .ite (State.notify_judged _ _) h.same

theorem AttentionInv.pocketVerdicts {io : CountInputs} : AttentionInv (s.pocketVerdicts io) := by
  unfold State.pocketVerdicts
  exact h.foldl (fun _ _ hu => hu.pocketVerdict) _

theorem AttentionInv.gaugeEnd : AttentionInv s.gaugeEnd := by
  unfold State.gaugeEnd
  dsimp only
  refine .releaseClamp ?_
  refine .ite ?_ h.updFormat
  split
  · split
    · exact h.updFormat.setClamp
    · exact h.updFormat
  · exact h.updFormat

theorem AttentionInv.judgeWear : AttentionInv s.judgeWear := by
  unfold State.judgeWear
  dsimp only
  exact .ite (State.notify_judged _ _) (.ite h.updMiller h)

theorem AttentionInv.millEnd : AttentionInv s.millEnd := by
  unfold State.millEnd
  dsimp only
  refine .ite ?_ h.updMiller
  split
  · split
    · exact .ite h.updMiller h.updMiller.updMiller.judgeWear
    · exact h.updMiller
  · exact h.updMiller

theorem AttentionInv.serve {w : Window} : AttentionInv (s.serve w) := h

theorem AttentionInv.feedCover {l : LaunchFormat} {code : Option Word} {scored : Bool} {b : Book} :
    AttentionInv (s.feedCover l code scored b) := by
  unfold State.feedCover
  dsimp only
  refine .ite (.raiseCause ?drawn) ?drawn
  exact h.setClamp.updCover

theorem AttentionInv.coverChecks {l : LaunchFormat} {code : Option Word} {b : Book} :
    AttentionInv (s.coverChecks l code b) :=
  .ite h.setClamp (.ite h.setClamp h.feedCover)

theorem AttentionInv.coverStart {code : Option Word} : AttentionInv (s.coverStart code) := by
  unfold State.coverStart
  split
  · split
    · exact .ite (.ite h.serve h.serve.coverChecks) h
    · exact h
  · exact h

theorem AttentionInv.deliverEnd : AttentionInv s.deliverEnd := by
  unfold State.deliverEnd
  split
  · exact .ite (.ite h.same h.same.postBook) h.same.postBook
  · exact h.same

theorem AttentionInv.startWork {w : Window} {io : CountInputs} : AttentionInv (s.startWork w io) := by
  cases w
  case cover => exact h.coverStart
  all_goals exact h.same (by simp [State.startWork]) (by simp [State.startWork])

theorem AttentionInv.endWork {w : Window} {io : CountInputs} : AttentionInv (s.endWork w io) := by
  unfold State.endWork
  cases w
  case pocket =>
    dsimp only
    exact h.pocketVerdicts
  case gauge => exact h.gaugeEnd
  case mill => exact h.millEnd
  case deliver => exact h.deliverEnd
  all_goals exact h.same

theorem AttentionInv.unservedEnd {w : Window} : AttentionInv (s.unservedEnd w) := by
  cases w
  case gauge => exact h.same.releaseClamp
  case deliver =>
    change AttentionInv s.deliverUnserved
    unfold State.deliverUnserved
    split
    · exact h.same.postBook
    · exact h
  all_goals exact h.same (by simp [State.unservedEnd, stationPosition]) (by simp [State.unservedEnd, stationPosition])

theorem AttentionInv.changeover {w : Window} : AttentionInv (s.changeover w) := h.same

theorem AttentionInv.windowStart {w : Window} {io : CountInputs} : AttentionInv (s.windowStart w io) := by
  unfold State.windowStart
  dsimp only
  refine .ite (.startWork ?demanded) ?demanded
  refine .ite (.launchDemand ?used) ?used
  refine .ite (.usePoints ?engaged) ?engaged
  exact .ite h.updPhase.updStations h.updPhase

theorem AttentionInv.windowEnd {w : Window} {io : CountInputs} : AttentionInv (s.windowEnd w io) := by
  unfold State.windowEnd
  dsimp only
  refine .ite (.emptyingCheck ?changed) ?changed
  exact AttentionInv.changeover (.ite h.updPhase.endWork.updStations h.updPhase.unservedEnd)

/-! ### The shaft (R1 to R7, R14, R80) -/

theorem AttentionInv.leavePending {w : Window} : AttentionInv (s.leavePending w) := h.same

theorem AttentionInv.advance : AttentionInv s.advance := h.same

theorem AttentionInv.recomputeComp : AttentionInv s.recomputeComp := h

theorem AttentionInv.dealUntaken : AttentionInv s.dealUntaken := by
  unfold State.dealUntaken
  refine h.foldl (fun u w hu => ?_) _
  have disengaged : AttentionInv (u.disengage w) := hu.same
  exact .ite hu disengaged.unservedEnd.leavePending

theorem AttentionInv.chainEnd : AttentionInv s.chainEnd := by
  unfold State.chainEnd
  split
  · exact h.setCell.freeLock.postBook
  · exact h

theorem AttentionInv.cycleIndex : AttentionInv s.cycleIndex :=
  h.dealUntaken.chainEnd.advance.updPhase.recomputeComp.emptyingCheck.levelOne.snapshot

theorem AttentionInv.takeEvent {io : CountInputs} {e : PhaseEvent} : AttentionInv (s.takeEvent io e) := by
  cases e with
  | opens w => exact h.windowStart
  | closes w => exact h.windowEnd
  | spineOpen => exact h
  | spineClose => exact h
  | sideOpen => exact h
  | sideClose => exact h

theorem AttentionInv.eventAt {p : Nat} {io : CountInputs} {e : PhaseEvent} : AttentionInv (s.eventAt p io e) :=
  .ite h.takeEvent h

theorem AttentionInv.eventsAt {p : Nat} {io : CountInputs} : AttentionInv (s.eventsAt p io) :=
  h.foldl (fun _ _ hu => hu.eventAt) _

theorem AttentionInv.skippedAt {p : Nat} {io : CountInputs} : AttentionInv (s.skippedAt p io) :=
  h.foldl (fun _ _ hu => hu.eventAt) _

theorem AttentionInv.runSpan {io : CountInputs} (n : Nat) : AttentionInv (s.runSpan io n) := by
  induction n generalizing s with
  | zero => exact h
  | succ n ih => exact ih h.skippedAt

theorem AttentionInv.forwardCount {io : CountInputs} : AttentionInv (s.forwardCount io) :=
  .ite (.ite h.updPhase.cycleIndex h.updPhase.eventsAt) h.updPhase

theorem AttentionInv.forcePhase {io : CountInputs} : AttentionInv (s.forcePhase io) := by
  unfold State.forcePhase
  dsimp only
  refine .ite (.cycleIndex ?forced) (.updPhase ?forced)
  exact .updPhase (.ite (h.runSpan _) h)

theorem AttentionInv.judgeJam {d : Nat} : AttentionInv (s.judgeJam d) :=
  .ite h.updPhase.raiseCause h.updPhase.clearCause

theorem AttentionInv.indexMark {io : CountInputs} : AttentionInv (s.indexMark io) :=
  .ite (.judgeJam (.ite h h.forcePhase)) h.updPhase.cycleIndex.updPhase

/-! ### Inputs (R120, R140, R158) -/

theorem AttentionInv.magazineLevel {m : Magazine} {empty : Bool} : AttentionInv (s.magazineLevel m empty) :=
  .ite (State.notify_judged _ _) h.updPins.updCover

theorem AttentionInv.guardTrimmer {already : Bool} : AttentionInv (s.guardTrimmer already) :=
  .ite h h.abortTrimmer.emptyingCheck

theorem AttentionInv.guardSet {c : Cause} {abortFirst : Bool} : AttentionInv (s.guardSet c abortFirst) :=
  .ite h.guardTrimmer.raiseCause h.raiseCause.guardTrimmer

theorem AttentionInv.guardCleared {c : Cause} : AttentionInv (s.guardCleared c) := h.clearCause.testTake

theorem AttentionInv.estopLevel {active abortFirst : Bool} : AttentionInv (s.estopLevel active abortFirst) :=
  .ite h (.ite h.updPins.guardSet.updLine h.updPins.guardCleared)

theorem AttentionInv.guardLevel {opened abortFirst : Bool} : AttentionInv (s.guardLevel opened abortFirst) :=
  .ite h (.ite h.updPins.guardSet h.updPins.guardCleared)

theorem AttentionInv.keyPress : AttentionInv s.keyPress := by
  unfold State.keyPress
  dsimp only
  refine .ite h ?_
  split
  · exact State.changeMode_judged _ _
  · exact .ite h h
  · exact h

/-! ### Timers and conversions (R90, R110 to R114, R128, R136, R137, R159, R167) -/

theorem AttentionInv.judgeOverheat {t : Option Nat} : AttentionInv (s.judgeOverheat t) := by
  unfold State.judgeOverheat
  split
  · exact h
  · exact .ite h.updPot.raiseCause (.ite h.updPot.clearCause h)

theorem AttentionInv.conversionEnd {r : Option (BitVec 10)} : AttentionInv (s.conversionEnd r) := by
  unfold State.conversionEnd
  dsimp only
  refine .ite (.updFormat ?_) h
  split
  · exact .ite h h
  · exact .ite h.updPot.judgeOverheat.updLine h.updPot.judgeOverheat
  · exact h

theorem AttentionInv.setTimeExpiry {place : Fin 12} : AttentionInv (s.setTimeExpiry place) := by
  unfold State.setTimeExpiry
  split
  · exact .ite h.updTrim.testTake h
  · exact h

theorem AttentionInv.cutExpiry {top : Bool} : AttentionInv (s.cutExpiry top) :=
  .ite (.ite h.cutComplete h.trimFault) h

theorem AttentionInv.restExpiry : AttentionInv s.restExpiry := by
  unfold State.restExpiry
  refine .ite ?_ h
  split
  · exact State.changeMode_judged _ _
  · exact State.changeMode_judged _ _
  · exact h

/-! ### The host's writes and the command slot (R170 to R178) -/

/-- A host write clear of the line's words. -/
theorem AttentionInv.hostWrite {a : Nat} {w : Word} (clear : ClearOfLine a) : AttentionInv (s.hostWrite a w) :=
  h.of_bytes rfl rfl (fun x hx => State.putWord_bytes a w s x hx) (by simpa using clear)

theorem AttentionInv.hostIssue {code : Word} {arg : Option Word} : AttentionInv (s.hostIssue code arg) := by
  obtain ⟨same, bytes⟩ := s.hostIssue_effect code arg
  have port : (s.hostIssue code arg).port = s.port := same .port (by decide)
  refine h.of_bytes (by rw [port]) (by rw [port]) bytes fun w hw => ?_
  have clear : ∀ w ∈ slotWordsArg, ClearOfLine w := by decide
  exact clear w (issueWords_subset arg hw)

theorem AttentionInv.slotTaken : AttentionInv s.slotTaken := h.putWord (by decide)

theorem AttentionInv.notice : AttentionInv s.notice := by
  unfold State.notice
  dsimp only
  split
  · exact .ite (s.changeMode_judged _) h
  · exact .ite h h
  · exact .ite (s.beginWarming_judged _) h
  · exact .ite (s.beginWarming_judged _) h
  · exact h

end

theorem State.slotDone_judged (r : Reply) (s : State) : AttentionInv (s.slotDone r) := State.notify_judged _ _

/-- Every command carried out is answered, and its answer is a notice (R172). -/
theorem State.carryOut_judged (run : State → State × Reply) (s : State) : AttentionInv (s.carryOut run) :=
  State.slotDone_judged _ _

section
variable {s : State} (h : AttentionInv s)
include h

theorem AttentionInv.arrival {code arg : Word} : AttentionInv (s.arrival code arg) := by
  unfold State.arrival
  refine .ite h ?_
  split
  case h_1 => exact .ite h.slotTaken (State.slotDone_judged _ _)
  all_goals exact State.carryOut_judged _ _

theorem AttentionInv.loadEnd {lags : List Nat} : AttentionInv (s.loadEnd lags) := by
  unfold State.loadEnd
  split
  · exact h
  · exact State.slotDone_judged _ _

/-- A host write of any word: the line is judged at its own words, and the rest lie clear of them (R178). -/
theorem AttentionInv.wordWritten {a : Nat} {w : Word} (aligned : a % 4 = 0) : AttentionInv (s.wordWritten a w) := by
  unfold State.wordWritten
  dsimp only
  split
  · next notice => exact (h.hostWrite (by rw [notice]; decide)).notice
  · split
    · next issued => exact (h.hostWrite (by rw [issued.1]; decide)).arrival
    · split
      · exact State.judgeAttention_judged _
      · next other => exact h.hostWrite (clearOfLine_of_aligned aligned (Bool.eq_false_of_not_eq_true other))

end

/-! ### Resets (R180) -/

/-- A word keeps what a list of writes puts there last. -/
theorem Memory.readWord_writeWords_last (m : Memory) (a : Nat) (w : Word) (before after : List (Nat × Word))
    (clear : ∀ p ∈ after, a + 4 ≤ p.1 ∨ p.1 + 4 ≤ a) :
    (m.writeWords (before ++ (a, w) :: after)).readWord a = w := by
  have three : m.writeWords (before ++ (a, w) :: after) = ((m.writeWords before).writeWord a w).writeWords after := by
    simp [Memory.writeWords]
  rw [three, Memory.readWord_congr fun i hi => Memory.read_writeWords_outside after _ (a + i) fun p hp => ?_,
    Memory.readWord_writeWord_same]
  have := clear p hp
  omega

/-- The header a reset writes enables no cause. -/
theorem readWord_resetHeader_enables (m : Memory) (pins : Pins) :
    (m.writeWords (resetHeader pins)).readWord Header.attentionEnables = 0 := by
  have addresses : ∀ a ∈ ((resetHeader pins).drop 15).map Prod.fst, Header.attentionEnables + 4 ≤ a := by
    rw [show ((resetHeader pins).drop 15).map Prod.fst =
      ((resetHeader ⟨false, false, false, false, false⟩).drop 15).map Prod.fst from rfl]
    decide
  exact Memory.readWord_writeWords_last m _ 0 ((resetHeader pins).take 14) ((resetHeader pins).drop 15)
    fun p hp => .inl (addresses p.1 (List.mem_map_of_mem hp))

theorem State.afterReset_judged (now : Nat) (pins : Pins) (m : Memory) (pending : List Instr) :
    AttentionInv (State.afterReset now pins m pending) := by
  simp [AttentionInv, State.afterReset, Port.atReset, attentionNews, readWord_resetHeader_enables]

/-! ### Every command (R178) -/

theorem exec_hostWordWrite_aligned {dt a : Nat} {w : Word} {s t : State} (run : exec (.hostWordWrite dt a w) s = .next t) :
    a % 4 = 0 := by
  change execHostWordWrite dt a w s = _ at run
  unfold execHostWordWrite at run
  split at run
  · cases run
  · split at run
    · cases run
    · next aligned => exact not_not.mp aligned

/-- A command issued through the slot is its issue and its arrival (R172); of the others, the resets judge nothing and need
nothing judged, for they enable no cause. -/
theorem AttentionInv.exec {c : Instr} {s t : State} (h : AttentionInv s) (run : exec c s = .next t) : AttentionInv t := by
  have later : ∀ dt, AttentionInv (s.elapse dt) := fun _ => h
  cases slot : slotCommand c with
  | some issue =>
    obtain ⟨dt, w, arrives⟩ := exec_of_slotCommand slot s
    rw [arrives] at run
    cases run
    exact (later dt).hostIssue.arrival
  | none =>
    cases c
    case loadConfig | warm | start | runOut | resume | clearClamp | purgeCache | setCursor | setback | cool | halt |
        unknownCommand => cases slot
    case hostWordWrite dt a w =>
      rw [exec_hostWordWrite_next run]
      exact (later dt).wordWritten (exec_hostWordWrite_aligned run)
    all_goals
      injection run with run
      subst run
    case powerOnReset | controllerReset => exact State.afterReset_judged _ _ _ _
    case reverseEncoderCount | pocketCodeReport | pocketReloaded | gluePumpPulse | millMotionComplete |
        spindleLoadPulse | scorerMotionComplete | startKeyRelease => exact h
    case temperatureTimerExpiry | heaterPeriodStart | heaterOnTimeEnd => exact .ite h h
    case forwardEncoderCount dt io => exact (later dt).forwardCount
    case indexMark dt io => exact (later dt).indexMark
    case fetchAttemptEnd dt lags => exact (later dt).attemptEnd
    case fetchWaitExpiry dt => exact (later dt).waitExpiry
    case fetchTimeout dt => exact (later dt).fetchExpiry
    case conversionComplete dt result => exact (later dt).conversionEnd
    case magazineSensorChange dt magazine empty => exact (later dt).magazineLevel
    case setTimeExpiry dt place => exact (later dt).setTimeExpiry
    case knifePositioningReport dt => exact (later dt).knifeReport
    case positioningLimitExpiry dt => exact .ite (later dt).trimFault h
    case cutTimerExpiry dt beamAtTop => exact (later dt).cutExpiry
    case cutCompleteInput dt => exact (later dt).beamTop
    case emergencyStopInput dt active abortFirst => exact (later dt).estopLevel
    case guardInput dt opened abortFirst => exact (later dt).guardLevel
    case startKeyPress dt => exact (later dt).keyPress
    case stableTimerExpiry => exact .ite (State.changeMode_judged _ _) h
    case restTimerExpiry dt => exact (later dt).restExpiry
    case scheduleNotice dt value => exact ((later dt).hostWrite (by decide)).notice
    case loadConfigReadEnd dt lags => exact (later dt).loadEnd
    case attentionWrite => exact State.judgeAttention_judged _

/-- Settles O5: a step takes the command that has waited longest, and every command leaves the line judged on the counts,
the enables and the seen counts that stand after it. -/
theorem stepKeepsAttentionLine : Obligations.StepKeepsAttentionLine := by
  intro s t h run
  unfold step at run
  split at run
  · cases run
    exact h
  · next c rest _ => exact AttentionInv.exec (s := { s with pending := rest }) h run

end Sys2Proof.Machine
end

section
/-!
What a command can do to the card, said once: every command but a reset, a host word write, the end of LOAD_CONFIG's
reading and the two guard inputs is a sequence of elementary changes (`Change`), each with what is known where it is made. The invariants of a step are then
statements about one elementary change.
-/

namespace Sys2Proof.Machine

/-! ### Elementary changes -/

/-- The work of a station is at rest (R12). -/
def AtRest (s : State) : Window → Prop
  | .pocket => ∀ k : Fin 16, s.gathering.pockets[k].feed = none
  | .gauge => s.format.gauge = none
  | .mill => s.miller.integrating = false
  | .spineGlue => s.glue.spine.isOpen = false
  | .sideGlue => s.glue.side.isOpen = false
  | .cover => s.cover.fed = none
  | .nip => s.cover.nipClosed = false
  | _ => True

/-- The work of the engaged stations: what is away from rest was so before, or its station is engaged (R12). -/
structure WorkEngaged (s t : State) : Prop where
  pocket : ∀ k : Fin 16, t.gathering.pockets[k].feed.isSome = true →
    s.gathering.pockets[k].feed.isSome = true ∨ Window.pocket ∈ s.stations.engaged
  gauge : t.format.gauge.isSome = true → s.format.gauge.isSome = true ∨ Window.gauge ∈ s.stations.engaged
  mill : t.miller.integrating = true → s.miller.integrating = true ∨ Window.mill ∈ s.stations.engaged
  spine : t.glue.spine.isOpen = true → s.glue.spine.isOpen = true ∨ Window.spineGlue ∈ s.stations.engaged
  side : t.glue.side.isOpen = true → s.glue.side.isOpen = true ∨ Window.sideGlue ∈ s.stations.engaged
  fed : t.cover.fed.isSome = true → s.cover.fed.isSome = true ∨ Window.cover ∈ s.stations.engaged
  nip : t.cover.nipClosed = true → s.cover.nipClosed = true ∨ Window.nip ∈ s.stations.engaged
  gate : t.carousel.gate1 = s.carousel.gate1 ∨ t.carousel.gate1 = .toReject

/-- The bounds of R42 and R43 on a record. -/
abbrev JobRecord.bounded (r : JobRecord) : Prop := r.sigCount ≤ 16 ∧ ∀ g ∈ r.entries, g.leaves ≤ 64

/-- The bounds of R43 on a stock copy. -/
abbrev StockCopy.bounded (x : StockCopy) : Prop := x.caliper ≤ 400 ∧ x.compression ≤ 1000

/-- An entry with one lock less; a stale one without its last lock is EMPTY (R51, R55). -/
def CacheEntry.unlocked (x : CacheEntry) : CacheEntry :=
  if x.stale = true ∧ x.locks - 1 = 0 then CacheEntry.emptyEntry else { x with locks := x.locks - 1 }

/-- The words the part writes (R170): the header, the defect log, and of the ticket table the tickets under the cursor and
held. -/
def State.PartWord (s : State) (a : Nat) : Prop :=
  a + 4 ≤ 0x0200 ∨ (0x8800 ≤ a ∧ a + 4 ≤ 0x9800) ∨
    ∃ i f, a = ticketAddr i f ∧ (i = s.sched.cursor ∨ (s.held i).isSome = true)

/-- An elementary change of the card. -/
inductive Change (s : State) : State → Prop where
  -- time, pins, port and words
  | later (dt : Nat) : Change s (s.elapse dt)
  | pins (f : Pins → Pins) (estop : (f s.pins).estop = s.pins.estop) (guardOpen : (f s.pins).guardOpen = s.pins.guardOpen) :
      Change s (s.updPins f)
  | port (f : Port → Port) : Change s (s.updPort f)
  | word (a : Nat) (w : Word) (own : s.PartWord a) : Change s (s.putWord a w)
  -- the Schedule unit
  | putTicket (u : HeldTicket) (held : (s.held u.index).isSome = true) : Change s (s.updSched (Schedule.put u))
  | removeTicket (i : Nat) :
      Change s (s.updSched fun c => { c with held := c.held.filter fun u => decide (u.index ≠ i) })
  | addTicket (t : HeldTicket) (free : s.held t.index = none) (cursor : t.index = s.sched.cursor) :
      Change s (s.updSched fun c => { c with held := c.held ++ [t] })
  | cursor (i : Nat) (table : i < 256) : Change s (s.updSched fun c => { c with cursor := i })
  | remakes (l : List Nat) (short : l.length ≤ s.sched.remakes.length ∨ l.length ≤ 32) :
      Change s (s.updSched fun c => { c with remakes := l })
  | serial : Change s (s.updSched fun c => { c with nextSerial := serialAfter c.nextSerial })
  | hold (h : HoldReason) : Change s (s.updSched fun c => { c with hold := h })
  -- the Job cache
  | lock (e : Fin 16) (used : s.cache.entries[e].state = .filled ∨ s.cache.fetch.map (·.target) = some e) :
      Change s (s.updCache fun c =>
        { c with entries := c.entries.set e { c.entries[e] with locks := c.entries[e].locks + 1, used := true } })
  | unlock (e : Fin 16) :
      Change s (s.updCache fun c =>
        { c with entries := c.entries.set e c.entries[e].unlocked })
  | fetch (j : Nat) (e : Fin 16) (c : JobCache) (idle : s.cache.fetch = none) (absent : s.cache.lookup j = none)
      (target : s.cache.target = (some e, c)) :
      Change s (s.updCache fun _ =>
        { c with entries := c.entries.set e ⟨.filling, some j, none, 0, true, false⟩, fetch := some ⟨j, e, s.now, none, []⟩ })
  | engine (f g : Fetch) (running : s.cache.fetch = some f) (job : g.job = f.job) (target : g.target = f.target) :
      Change s (s.setFetch (some g))
  | stock (copies : List (Nat × StockCopy)) (bounds : ∀ p ∈ copies, p.2.bounded) :
      Change s (s.updCache (JobCache.takeStock copies))
  | fill (f : Fetch) (r : JobRecord) (running : s.cache.fetch = some f) (bounds : r.bounded) :
      Change s (s.updCache fun c =>
        { c with
          entries := c.entries.set f.target { c.entries[f.target] with state := .filled, copy := some r, used := true }
          fetch := none })
  | giveUp (f : Fetch) (running : s.cache.fetch = some f) :
      Change s (s.updCache fun c => { c with entries := c.entries.set f.target CacheEntry.emptyEntry, fetch := none })
  | purge :
      Change s (s.updCache fun c =>
        { entries := Vector.ofFn fun e : Fin 16 => c.entries[e].purged
          stock := Vector.replicate 64 none
          fetch := c.fetch.map fun f => { f.retry with startedAt := s.now } })
  -- the stations
  | work (t : State) (same : SameBut [.gathering, .carousel, .format, .miller, .glue, .cover] s t) (mem : t.mem = s.mem)
      (engaged : WorkEngaged s t) : Change s t
  | engage (w : Window) (acting : s.line.mode.acting = true) :
      Change s (s.updStations fun x => { x with engaged := w :: x.engaged })
  | serve (w : Window) (engaged : w ∈ s.stations.engaged) : Change s (s.serve w)
  | release (w : Window) (rest : AtRest s w) : Change s (s.updStations (Stations.drop w))
  | disengage (w : Window) : Change s (s.disengage w)
  -- the glue pot
  | sense (t : Option Nat) (b : Bool) (duty : Nat) (range : duty ≤ 255) :
      Change s (s.updPot fun p => { p with temp := t, inBand := b, computed := duty })
  | timer (f : Nat → Nat) : Change s (s.updPot fun p => { p with conversionAt := f p.conversionAt })
  | period (f : Nat → Nat) :
      Change s (s.updPot fun p =>
        { p with
          periodStart := f p.periodStart
          applied := periodDuty s.line.mode p
          heaterOn := decide (periodDuty s.line.mode p ≠ 0) })
  | heaterOff : Change s (s.updPot fun p => { p with heaterOn := false })
  | overheat :
      Change s ((s.updPot fun p => { p with overheat := true, applied := 0, heaterOn := false }).raiseCause .overheat)
  | cooled : Change s ((s.updPot fun p => { p with overheat := false }).clearCause .overheat)
  -- the Phase unit
  | phase (f : PhaseUnit → PhaseUnit) (counter : (f s.phase).counter = s.phase.counter ∨ (f s.phase).counter ≤ 4095)
      (since : (f s.phase).sinceIndex = s.phase.sinceIndex ∨ (f s.phase).sinceIndex ≤ 65)
      (comp : (f s.phase).comp = s.phase.comp ∨ (f s.phase).comp ≤ 1024) (jam : (f s.phase).jam = s.phase.jam) :
      Change s (s.updPhase f)
  | jam : Change s ((s.updPhase fun p => { p with jam := true }).raiseCause .jam)
  | jamGone : Change s ((s.updPhase fun p => { p with jam := false }).clearCause .jam)
  -- the cooling queue and the trimmer
  | take : Change s s.testTake
  | append (b : Book) (good : b.good = true) (room : s.trim.queue.length < 12) : Change s (s.updTrim (Trimmer.append s.now b))
  | eligible (n : Nat) (e : QueueEntry) (place : s.trim.queue[n]? = some e) :
      Change s (s.updTrim fun t => { t with queue := t.queue.set n { e with eligible := true } })
  | knives : Change s (s.updTrim fun t => { t with knives := t.knives.report })
  | outfeed (o : Outfeed) : Change s (s.updTrim fun t => { t with outfeed := some o })
  | cut (n : Nat) (positioned : s.trim.phase = .positioning) : Change s (s.updTrim (Trimmer.cutting s.now n))
  | idle (sound : s.trim.phase ≠ .fault) : Change s (s.updTrim Trimmer.toIdle)
  | emptied (faulty : s.trim.phase = .fault) : Change s (s.updTrim fun t => { t with books := [] }.emptied)
  | fault (r : TrimReason) (acting : s.trim.phase = .positioning ∨ s.trim.phase = .cutting) (reason : r ≠ .noFault) :
      Change s (s.trimFault r)
  | faultToCut (n : Nat) (faulty : s.trim.phase = .fault) (books : s.trim.books ≠ []) :
      Change s ((s.clearCause .trimmer).updTrim (Trimmer.cutting s.now n))
  | faultToIdle (faulty : s.trim.phase = .fault) : Change s ((s.clearCause .trimmer).updTrim Trimmer.toIdle)
  -- Line control
  | mode (m : LineMode) (before : s.line.mode ≠ .halted) (after : m ≠ .halted)
      (calm : m.halts = true → s.line.mode.halts = true ∨ s.line.causes.any = false) : Change s (s.changeMode m)
  | warming (r : Bool) (before : s.line.mode ≠ .halted) (calm : s.line.causes.any = false) : Change s (s.beginWarming r)
  | resume (halted : s.line.mode = .halted) (free : s.line.causes.blocking = false) :
      Change s ((((s.clearCause .coverSequence).clearCause .hostHalt).updLine fun l =>
        { l with haltStart := none }).changeMode .running)
  | halt (c : Cause) (own : c = .coverSequence ∨ c = .hostHalt) : Change s (s.raiseCause c)
  | runWhenReady (warming : s.line.mode = .warming) : Change s (s.updLine fun l => { l with runWhenReady := true })
  | stable (t : Option Nat) (warming : s.line.mode = .warming) : Change s (s.updLine fun l => { l with stableAt := t })
  | idleCount (n : Nat) (range : n ≤ 65535) : Change s (s.updLine fun l => { l with idle := n })
  | inch (halted : s.line.mode = .halted) : Change s (s.updLine fun l => { l with drive := .inching })
  | stopInch : Change s (s.updLine LineControl.stopInch)

/-- A sequence of elementary changes. -/
abbrev Reaches : State → State → Prop := Relation.ReflTransGen Change

theorem Change.reaches {s t : State} (h : Change s t) : Reaches s t := .single h

end Sys2Proof.Machine
end

section
/-!
The operations of the memory words, the books, the Schedule unit and the Job cache as sequences of elementary changes.
-/

namespace Sys2Proof.Machine

theorem Reaches.ite {c : Prop} [Decidable c] {s t u : State} (ht : Reaches s t) (hu : Reaches s u) : Reaches s (if c then t else u) := by
  split
  · exact ht
  · exact hu

/-- Operations in a row. -/
theorem Reaches.foldl {α : Type} {f : State → α → State} (step : ∀ u x, Reaches u (f u x)) (l : List α) (s : State) :
    Reaches s (l.foldl f s) := by
  induction l generalizing s with
  | nil => exact .refl
  | cons x l ih => exact (step s x).trans (ih (f s x))

/-! ### Words (R170) -/

theorem State.putWords_eq (l : List (Nat × Word)) (s : State) : s.putWords l = s.updMem fun m => m.writeWords l := by
  induction l generalizing s with
  | nil => rfl
  | cons p l ih =>
    change (s.putWord p.1 p.2).putWords l = _
    rw [ih]
    rfl

/-- What names the part's words stays. -/
theorem State.PartWord.congr {s t : State} {a : Nat} (h : s.PartWord a) (sched : t.sched = s.sched) : t.PartWord a := by
  unfold State.PartWord State.held at h ⊢
  rwa [sched]

theorem State.partWord_header {a : Nat} (s : State) (h : a + 4 ≤ 0x0200) : s.PartWord a := .inl h

theorem State.putHeader_reaches {a : Nat} {w : Word} (s : State) (h : a + 4 ≤ 0x0200) : Reaches s (s.putWord a w) :=
  (Change.word a w (.inl h)).reaches

theorem State.putWords_reaches {l : List (Nat × Word)} {s : State} (own : ∀ p ∈ l, s.PartWord p.1) : Reaches s (s.putWords l) := by
  induction l generalizing s with
  | nil => exact .refl
  | cons p l ih =>
    refine (Change.word p.1 p.2 (own p List.mem_cons_self)).reaches.trans (ih fun q hq => ?_)
    exact (own q (List.mem_cons_of_mem _ hq)).congr (by simp)

theorem State.notify_reaches (c : Attention) (s : State) : Reaches s (s.notify c) := by
  have header : Header.count c.number + 4 ≤ 0x0200 := by
    have := c.number.isLt
    unfold Header.count
    omega
  unfold State.notify State.judgeAttention
  exact ((Change.port _).reaches.trans (State.putHeader_reaches _ header)).trans (Change.port _).reaches

theorem State.snapshot_reaches (s : State) : Reaches s s.snapshot := by
  unfold State.snapshot
  refine (((State.putHeader_reaches _ (by decide)).trans (State.putWords_reaches fun p hp => .inl ?_)).trans
    (State.putHeader_reaches _ (by decide))).trans (Change.port _).reaches
  simp only [State.snapshotWords, List.mem_cons, List.not_mem_nil, or_false] at hp
  rcases hp with rfl | rfl | rfl | rfl | rfl | rfl | rfl | rfl | rfl | rfl <;> exact of_decide_eq_true rfl

theorem State.logEntry_reaches (b : Book) (e : LogEntry) (s : State) : Reaches s (s.logEntry b e) := by
  have slot : ∀ n : Word, 0x8800 ≤ logSlot n ∧ logSlot n + 32 ≤ 0x9800 := by
    intro n
    unfold logSlot
    omega
  obtain ⟨low, high⟩ := slot s.port.counts[(2 : Fin 8)]
  unfold State.logEntry
  refine (((Change.word _ _ (.inr (.inl ⟨low, by omega⟩))).reaches.trans (State.putWords_reaches fun p hp => .inr (.inl ?_))).trans
    (Change.word _ _ (.inr (.inl ⟨low, by omega⟩))).reaches).trans (State.notify_reaches _ _)
  simp only [logWords, List.mapIdx_cons, List.mapIdx_nil, List.mem_cons, List.not_mem_nil, or_false] at hp
  rcases hp with rfl | rfl | rfl | rfl | rfl | rfl | rfl <;> constructor <;> dsimp only [Attention.number] <;> omega

/-! ### Cells, clamps and pockets -/

/-- Work, and nothing else: the contents of cells and clamps change, no station's work begins. -/
theorem WorkEngaged.of_rest {s t : State}
    (pocket : ∀ k : Fin 16, t.gathering.pockets[k].feed.isSome = true → s.gathering.pockets[k].feed.isSome = true)
    (gate : t.carousel.gate1 = s.carousel.gate1 ∨ t.carousel.gate1 = .toReject) (format : t.format = s.format)
    (miller : t.miller = s.miller) (glue : t.glue = s.glue) (cover : t.cover = s.cover) : WorkEngaged s t :=
  ⟨fun k h => .inl (pocket k h), fun h => .inl (format ▸ h), fun h => .inl (miller ▸ h), fun h => .inl (glue ▸ h),
    fun h => .inl (glue ▸ h), fun h => .inl (cover ▸ h), fun h => .inl (cover ▸ h), gate⟩

theorem State.updGathering_reaches {f : Gathering → Gathering} (s : State)
    (feeds : ∀ k : Fin 16, (f s.gathering).pockets[k].feed.isSome = true → s.gathering.pockets[k].feed.isSome = true ∨
      Window.pocket ∈ s.stations.engaged) : Reaches s (s.updGathering f) := by
  refine (Change.work (s := s) (s.updGathering f) (fun p hp => ?_) rfl ⟨feeds, .inl, .inl, .inl, .inl, .inl, .inl, .inl rfl⟩).reaches
  cases p <;> first | rfl | simp at hp

theorem State.updCarousel_reaches {f : Carousel → Carousel} (s : State)
    (gate : (f s.carousel).gate1 = s.carousel.gate1 ∨ (f s.carousel).gate1 = .toReject) : Reaches s (s.updCarousel f) := by
  refine (Change.work (s := s) (s.updCarousel f) (fun p hp => ?_) rfl ⟨fun _ => .inl, .inl, .inl, .inl, .inl, .inl, .inl, gate⟩).reaches
  cases p <;> first | rfl | simp at hp

theorem State.updFormat_reaches {f : FormatUnit → FormatUnit} (s : State)
    (gauge : (f s.format).gauge.isSome = true → s.format.gauge.isSome = true ∨ Window.gauge ∈ s.stations.engaged) :
    Reaches s (s.updFormat f) := by
  refine (Change.work (s := s) (s.updFormat f) (fun p hp => ?_) rfl ⟨fun _ => .inl, gauge, .inl, .inl, .inl, .inl, .inl, .inl rfl⟩).reaches
  cases p <;> first | rfl | simp at hp

theorem State.updMiller_reaches {f : Miller → Miller} (s : State)
    (mill : (f s.miller).integrating = true → s.miller.integrating = true ∨ Window.mill ∈ s.stations.engaged) :
    Reaches s (s.updMiller f) := by
  refine (Change.work (s := s) (s.updMiller f) (fun p hp => ?_) rfl ⟨fun _ => .inl, .inl, mill, .inl, .inl, .inl, .inl, .inl rfl⟩).reaches
  cases p <;> first | rfl | simp at hp

theorem State.updGlue_reaches {f : GlueStations → GlueStations} (s : State)
    (spine : (f s.glue).spine.isOpen = true → s.glue.spine.isOpen = true ∨ Window.spineGlue ∈ s.stations.engaged)
    (side : (f s.glue).side.isOpen = true → s.glue.side.isOpen = true ∨ Window.sideGlue ∈ s.stations.engaged) :
    Reaches s (s.updGlue f) := by
  refine (Change.work (s := s) (s.updGlue f) (fun p hp => ?_) rfl ⟨fun _ => .inl, .inl, .inl, spine, side, .inl, .inl, .inl rfl⟩).reaches
  cases p <;> first | rfl | simp at hp

theorem State.updCover_reaches {f : CoverStation → CoverStation} (s : State)
    (fed : (f s.cover).fed.isSome = true → s.cover.fed.isSome = true ∨ Window.cover ∈ s.stations.engaged)
    (nip : (f s.cover).nipClosed = true → s.cover.nipClosed = true ∨ Window.nip ∈ s.stations.engaged) :
    Reaches s (s.updCover f) := by
  refine (Change.work (s := s) (s.updCover f) (fun p hp => ?_) rfl ⟨fun _ => .inl, .inl, .inl, .inl, .inl, fed, nip, .inl rfl⟩).reaches
  cases p <;> first | rfl | simp at hp

theorem State.setCell_reaches (p : Fin 18) (x : Slot) (s : State) : Reaches s (s.setCell p x) :=
  State.updGathering_reaches s fun _ => .inl

theorem State.modCell_reaches (p : Fin 18) (f : Book → Book) (s : State) : Reaches s (s.modCell p f) := s.setCell_reaches _ _

theorem State.setClamp_reaches (p : Fin 24) (x : Slot) (s : State) : Reaches s (s.setClamp p x) :=
  State.updCarousel_reaches s (.inl rfl)

theorem State.modClamp_reaches (p : Fin 24) (f : Book → Book) (s : State) : Reaches s (s.modClamp p f) := s.setClamp_reaches _ _

theorem State.mapSlots_reaches (f : DetectionPoint → Book → Book) (s : State) : Reaches s (s.mapSlots f) :=
  (State.updGathering_reaches s fun _ => .inl).trans (State.updCarousel_reaches _ (.inl rfl))

/-! ### Cache entries (R44, R51) -/

/-- The occupancy follows a change of the cache into the header. -/
theorem State.changeCache_reaches {f : JobCache → JobCache} {s : State} (h : Change s (s.updCache f)) :
    Reaches s (s.changeCache f) := by
  unfold State.changeCache
  exact .ite h.reaches (h.reaches.trans (State.putHeader_reaches _ (by decide)))

theorem State.dropLock_reaches (e : Fin 16) (s : State) : Reaches s (s.dropLock e) :=
  State.changeCache_reaches (f := fun c => { c with entries := c.entries.set e s.cache.entries[e].unlocked }) (.unlock e)

theorem State.freeLock_reaches (b : Book) (s : State) : Reaches s (s.freeLock b) := by
  unfold State.freeLock
  split
  · exact s.dropLock_reaches _
  · exact .refl

theorem State.releaseClamp_reaches (p : Fin 24) (s : State) : Reaches s (s.releaseClamp p) := by
  unfold State.releaseClamp
  split
  · exact (s.modClamp_reaches _ _).trans (State.freeLock_reaches _ _)
  · exact .refl

/-- An entry changed with the engine gone IDLE. -/
theorem State.setEntry_setFetch_reaches {e : Fin 16} {x : CacheEntry} {s : State}
    (h : Change s (s.updCache fun c => { c with entries := c.entries.set e x, fetch := none })) :
    Reaches s ((s.setEntry e x).setFetch none) := by
  unfold State.setEntry State.changeCache
  dsimp only
  split
  · exact h.reaches
  · exact h.reaches.trans (State.putHeader_reaches (a := Header.occupancy) _ (by decide))

/-! ### Held tickets, the cursor and the remake list (R19, R20, R33, R38) -/

theorem Schedule.find_index {c : Schedule} {i : Nat} {t : HeldTicket} (h : c.find i = some t) : t.index = i :=
  of_decide_eq_true (List.find?_some (p := fun t : HeldTicket => decide (t.index = i)) h)

theorem State.held_index {s : State} {i : Nat} {t : HeldTicket} (h : s.held i = some t) : t.index = i :=
  Schedule.find_index h

theorem Schedule.find_put (u : HeldTicket) (c : Schedule) (i : Nat) :
    (c.put u).find i = (c.find i).map fun t => if t.index = u.index then u else t := by
  unfold Schedule.find Schedule.put
  dsimp only
  induction c.held with
  | nil => rfl
  | cons x l ih =>
    rw [List.map_cons, List.find?_cons, List.find?_cons]
    by_cases same : x.index = u.index
    · rw [if_pos same]
      by_cases hit : x.index = i
      · have : u.index = i := same ▸ hit
        simp [hit, this]
      · have : u.index ≠ i := same ▸ hit
        simp only [hit, this, decide_false]
        exact ih
    · rw [if_neg same]
      by_cases hit : x.index = i
      · have : ¬ i = u.index := fun k => same (hit.trans k)
        simp [hit, this]
      · simp only [hit, decide_false]
        exact ih

theorem Schedule.find_put_isSome {u : HeldTicket} {c : Schedule} {i : Nat} :
    ((c.put u).find i).isSome = (c.find i).isSome := by
  rw [Schedule.find_put, Option.isSome_map]

theorem State.changeTicket_reaches {t u : HeldTicket} {s : State} (held : (s.held u.index).isSome = true) :
    Reaches s (s.changeTicket t u) := by
  refine (Change.putTicket u held).reaches.trans (State.putWords_reaches fun p hp => .inr (.inr ?_))
  obtain ⟨x, -, written⟩ := List.mem_filterMap.mp hp
  split at written
  · cases written
  · cases written
    exact ⟨_, _, rfl, .inr (Schedule.find_put_isSome.trans held)⟩

theorem State.setCursor_reaches {i : Nat} (s : State) (h : i < 256) : Reaches s (s.setCursor i) :=
  (Change.cursor i h).reaches.trans (State.putHeader_reaches _ (by decide))

theorem State.advanceCursor_reaches (s : State) : Reaches s s.advanceCursor := s.setCursor_reaches (by omega)

theorem State.setRemakes_reaches {l : List Nat} {s : State} (h : l.length ≤ s.sched.remakes.length ∨ l.length ≤ 32) :
    Reaches s (s.setRemakes l) :=
  .ite (Change.remakes l h).reaches ((Change.remakes l h).reaches.trans (State.putHeader_reaches _ (by decide)))

theorem State.writeEnd_reaches {i : Nat} {l : List (TicketField × Word)} {r : EndReason} {g : Stage} {s : State}
    (named : i = s.sched.cursor ∨ (s.held i).isSome = true) : Reaches s (s.writeEnd i l r g) := by
  have own : ∀ f, s.PartWord (ticketAddr i f) := fun f => .inr (.inr ⟨i, f, rfl, named⟩)
  refine ((State.putWords_reaches fun p hp => ?_).trans (State.putWords_reaches fun p hp => ?_)).trans (State.notify_reaches _ _)
  · obtain ⟨x, -, rfl⟩ := List.mem_map.mp hp
    exact own x.1
  · refine State.PartWord.congr (s := s) ?_ (by simp)
    simp only [List.mem_cons, List.not_mem_nil, or_false] at hp
    rcases hp with rfl | rfl | rfl <;> exact own _

theorem State.refuse_reaches {i : Nat} {r : EndReason} {d : Nat} {s : State} (cursor : i = s.sched.cursor) :
    Reaches s (s.refuse i r d).1 :=
  (State.writeEnd_reaches (.inl cursor)).trans (State.advanceCursor_reaches _)

/-- The words of an end do not depend on what is held. -/
theorem State.writeEnd_updSched (i : Nat) (l : List (TicketField × Word)) (r : EndReason) (g : Stage)
    (f : Schedule → Schedule) (s : State) : (s.updSched f).writeEnd i l r g = (s.writeEnd i l r g).updSched f := by
  have words : ∀ (g : Memory → Memory) (u : State), (u.updSched f).updMem g = (u.updMem g).updSched f := fun _ _ => rfl
  have notice : ∀ (c : Attention) (u : State), (u.updSched f).notify c = (u.notify c).updSched f := fun _ _ => rfl
  simp only [State.writeEnd, State.putWords_eq, words, notice, State.updSched_port]

theorem State.endHeld_reaches {t : HeldTicket} {r : EndReason} {g : Stage} {s : State}
    (held : (s.held t.index).isSome = true) : Reaches s (s.endHeld t r g) := by
  have ended := (State.writeEnd_reaches (l := t.fields.filter fun p => decide (p.1 ≠ .stage)) (r := r) (g := g) (.inr held)).trans
    (Change.removeTicket t.index).reaches
  unfold State.endHeld
  dsimp only
  rw [State.writeEnd_updSched]
  exact .ite (ended.trans (State.advanceCursor_reaches _)) ended

theorem State.endCheck_reaches (i : Nat) (s : State) : Reaches s (s.endCheck i) := by
  unfold State.endCheck
  split
  · exact .refl
  · next t held =>
    have named : (s.held t.index).isSome = true := by rw [State.held_index held, held]; rfl
    exact .ite (State.endHeld_reaches named) (.ite (State.endHeld_reaches named) .refl)

theorem HeldTicket.consulted_index (c : Bool) (t : HeldTicket) : (t.consulted c).index = t.index := by
  unfold HeldTicket.consulted
  split <;> rfl

theorem State.consult_reaches (i : Nat) (s : State) : Reaches s (s.consult i) := by
  unfold State.consult
  split
  · exact .refl
  · next t held =>
    refine (Change.putTicket _ ?_).reaches
    rw [HeldTicket.consulted_index, State.held_index held, held]
    rfl

/-! ### Postings (R35, R37, R152) -/

theorem remakeQueued_room {code : SpoilCode} {t : HeldTicket} {n : Nat} (h : remakeQueued code t n = true) : n < 32 := by
  simp only [remakeQueued, Bool.and_eq_true, decide_eq_true_eq] at h
  exact h.2

theorem State.held_of_sched {s u : State} (h : u.sched.held = s.sched.held) (i : Nat) : u.held i = s.held i := by
  unfold State.held Schedule.find
  rw [h]

theorem State.postSpoiled_reaches (b : Book) (m : SpoilMark) (p : PostPoint) (s : State) : Reaches s (s.postSpoiled b m p) := by
  unfold State.postSpoiled
  dsimp only
  generalize consulted : s.consult b.ticket = u
  have start : Reaches s u := consulted ▸ s.consult_reaches b.ticket
  split
  · exact start.trans (State.logEntry_reaches _ _ _)
  · next t held =>
    generalize queued : remakeQueued _ _ _ = q
    have listed : Reaches u (if q then u.setRemakes (u.sched.remakes ++ [t.index]) else u) := by
      split
      · next yes =>
        refine State.setRemakes_reaches (.inr ?_)
        have := remakeQueued_room (queued.trans yes)
        simp
        omega
      · exact .refl
    have kept : (if q then u.setRemakes (u.sched.remakes ++ [t.index]) else u).sched.held = u.sched.held := by
      split
      · rw [(State.setRemakes_effect _ _).1]
      · rfl
    generalize (if q then u.setRemakes (u.sched.remakes ++ [t.index]) else u) = v at listed kept ⊢
    refine (((start.trans listed).trans (State.logEntry_reaches _ _ _)).trans (State.changeTicket_reaches ?_)).trans
      (State.endCheck_reaches _ _)
    have index : ∀ x : HeldTicket, (if q then x else { x with short := x.short + 1 }).index = x.index := by
      intro x
      split <;> rfl
    rw [index, State.held_of_sched (s := u) (by simp [kept]), State.held_index held, held]
    rfl

theorem State.postBook_reaches (b : Book) (p : PostPoint) (s : State) : Reaches s (s.postBook b p) := by
  unfold State.postBook
  split
  · exact s.postSpoiled_reaches _ _ _
  · exact .refl

theorem State.postMade_reaches (b : Book) (s : State) : Reaches s (s.postMade b) := by
  have logged : ∀ u : State, Reaches u ((warningEntries b).foldl (fun s e => s.logEntry b e) u) :=
    fun u => Reaches.foldl (fun v e => v.logEntry_reaches b e) _ u
  unfold State.postMade
  dsimp only
  split
  · exact (s.consult_reaches _).trans (logged _)
  · next t held =>
    refine (((s.consult_reaches _).trans (logged _)).trans (State.changeTicket_reaches ?_)).trans (State.endCheck_reaches _ _)
    rw [State.held_of_sched (s := s.consult b.ticket) (by simp)]
    change (State.held _ t.index).isSome = true
    rw [State.held_index held, held]
    rfl

/-! ### The launch demand (R23 to R31, R45) -/

/-- The entry a launch may lock: one that a lookup found, or the target of the fetch. -/
abbrev JobCache.Lockable (c : JobCache) (e : Fin 16) : Prop :=
  c.entries[e].state = .filled ∨ c.fetch.map (·.target) = some e

theorem JobCache.lookup_some {c : JobCache} {j : Nat} {e : Fin 16} (h : c.lookup j = some e) :
    c.entries[e].state = .filled ∧ c.entries[e].stale = false ∧ c.entries[e].job = some j := by
  have := List.find?_some h
  simpa [and_assoc] using this

theorem State.startFetch_reaches {j : Nat} {s : State} (idle : s.cache.fetch = none) (absent : s.cache.lookup j = none) :
    Reaches s (s.startFetch j) := by
  unfold State.startFetch
  split
  · exact .refl
  · next e c target => exact State.changeCache_reaches (.fetch j e c idle absent target)

theorem HeldTicket.afterLaunch_index (t : HeldTicket) (k : BookKind) (w : Word) : (t.afterLaunch k w).index = t.index := by
  rw [HeldTicket.afterLaunch, apply_ite HeldTicket.index]
  exact ite_self _

theorem State.launch_reaches {t : HeldTicket} {k : BookKind} {f : FormatState} {e : Fin 16} {s : State}
    (held : (s.held t.index).isSome = true) (lockable : s.cache.Lockable e) : Reaches s (s.launch t k f e) := by
  unfold State.launch
  dsimp only
  generalize stored : (State.putWord _ _ (State.updSched _ (s.setCell 0 _))) = u
  have path : Reaches s u := by
    rw [← stored]
    exact ((s.setCell_reaches _ _).trans Change.serial.reaches).trans (State.putHeader_reaches _ (by decide))
  have cache : u.cache = s.cache := by rw [← stored]; simp
  have tickets : u.sched.held = s.sched.held := by rw [← stored]; simp
  have listed : Reaches u (if k = .remake then u.setRemakes u.sched.remakes.tail else u) :=
    .ite (State.setRemakes_reaches (.inl (by simp))) .refl
  have listedCache : (if k = .remake then u.setRemakes u.sched.remakes.tail else u).cache = s.cache := by
    split <;> simp [cache]
  have listedTickets : (if k = .remake then u.setRemakes u.sched.remakes.tail else u).sched.held = s.sched.held := by
    split
    · rw [(State.setRemakes_effect _ _).1, tickets]
    · exact tickets
  generalize (if k = .remake then u.setRemakes u.sched.remakes.tail else u) = v at listed listedCache listedTickets ⊢
  have locked : Reaches v (v.setEntry e { v.cache.entries[e] with locks := v.cache.entries[e].locks + 1, used := true }) := by
    refine State.changeCache_reaches (Change.lock e ?_)
    rwa [listedCache]
  have changed := ((path.trans listed).trans locked).trans (State.changeTicket_reaches (t := t)
    (u := t.afterLaunch k s.sched.nextSerial) ?_)
  · exact .ite (changed.trans (State.advanceCursor_reaches _)) changed
  · rw [HeldTicket.afterLaunch_index, State.held_of_sched (s := s) (by simp [listedTickets])]
    exact held

theorem State.holdOrLaunch_reaches {i : Nat} {k : BookKind} {f : FormatState} {e : Fin 16} {s : State}
    (lockable : s.cache.Lockable e) : Reaches s (s.holdOrLaunch i k f e).1 := by
  unfold State.holdOrLaunch
  dsimp only
  split
  · next t _ held =>
    refine State.launch_reaches ?_ lockable
    rw [State.held_index held, held]
    rfl
  · exact .refl
  · exact .refl

theorem State.provisional_reaches (t : HeldTicket) (k : BookKind) (s : State) : Reaches s (s.provisional t k).1 := by
  unfold State.provisional
  split
  · exact .refl
  · split
    · next f running => exact State.holdOrLaunch_reaches (.inr (by rw [running]; rfl))
    · exact .refl

theorem State.heldLookup_reaches (t : HeldTicket) (k : BookKind) (s : State) : Reaches s (s.heldLookup t k).1 := by
  unfold State.heldLookup
  split
  · next e found => exact State.holdOrLaunch_reaches (.inl (JobCache.lookup_some found).1)
  · next absent =>
    split
    · split
      · exact s.provisional_reaches _ _
      · split <;> exact .refl
    · next idle =>
      split
      · exact .refl
      · exact (State.startFetch_reaches idle absent).trans (State.provisional_reaches _ _ _)

theorem State.preflight_reaches {i : Nat} {e : Fin 16} {r : JobRecord} {s : State} (cursor : i = s.sched.cursor)
    (free : s.held i = none) (lockable : s.cache.Lockable e) : Reaches s (s.preflight i e r).1 := by
  unfold State.preflight
  dsimp only
  split
  · exact State.refuse_reaches cursor
  · split
    · exact State.refuse_reaches cursor
    · exact ((Change.addTicket (activated s i r.mode) free cursor).reaches.tail
        (.word _ _ (.inr (.inr ⟨i, .stage, rfl, .inl cursor⟩)))).trans (State.holdOrLaunch_reaches lockable)

theorem State.postedLookup_reaches {i : Nat} {s : State} (cursor : i = s.sched.cursor) (free : s.held i = none) :
    Reaches s (s.postedLookup i).1 := by
  unfold State.postedLookup
  dsimp only
  split
  · exact State.refuse_reaches cursor
  · split
    · next e found =>
      split
      · exact State.preflight_reaches cursor free (.inl (JobCache.lookup_some found).1)
      · exact .refl
    · next absent =>
      split
      · exact .refl
      · split
        · next idle => exact State.startFetch_reaches idle absent
        · exact .refl

theorem State.remakeCandidate_reaches (i : Nat) (s : State) : Reaches s (s.remakeCandidate i).1 := by
  unfold State.remakeCandidate
  dsimp only
  split
  · exact s.consult_reaches i
  · next t held =>
    split
    · refine (((s.consult_reaches i).trans (State.setRemakes_reaches (.inl (by simp)))).trans (State.changeTicket_reaches ?_)).trans
        (State.endCheck_reaches _ _)
      rw [State.held_of_sched (s := s.consult i) (by rw [(State.setRemakes_effect _ _).1])]
      change (State.held _ t.index).isSome = true
      rw [State.held_index held, held]
      rfl
    · exact (s.consult_reaches i).trans (State.heldLookup_reaches _ _ _)

theorem State.drain_reaches {t : HeldTicket} {s : State} (held : (s.held t.index).isSome = true) : Reaches s (s.drain t) := by
  unfold State.drain
  dsimp only
  refine (((State.setRemakes_reaches (.inl (List.length_filter_le _ _))).trans (State.changeTicket_reaches ?_)).trans
    (State.advanceCursor_reaches _)).trans (State.endCheck_reaches _ _)
  rw [State.held_of_sched (s := s) (by rw [(State.setRemakes_effect _ _).1])]
  exact held

theorem State.cursorCandidate_reaches (s : State) : Reaches s s.cursorCandidate.1 := by
  have consulted := s.consult_reaches s.sched.cursor
  unfold State.cursorCandidate
  dsimp only
  split
  · next t held =>
    have named : ((s.consult s.sched.cursor).held t.index).isSome = true := by rw [State.held_index held, held]; rfl
    split
    · split
      · exact consulted.trans (State.drain_reaches named)
      · exact consulted.trans (State.heldLookup_reaches _ _ _)
    · split
      · exact consulted
      · exact consulted.trans (State.endCheck_reaches _ _)
  · next free =>
    have none : s.held s.sched.cursor = none := by
      unfold State.consult at free
      split at free
      · assumption
      · next t held =>
        have : ((s.updSched (Schedule.put (t.consulted (s.mem.cancelled s.sched.cursor)))).held s.sched.cursor).isSome =
            (s.held s.sched.cursor).isSome := Schedule.find_put_isSome
        rw [free, held] at this
        cases this
    split
    · split
      · exact State.refuse_reaches rfl
      · exact State.postedLookup_reaches rfl none
    · exact .refl

theorem State.decision_reaches (s : State) : Reaches s s.decision.1 := by
  unfold State.decision
  split
  · exact .refl
  · split
    · exact s.remakeCandidate_reaches _
    · exact s.cursorCandidate_reaches

theorem State.setHold_reaches (h : HoldReason) (s : State) : Reaches s (s.setHold h) :=
  (Change.hold h).reaches.trans (State.putHeader_reaches _ (by decide))

theorem State.prefetch_reaches (s : State) : Reaches s s.prefetch := by
  unfold State.prefetch
  split
  · exact .refl
  · split
    · next j _ free =>
      simp only [Bool.and_eq_true, Option.isNone_iff_eq_none] at free
      obtain ⟨⟨⟨idle, -⟩, absent⟩, -⟩ := free
      exact State.startFetch_reaches idle absent
    · exact .refl

theorem State.launchDemand_reaches (s : State) : Reaches s s.launchDemand := by
  unfold State.launchDemand
  split
  · have counted : ∀ (h : HoldReason) (u : State), Reaches u (u.updLine (countIdle h)) := by
      intro h u
      refine (Change.idleCount (if h = .launched then 0 else min 65535 (u.line.idle + 1)) ?_).reaches
      split <;> omega
    exact ((s.decision_reaches.trans (State.setHold_reaches _ _)).trans (counted _ _)).trans (State.prefetch_reaches _)
  · exact s.setHold_reaches _

/-! ### The fetch (R32, R46 to R50) -/

theorem State.stopForJob_reaches (j i : Nat) (s : State) : Reaches s (s.stopForJob j i) := by
  unfold State.stopForJob
  split
  · next t held =>
    refine .ite ((Change.putTicket _ ?_).reaches.trans (State.endCheck_reaches _ _)) .refl
    change (s.held t.index).isSome = true
    rw [State.held_index held, held]
    rfl
  · exact .refl

theorem State.verdict_reaches (j code : Nat) (s : State) : Reaches s (s.verdict j code) := by
  unfold State.verdict
  dsimp only
  refine (Reaches.ite ?_ .refl).trans (Reaches.foldl (fun u i => u.stopForJob_reaches j i) _ _)
  exact State.refuse_reaches rfl

theorem State.failPending_reaches (e : Fin 16) (s : State) : Reaches s (s.failPending e) := s.mapSlots_reaches _

theorem State.formatPending_reaches (e : Fin 16) (r : JobRecord) (s : State) : Reaches s (s.formatPending e r) := s.mapSlots_reaches _

/-- A change of the cache and of the books in the cells and clamps, in either order. -/
theorem State.mapSlots_changeCache (f : JobCache → JobCache) (g : DetectionPoint → Book → Book) (s : State) :
    (s.changeCache f).mapSlots g = (s.mapSlots g).changeCache f := by
  have entries : ∀ u : State, (u.updCache f).mapSlots g = (u.mapSlots g).updCache f := fun u => by
    simp only [State.mapSlots, State.updGathering, State.updCarousel, State.updCache]
  have words : ∀ (a n : Nat) (u : State), (u.putNat a n).mapSlots g = (u.mapSlots g).putNat a n := fun a n u => by
    simp only [State.mapSlots, State.updGathering, State.updCarousel, State.putNat, State.putWord, State.updMem]
  have cache : ((s.mapSlots g).updCache f).cache = (s.updCache f).cache := by simp
  have before : (s.mapSlots g).cache = s.cache := by simp
  simp only [State.changeCache]
  rw [cache, before, apply_ite (State.mapSlots g), entries, words, entries]

theorem State.setEntry_stockPlace (e : Fin 16) (x : CacheEntry) (s : State) :
    (s.setEntry e x).cache.stockPlace = s.cache.stockPlace := by
  have stock : (s.setEntry e x).cache.stock = s.cache.stock := by
    unfold State.setEntry State.changeCache
    dsimp only
    split <;> simp
  funext c
  rw [JobCache.stockPlace, stock]
  rfl

/-- The formats of the waiting books do not depend on what the entry holds. -/
theorem State.formatPending_setEntry (e : Fin 16) (r : JobRecord) (x : CacheEntry) (s : State) :
    (s.setEntry e x).formatPending e r = (s.formatPending e r).setEntry e x := by
  have personal : (s.setEntry e x).personalOf = s.personalOf := by
    funext i
    simp only [State.personalOf, State.held, State.setEntry_frame]
  unfold State.formatPending
  rw [State.setEntry_stockPlace, personal]
  exact State.mapSlots_changeCache _ _ s

theorem State.completeValid_reaches {f : Fetch} {r : JobRecord} {s : State} (running : s.cache.fetch = some f)
    (bounds : r.bounded) : Reaches s (s.completeValid f r) := by
  have cache : (s.formatPending f.target r).cache = s.cache := by simp
  unfold State.completeValid
  rw [State.formatPending_setEntry, ← cache]
  exact (s.formatPending_reaches _ _).trans (State.setEntry_setFetch_reaches (.fill f r (by rw [cache, running]) bounds))

theorem State.completeInvalid_reaches {f : Fetch} {code : Nat} {s : State} (running : s.cache.fetch = some f) :
    Reaches s (s.completeInvalid f code) :=
  ((s.failPending_reaches _).trans (State.setEntry_setFetch_reaches (.giveUp f (by simp [running])))).trans
    (State.verdict_reaches _ _ _)

theorem State.timeoutFetch_reaches {f : Fetch} {s : State} (running : s.cache.fetch = some f) : Reaches s (s.timeoutFetch f) :=
  (s.failPending_reaches _).trans (State.setEntry_setFetch_reaches (.giveUp f (by simp [running])))

/-- A record without a failing check is within the bounds of a copy (R28 checks 3 and 5). -/
theorem bounded_of_badJob {r : JobRecord} {stock : Nat → Option StockCopy} (valid : badJob r stock = none) : r.bounded := by
  have passes : ∀ c ∈ jobChecks r stock, c.2 = true := by
    intro c hc
    have := List.find?_eq_none.mp (Option.map_eq_none_iff.mp valid) c hc
    simpa using this
  have count := passes (3, _) (by simp [jobChecks]; rfl)
  have leaves := passes (5, _) (by simp [jobChecks]; rfl)
  simp only [within, Bool.and_eq_true, decide_eq_true_eq, List.all_eq_true] at count leaves
  exact ⟨count.2, fun g hg => (leaves g hg).2⟩

theorem stockCopies_bounded (codes : List Nat) (ws : List Word) : ∀ p ∈ stockCopies codes ws, p.2.bounded := by
  induction codes generalizing ws with
  | nil => simp [stockCopies]
  | cons c cs ih =>
    intro p hp
    rcases List.mem_cons.mp hp with rfl | hp
    · exact StockCopy.ofWords_bounds _ _ _
    · exact ih _ p hp

theorem State.setFetch_reaches {f g : Fetch} {s : State} (running : s.cache.fetch = some f) (job : g.job = f.job)
    (target : g.target = f.target) : Reaches s (s.setFetch (some g)) :=
  (Change.engine f g running job target).reaches

theorem State.endAttempt_reaches {f : Fetch} {a : AttemptReads} {s : State} (running : s.cache.fetch = some f)
    (bounds : ∀ p ∈ a.stock, p.2.bounded) : Reaches s (s.endAttempt f a) := by
  have copied : Reaches s (s.updCache (JobCache.takeStock a.stock)) := (Change.stock _ bounds).reaches
  have still : (s.updCache (JobCache.takeStock a.stock)).cache.fetch = some f := running
  unfold State.endAttempt State.completeFetch
  refine .ite (State.setFetch_reaches running rfl rfl) (.ite (State.setFetch_reaches running rfl rfl) ?_)
  dsimp only
  split
  · next valid => exact copied.trans (State.completeValid_reaches still (bounded_of_badJob valid))
  · exact copied.trans (State.completeInvalid_reaches still)

theorem State.attemptEnd_reaches (lags : List Nat) (s : State) : Reaches s (s.attemptEnd lags) := by
  unfold State.attemptEnd
  split
  · next f running => exact .ite (State.endAttempt_reaches running (stockCopies_bounded _ _)) .refl
  · exact .refl

theorem State.waitExpiry_reaches (s : State) : Reaches s s.waitExpiry := by
  unfold State.waitExpiry
  split
  · next f running => exact .ite (State.setFetch_reaches running rfl rfl) .refl
  · exact .refl

theorem State.fetchExpiry_reaches (s : State) : Reaches s s.fetchExpiry := by
  unfold State.fetchExpiry
  split
  · next f running => exact .ite (State.timeoutFetch_reaches running) .refl
  · exact .refl

theorem State.purge_reaches (s : State) : Reaches s s.purge := (Change.purge).reaches.trans (State.putHeader_reaches _ (by decide))

end Sys2Proof.Machine
end

section
/-!
The operations of Line control, the trimmer, the stations and the shaft as sequences of elementary changes.
-/

namespace Sys2Proof.Machine

/-! ### Line control and the two tests for an empty line (R10, R11, R160, R166) -/

theorem compFor_le (lead t : Nat) : compFor lead t ≤ 1024 := by
  unfold compFor
  split
  · split <;> omega
  · omega

theorem State.recomputeComp_reaches (s : State) : Reaches s s.recomputeComp :=
  (Change.phase _ (.inl rfl) (.inl rfl) (.inr (compFor_le _ _)) rfl).reaches

theorem State.driveStart_reaches (s : State) : Reaches s s.driveStart :=
  (Change.phase _ (.inl rfl) (.inl rfl) (.inl rfl) rfl).reaches.trans (State.recomputeComp_reaches _)

theorem State.emptyingCheck_reaches (s : State) : Reaches s s.emptyingCheck := by
  unfold State.emptyingCheck
  split
  · next due => exact (Change.mode .ready (by simp [due.1]) (by decide) fun _ => .inl (by rw [due.1]; rfl)).reaches
  · exact .refl

theorem State.levelOne_reaches (s : State) : Reaches s s.levelOne := by
  unfold State.levelOne
  split
  · next due => exact (Change.mode .ready (by simp [due.1]) (by decide) fun _ => .inl (by rw [due.1]; rfl)).reaches
  · exact .refl

/-! ### Postings do not read the trimmer (R35, R37, R152) -/

/-- A ticket with one more book spoiled under a code (R37). -/
def HeldTicket.countSpoiled (code : SpoilCode) (t : HeldTicket) : HeldTicket :=
  { t with spoiled := t.spoiled + 1, lastDefect := code.number }

/-- What a spoiled posting does to its held ticket, the remake queued or not (R37, R152). -/
def State.spoilHeld (b : Book) (m : SpoilMark) (p : PostPoint) (t : HeldTicket) (queued : Bool) (s : State) : State :=
  (((if queued then s.setRemakes (s.sched.remakes ++ [t.index]) else s).logEntry b
    (spoilEntry b m (if queued then .queued else .short) p)).changeTicket t
    (if queued then t.countSpoiled m.code else { t.countSpoiled m.code with short := t.short + 1 })).endCheck b.ticket

theorem State.postSpoiled_eq (b : Book) (m : SpoilMark) (p : PostPoint) (s : State) :
    s.postSpoiled b m p =
      match (s.consult b.ticket).held b.ticket with
      | none => (s.consult b.ticket).logEntry b (spoilEntry b m .short p)
      | some t =>
        (s.consult b.ticket).spoilHeld b m p t
          (remakeQueued m.code (t.countSpoiled m.code) (s.consult b.ticket).sched.remakes.length) := by
  unfold State.postSpoiled
  dsimp only
  cases (s.consult b.ticket).held b.ticket <;> rfl

section
variable (f : Trimmer → Trimmer)

theorem State.consult_updTrim (i : Nat) (s : State) : (s.updTrim f).consult i = (s.consult i).updTrim f := by
  unfold State.consult
  rw [show (s.updTrim f).held i = s.held i from rfl]
  split <;> rfl

theorem State.putWords_updTrim (l : List (Nat × Word)) (s : State) :
    (s.updTrim f).putWords l = (s.putWords l).updTrim f := by
  simp only [State.putWords_eq]
  rfl

theorem State.logEntry_updTrim (b : Book) (e : LogEntry) (s : State) :
    (s.updTrim f).logEntry b e = (s.logEntry b e).updTrim f := by
  have word : ∀ (a : Nat) (w : Word) (u : State), (u.updTrim f).putWord a w = (u.putWord a w).updTrim f :=
    fun _ _ _ => rfl
  have notice : ∀ (c : Attention) (u : State), (u.updTrim f).notify c = (u.notify c).updTrim f := fun _ _ => rfl
  simp only [State.logEntry, State.updTrim_port, word, State.putWords_updTrim, notice]

theorem State.changeTicket_updTrim (t u : HeldTicket) (s : State) :
    (s.updTrim f).changeTicket t u = (s.changeTicket t u).updTrim f :=
  State.putWords_updTrim f _ (s.updSched (Schedule.put u))

theorem State.endHeld_updTrim (t : HeldTicket) (r : EndReason) (g : Stage) (s : State) :
    (s.updTrim f).endHeld t r g = (s.endHeld t r g).updTrim f := by
  have notice : ∀ (c : Attention) (u : State), (u.updTrim f).notify c = (u.notify c).updTrim f := fun _ _ => rfl
  have sched : ∀ (h : Schedule → Schedule) (u : State), (u.updTrim f).updSched h = (u.updSched h).updTrim f :=
    fun _ _ => rfl
  have cursor : ∀ u : State, (u.updTrim f).advanceCursor = u.advanceCursor.updTrim f := fun _ => rfl
  simp only [State.endHeld, State.writeEnd, sched, State.putWords_updTrim, notice, cursor, State.updTrim_port]
  exact (apply_ite (State.updTrim f) _ _ _).symm

theorem State.endCheck_updTrim (i : Nat) (s : State) : (s.updTrim f).endCheck i = (s.endCheck i).updTrim f := by
  unfold State.endCheck
  rw [show (s.updTrim f).held i = s.held i from rfl]
  cases s.held i with
  | none => rfl
  | some t => simp only [State.endHeld_updTrim, apply_ite (State.updTrim f)]

theorem State.postMade_updTrim (b : Book) (s : State) : (s.updTrim f).postMade b = (s.postMade b).updTrim f := by
  have logs : ∀ (l : List LogEntry) (u : State),
      l.foldl (fun s e => s.logEntry b e) (u.updTrim f) = (l.foldl (fun s e => s.logEntry b e) u).updTrim f := by
    intro l
    induction l with
    | nil => exact fun _ => rfl
    | cons e l ih => exact fun u => by rw [List.foldl_cons, List.foldl_cons, State.logEntry_updTrim, ih]
  simp only [State.postMade, State.consult_updTrim, logs]
  rw [show ((s.consult b.ticket).updTrim f).held b.ticket = (s.consult b.ticket).held b.ticket from rfl]
  split
  · rfl
  · rw [State.changeTicket_updTrim, State.endCheck_updTrim]

theorem State.setRemakes_updTrim (l : List Nat) (s : State) : (s.updTrim f).setRemakes l = (s.setRemakes l).updTrim f := by
  simp only [State.setRemakes, State.updTrim_sched]
  rw [apply_ite (State.updTrim f)]
  rfl

theorem State.spoilHeld_updTrim (b : Book) (m : SpoilMark) (p : PostPoint) (t : HeldTicket) (q : Bool) (s : State) :
    (s.updTrim f).spoilHeld b m p t q = (s.spoilHeld b m p t q).updTrim f := by
  have listed : (if q then (s.updTrim f).setRemakes ((s.updTrim f).sched.remakes ++ [t.index]) else s.updTrim f) =
      (if q then s.setRemakes (s.sched.remakes ++ [t.index]) else s).updTrim f := by
    rw [apply_ite (State.updTrim f), State.setRemakes_updTrim, State.updTrim_sched]
  unfold State.spoilHeld
  rw [listed, State.logEntry_updTrim, State.changeTicket_updTrim, State.endCheck_updTrim]

theorem State.postBook_updTrim (b : Book) (p : PostPoint) (s : State) :
    (s.updTrim f).postBook b p = (s.postBook b p).updTrim f := by
  unfold State.postBook
  split
  · rw [State.postSpoiled_eq, State.postSpoiled_eq, State.consult_updTrim,
      show ((s.consult b.ticket).updTrim f).held b.ticket = (s.consult b.ticket).held b.ticket from rfl]
    split
    · exact State.logEntry_updTrim f _ _ _
    · exact State.spoilHeld_updTrim f _ _ _ _ _ _
  · rfl

/-- The books of a cut leave the tracking one by one, each posted made; a trimmer that drops its books afterwards may drop
them before (R138). -/
theorem State.postCut_updTrim (drops : ∀ (t : Trimmer) (l : List Book), f { t with books := l } = f t) (l : List Book)
    (s : State) : (s.postCut l).updTrim f = l.foldl (fun u b => u.postMade b) (s.updTrim f) := by
  induction l generalizing s with
  | nil => rfl
  | cons b rest ih =>
    have dropped : (s.updTrim fun t => { t with books := rest }).updTrim f = s.updTrim f := by
      simp only [State.updTrim, drops]
    rw [State.postCut, ih, ← State.postMade_updTrim, dropped, List.foldl_cons]

/-- The books of an abort leave the tracking one by one, each posted spoiled; a trimmer that drops its books afterwards may
drop them before (R140). -/
theorem State.postAborted_updTrim (drops : ∀ (t : Trimmer) (l : List Book), f { t with books := l } = f t) (p : TrimPhase)
    (l : List Book) (s : State) :
    (s.postAborted p l).updTrim f = l.foldl (fun u b => u.postBook (b.aborted p) .trimmer) (s.updTrim f) := by
  induction l generalizing s with
  | nil => rfl
  | cons b rest ih =>
    have dropped : (s.updTrim fun t => { t with books := rest }).updTrim f = s.updTrim f := by
      simp only [State.updTrim, drops]
    rw [State.postAborted, ih, ← State.postBook_updTrim, dropped, List.foldl_cons]

end

/-! ### The trimmer (R132 to R140) -/

theorem State.testTake_reaches (s : State) : Reaches s s.testTake := Change.take.reaches

/-- The cut-complete event, its books posted from a trimmer already IDLE (R138). -/
theorem State.cutComplete_eq (s : State) :
    s.cutComplete =
      (s.trim.books.foldl (fun u b => u.postMade b)
        ((s.updTrim fun t => { t with outfeed := some (outfeedFor s.trim.books) }).updTrim
          Trimmer.toIdle)).testTake.emptyingCheck := by
  have both : ∀ (o : Outfeed) (u : State), (u.updTrim fun t => { t with outfeed := some o }).updTrim Trimmer.toIdle =
      u.updTrim fun t => { t with outfeed := some o }.toIdle := fun _ _ => rfl
  unfold State.cutComplete
  dsimp only
  rw [both, both, State.postCut_updTrim _ fun _ _ => rfl]

theorem State.posted_reaches (l : List Book) (s : State) : Reaches s (l.foldl (fun u b => u.postMade b) s) :=
  Reaches.foldl (fun u b => u.postMade_reaches b) l s

theorem State.cutComplete_reaches (s : State) (sound : s.trim.phase ≠ .fault) : Reaches s s.cutComplete := by
  rw [State.cutComplete_eq]
  exact ((((Change.outfeed _).reaches.tail (.idle sound)).trans (State.posted_reaches _ _)).trans (State.testTake_reaches _)).trans
    (State.emptyingCheck_reaches _)

theorem State.trimFault_reaches {r : TrimReason} {s : State} (acting : s.trim.phase = .positioning ∨ s.trim.phase = .cutting)
    (reason : r ≠ .noFault) : Reaches s (s.trimFault r) :=
  (Change.fault r acting reason).reaches

theorem State.abortTrimmer_reaches (s : State) : Reaches s s.abortTrimmer := by
  have posted : ∀ (p : TrimPhase) (l : List Book) (u : State),
      Reaches u (l.foldl (fun u b => u.postBook (b.aborted p) .trimmer) u) :=
    fun p l u => Reaches.foldl (fun v b => v.postBook_reaches _ _) l u
  unfold State.abortTrimmer
  split
  · exact .refl
  · next faulty =>
    split
    · exact .refl
    · have emptied : ∀ u : State, u.trim.books = [] →
          u.updTrim Trimmer.emptied = u.updTrim fun t => { t with books := [] }.emptied := fun u h => by
        simp only [State.updTrim, ← h]
      rw [emptied _ ?_, State.postAborted_updTrim _ fun _ _ => rfl]
      · exact (Change.emptied faulty).reaches.trans (posted _ _ _)
      · have dropped : ∀ (l : List Book) (u : State), l = u.trim.books → (u.postAborted .fault l).trim.books = [] := by
          intro l
          induction l with
          | nil => exact fun u h => h.symm
          | cons b rest ih => exact fun u _ => ih _ (by simp)
        exact dropped _ s rfl
  · next unlessIdle unlessFault =>
    rw [State.postAborted_updTrim _ fun _ _ => rfl]
    exact (Change.idle unlessFault).reaches.trans (posted _ _ _)

/-- TRIMMER cleared by a trimmer that changes with it. -/
theorem State.clearCause_updTrim (c : Cause) (f : Trimmer → Trimmer) (s : State) :
    (s.updTrim f).clearCause c = (s.clearCause c).updTrim f := by
  unfold State.clearCause
  rw [apply_ite (State.updTrim f)]
  rfl

theorem State.afterReport_reaches (s : State) : Reaches s s.afterReport := by
  unfold State.afterReport
  dsimp only
  split
  · exact .refl
  · refine .ite ?_ .refl
    split
    · next positioned => exact (Change.cut _ positioned).reaches
    · next faulty =>
      refine .ite ?_ .refl
      split
      · exact (Change.faultToIdle faulty).reaches.trans (State.testTake_reaches _)
      · next books =>
        exact (Change.faultToCut _ faulty books).reaches
    · exact .refl

theorem State.knifeReport_reaches (s : State) : Reaches s s.knifeReport :=
  .ite (Change.knives.reaches.trans (State.afterReport_reaches _)) .refl

theorem State.beamTop_reaches (s : State) : Reaches s s.beamTop := by
  unfold State.beamTop
  split
  · next stroke =>
    dsimp only
    refine .ite ((Change.faultToIdle stroke.1).reaches.trans (State.testTake_reaches _)) ?_
    rw [State.cutComplete_eq, ← State.clearCause_updTrim]
    exact ((((Change.outfeed _).reaches.tail (.faultToIdle stroke.1)).trans (State.posted_reaches _ _)).trans
      (State.testTake_reaches _)).trans (State.emptyingCheck_reaches _)
  · exact .refl

theorem State.cutExpiry_reaches (top : Bool) (s : State) : Reaches s (s.cutExpiry top) := by
  unfold State.cutExpiry
  split
  · next due => exact .ite (State.cutComplete_reaches s (by simp [due.1])) (State.trimFault_reaches (.inr due.1) (by decide))
  · exact .refl

theorem State.limitExpiry_reaches (s : State) : Reaches s s.limitExpiry := by
  unfold State.limitExpiry
  split
  · next due => exact State.trimFault_reaches (.inl due.1) (by decide)
  · exact .refl

theorem State.setTimeExpiry_reaches (place : Fin 12) (s : State) : Reaches s (s.setTimeExpiry place) := by
  unfold State.setTimeExpiry
  split
  · next e there => exact .ite ((Change.eligible _ e there).reaches.trans (State.testTake_reaches _)) .refl
  · exact .refl

/-! ### Window starts (R7, R12, R53, R61, R91, R107, R115, R118, R122, R125) -/

theorem State.usePoint_reaches (p : Fin 18) (s : State) : Reaches s (s.usePoint p) := by
  unfold State.usePoint
  split
  · exact .ite ((s.setCell_reaches _ _).trans (State.freeLock_reaches _ _)) .refl
  · exact .refl

theorem State.usePointClamp_reaches (p : Fin 24) (s : State) : Reaches s (s.usePointClamp p) := by
  unfold State.usePointClamp
  split
  · exact .ite ((s.setClamp_reaches _ _).trans (State.freeLock_reaches _ _)) .refl
  · exact .refl

theorem State.usePoints_reaches (s : State) : Reaches s s.usePoints :=
  (Reaches.foldl (fun u p => u.usePoint_reaches p) launchedPositions s).trans
    (Reaches.foldl (fun u p => u.usePointClamp_reaches p) (List.finRange 24) _)

theorem State.feedAll_reaches {s : State} (engaged : Window.pocket ∈ s.stations.engaged) : Reaches s s.feedAll :=
  State.updGathering_reaches s fun _ _ => .inr engaged

theorem State.gaugeStart_reaches {s : State} (engaged : Window.gauge ∈ s.stations.engaged) : Reaches s s.gaugeStart := by
  unfold State.gaugeStart
  split
  · split
    · refine (Change.serve .gauge engaged).reaches.trans (State.updFormat_reaches _ fun _ => .inr ?_)
      exact engaged
    · exact .refl
  · exact .refl

theorem State.millStart_reaches {s : State} (engaged : Window.mill ∈ s.stations.engaged) : Reaches s s.millStart := by
  have served := (Change.serve .mill engaged).reaches
  unfold State.millStart
  dsimp only
  split
  · split
    · exact served.trans (State.updMiller_reaches _ fun _ => .inr engaged)
    · exact served.trans (State.modClamp_reaches _ _ _)
  · exact .refl

theorem State.spineStart_reaches {s : State} (engaged : Window.spineGlue ∈ s.stations.engaged) : Reaches s s.spineStart := by
  have rest : Reaches s (s.updGlue fun g => { g with spine := Valve.atRest }) :=
    State.updGlue_reaches s (fun h => by cases h) .inl
  unfold State.spineStart
  dsimp only
  split
  · have served := rest.tail (.serve .spineGlue engaged)
    split
    · exact served.trans (State.updGlue_reaches _ (fun _ => .inr engaged) .inl)
    · exact served.trans (State.modClamp_reaches _ _ _)
  · exact rest

theorem State.sideStart_reaches {s : State} (engaged : Window.sideGlue ∈ s.stations.engaged) : Reaches s s.sideStart := by
  have rest : Reaches s (s.updGlue fun g => { g with side := Valve.atRest }) :=
    State.updGlue_reaches s .inl fun h => by cases h
  unfold State.sideStart
  dsimp only
  split
  · exact (rest.tail (.serve .sideGlue engaged)).trans (State.updGlue_reaches _ .inl fun _ => .inr engaged)
  · exact rest

theorem State.feedCover_reaches {l : LaunchFormat} {code : Option Word} {scored : Bool} {b : Book} {s : State}
    (engaged : Window.cover ∈ s.stations.engaged) : Reaches s (s.feedCover l code scored b) := by
  have drawn : ∀ c : Book,
      Reaches s ((s.setClamp 9 (.holding c)).updCover fun k => { k with fed := some ⟨l.magazine, code, scored⟩ }) :=
    fun c => (s.setClamp_reaches _ _).trans (State.updCover_reaches _ (fun _ => .inr engaged) .inl)
  unfold State.feedCover
  dsimp only
  exact .ite ((drawn _).tail (.halt _ (.inl rfl))) (drawn _)

theorem State.coverStart_reaches {code : Option Word} {s : State} (engaged : Window.cover ∈ s.stations.engaged) :
    Reaches s (s.coverStart code) := by
  have served := (Change.serve .cover engaged).reaches
  have still : Window.cover ∈ (s.serve .cover).stations.engaged := engaged
  unfold State.coverStart State.coverChecks
  dsimp only
  split
  · split
    · refine .ite (.ite served (served.trans ?_)) .refl
      exact Reaches.ite (State.setClamp_reaches _ _ _) (Reaches.ite (State.setClamp_reaches _ _ _) (State.feedCover_reaches still))
    · exact .refl
  · exact .refl

theorem State.nipStart_reaches {s : State} (engaged : Window.nip ∈ s.stations.engaged) : Reaches s s.nipStart := by
  unfold State.nipStart
  split
  · exact .ite ((Change.serve .nip engaged).reaches.trans (State.updCover_reaches _ .inl fun _ => .inr engaged)) .refl
  · exact .refl

theorem State.startWork_reaches {w : Window} {io : CountInputs} {s : State} (engaged : w ∈ s.stations.engaged) :
    Reaches s (s.startWork w io) := by
  cases w with
  | pocket => exact State.feedAll_reaches engaged
  | gauge => exact State.gaugeStart_reaches engaged
  | mill => exact State.millStart_reaches engaged
  | spineGlue => exact State.spineStart_reaches engaged
  | sideGlue => exact State.sideStart_reaches engaged
  | cover => exact State.coverStart_reaches engaged
  | nip => exact State.nipStart_reaches engaged
  | launch => exact .refl
  | load => exact .refl
  | deliver => exact .refl

theorem State.windowStart_reaches (w : Window) (io : CountInputs) (s : State) : Reaches s (s.windowStart w io) := by
  have marked : Reaches s (s.updPhase fun p => { p with startTaken := w :: p.startTaken }) :=
    (Change.phase _ (.inl rfl) (.inl rfl) (.inl rfl) rfl).reaches
  have demanded : ∀ u : State, Reaches u (if w = .launch then (if w = .pocket then u.usePoints else u).launchDemand
      else if w = .pocket then u.usePoints else u) := fun u =>
    .ite ((Reaches.ite u.usePoints_reaches .refl).trans (State.launchDemand_reaches _)) (.ite u.usePoints_reaches .refl)
  unfold State.windowStart
  dsimp only
  split
  · next acting =>
    refine ((marked.tail (.engage w acting)).trans (demanded _)).trans (State.startWork_reaches ?_)
    split <;> split <;> simp
  · exact marked.trans (demanded _)

/-! ### Window ends (R7, R12 to R16, R63, R71, R81, R92, R108, R117, R124, R125) -/

theorem Pocket.afterVerdict_feed (limit : Nat) (sheet : SheetReading) (ok : Bool) (p : Pocket) :
    (p.afterVerdict limit sheet ok).feed = none := by
  unfold Pocket.afterVerdict
  cases sheet <;> dsimp only <;> split <;> rfl

theorem State.pocketVerdict_reaches (io : CountInputs) (k : Fin 16) (s : State) : Reaches s (s.pocketVerdict io k) := by
  unfold State.pocketVerdict
  dsimp only
  split
  · exact .refl
  · refine Reaches.ite (.trans ?judged (State.notify_reaches _ _)) ?judged
    refine (s.modCell_reaches _ _).trans (State.updGathering_reaches _ fun j feeding => .inl ?_)
    simp only [Fin.getElem_fin, Vector.getElem_set] at feeding ⊢
    split at feeding
    · simp [Pocket.afterVerdict_feed] at feeding
    · exact feeding

theorem State.pocketVerdicts_reaches (io : CountInputs) (s : State) : Reaches s (s.pocketVerdicts io) :=
  Reaches.foldl (fun u k => u.pocketVerdict_reaches io k) _ s

theorem State.loadTransfer_reaches (s : State) : Reaches s s.loadTransfer := by
  unfold State.loadTransfer
  split
  · exact (s.setClamp_reaches _ _).trans (State.setCell_reaches _ _ _)
  · exact (s.setClamp_reaches _ _).trans (State.setCell_reaches _ _ _)
  · exact .refl

theorem State.gaugeEnd_reaches (s : State) : Reaches s s.gaugeEnd := by
  have ended : Reaches s (s.updFormat FormatUnit.endSequence) := State.updFormat_reaches s fun h => by cases h
  unfold State.gaugeEnd
  dsimp only
  refine .trans (b := if _ then _ else _) ?_ (State.releaseClamp_reaches _ _)
  refine Reaches.ite ?_ ended
  split
  · split
    · exact ended.trans (State.setClamp_reaches _ _ _)
    · exact ended
  · exact ended

theorem State.judgeWear_reaches (s : State) : Reaches s s.judgeWear := by
  have armed : ∀ b : Bool, Reaches s (s.updMiller fun m => { m with armed := b }) := fun b => State.updMiller_reaches s .inl
  unfold State.judgeWear
  dsimp only
  exact Reaches.ite ((armed false).trans (State.notify_reaches _ _)) (Reaches.ite (armed true) .refl)

theorem State.millEnd_reaches (s : State) : Reaches s s.millEnd := by
  have ended : Reaches s (s.updMiller fun m => { m with integrating := false }) :=
    State.updMiller_reaches s fun h => by cases h
  unfold State.millEnd
  dsimp only
  refine Reaches.ite ?_ ended
  split
  · split
    · exact Reaches.ite ended ((ended.trans (State.updMiller_reaches _ .inl)).trans (State.judgeWear_reaches _))
    · exact ended
  · exact ended

theorem State.spineOpens_reaches {s : State} (engaged : Window.spineGlue ∈ s.stations.engaged) : Reaches s s.spineOpens :=
  State.updGlue_reaches s (fun _ => .inr engaged) .inl

theorem State.sideOpens_reaches {s : State} (engaged : Window.sideGlue ∈ s.stations.engaged) : Reaches s s.sideOpens :=
  State.updGlue_reaches s .inl fun _ => .inr engaged

theorem State.spineCloses_reaches (s : State) : Reaches s s.spineCloses :=
  (State.updGlue_reaches s (fun h => by cases h) .inl).trans (State.modClamp_reaches _ _ _)

theorem State.sideCloses_reaches (s : State) : Reaches s s.sideCloses := State.updGlue_reaches s .inl fun h => by cases h

theorem State.spineEnd_reaches (s : State) : Reaches s s.spineEnd := by
  unfold State.spineEnd
  dsimp only
  have rest : ∀ u : State, Reaches u (u.updGlue fun g => { g with spine := Valve.atRest }) := fun u =>
    State.updGlue_reaches u (fun h => by cases h) .inl
  exact (((Reaches.ite s.spineCloses_reaches .refl).trans (Reaches.ite (State.modClamp_reaches _ _ _) .refl)).trans
    (Reaches.ite (State.modClamp_reaches _ _ _) .refl)).trans (rest _)

theorem State.sideEnd_reaches (s : State) : Reaches s s.sideEnd := State.updGlue_reaches s .inl fun h => by cases h

theorem State.coverEnd_reaches (s : State) : Reaches s s.coverEnd := by
  unfold State.coverEnd
  exact (Reaches.ite (s.modClamp_reaches _ _) .refl).trans (State.updCover_reaches _ (fun h => by cases h) .inl)

theorem State.nipEnd_reaches (s : State) : Reaches s s.nipEnd := by
  unfold State.nipEnd
  exact (Reaches.ite (s.modClamp_reaches _ _) .refl).trans (State.updCover_reaches _ .inl fun h => by cases h)

theorem State.openClamp_reaches (g : Gate1) (s : State) : Reaches s (s.openClamp g) :=
  (s.setClamp_reaches _ _).trans (State.updCarousel_reaches _ (.inr rfl))

theorem State.deliverEnd_reaches (s : State) : Reaches s s.deliverEnd := by
  have opened : ∀ g, Reaches s (s.openClamp g) := fun g => s.openClamp_reaches g
  unfold State.deliverEnd
  split
  · next b _ =>
    split
    · next good =>
      split
      · next room =>
        exact ((opened _).tail (.append b good (by simpa using room))).trans (State.testTake_reaches _)
      · exact (opened _).trans (State.postBook_reaches _ _ _)
    · exact (opened _).trans (State.postBook_reaches _ _ _)
  · exact opened _

theorem State.deliverUnserved_reaches (s : State) : Reaches s s.deliverUnserved := by
  unfold State.deliverUnserved
  split
  · exact (s.openClamp_reaches _).trans (State.postBook_reaches _ _ _)
  · exact s.openClamp_reaches _

theorem State.endWork_reaches (w : Window) (io : CountInputs) (s : State) : Reaches s (s.endWork w io) := by
  cases w with
  | pocket => exact s.pocketVerdicts_reaches io
  | load => exact s.loadTransfer_reaches
  | gauge => exact s.gaugeEnd_reaches
  | mill => exact s.millEnd_reaches
  | spineGlue => exact s.spineEnd_reaches
  | sideGlue => exact s.sideEnd_reaches
  | cover => exact s.coverEnd_reaches
  | nip => exact s.nipEnd_reaches
  | deliver => exact s.deliverEnd_reaches
  | launch => exact .refl

theorem State.pocketVerdict_feed (io : CountInputs) (k j : Fin 16) (s : State) :
    (s.pocketVerdict io k).gathering.pockets[j].feed = if j = k then none else s.gathering.pockets[j].feed := by
  unfold State.pocketVerdict
  dsimp only
  split
  · next idle =>
    split
    · next same => rw [same, idle]
    · rfl
  · rw [apply_ite State.gathering]
    simp only [State.notify_frame, ite_self, State.updGathering_gathering, Fin.getElem_fin, Vector.getElem_set, Fin.val_inj,
      eq_comm (a := k)]
    split
    · exact Pocket.afterVerdict_feed _ _ _ _
    · rfl

theorem State.pocketVerdicts_feed (io : CountInputs) (j : Fin 16) (s : State) :
    (s.pocketVerdicts io).gathering.pockets[j].feed = none := by
  have kept : ∀ (l : List (Fin 16)) (u : State),
      (l.foldl (fun s k => s.pocketVerdict io k) u).gathering.pockets[j].feed =
        if j ∈ l then none else u.gathering.pockets[j].feed := by
    intro l
    induction l with
    | nil => simp
    | cons k l ih =>
      intro u
      rw [List.foldl_cons, ih, State.pocketVerdict_feed]
      by_cases here : j ∈ l <;> by_cases same : j = k <;> simp [here, same]
  unfold State.pocketVerdicts
  rw [kept, if_pos (List.mem_finRange j)]

theorem State.gaugeEnd_gauge (s : State) : s.gaugeEnd.format.gauge = none := by
  have released : ∀ u : State, (u.releaseClamp 2).format = u.format := fun u => by simp
  unfold State.gaugeEnd
  dsimp only
  rw [released]
  (repeat' split) <;> rfl

theorem State.millEnd_integrating (s : State) : s.millEnd.miller.integrating = false := by
  have judged : ∀ u : State, u.judgeWear.miller.integrating = u.miller.integrating := fun u => by
    unfold State.judgeWear
    dsimp only
    (repeat' split) <;> simp
  unfold State.millEnd
  dsimp only
  (repeat' split) <;> simp_all

/-- The work of a station is at rest after its window end (R12). -/
theorem State.endWork_rest (w : Window) (io : CountInputs) (s : State) : AtRest (s.endWork w io) w := by
  cases w with
  | pocket =>
    intro k
    rw [show s.endWork .pocket io = s.pocketVerdicts io from rfl]
    exact s.pocketVerdicts_feed io k
  | gauge => exact s.gaugeEnd_gauge
  | mill => exact s.millEnd_integrating
  | spineGlue => rfl
  | sideGlue => rfl
  | cover => rfl
  | nip => rfl
  | launch => trivial
  | load => trivial
  | deliver => trivial

theorem State.unservedEnd_reaches (w : Window) (s : State) : Reaches s (s.unservedEnd w) := by
  cases w with
  | pocket => exact Reaches.foldl (fun u p => u.modCell_reaches p _) _ s
  | deliver => exact s.deliverUnserved_reaches
  | gauge => exact (s.modClamp_reaches _ _).trans (State.releaseClamp_reaches _ _)
  | launch => exact .refl
  | load => exact .refl
  | mill => exact s.modClamp_reaches _ _
  | spineGlue => exact s.modClamp_reaches _ _
  | sideGlue => exact s.modClamp_reaches _ _
  | cover => exact s.modClamp_reaches _ _
  | nip => exact s.modClamp_reaches _ _

theorem State.millChangeover_reaches (s : State) : Reaches s s.millChangeover := by
  rw [State.millChangeover_effect]
  exact State.updMiller_reaches (f := fun _ => _) s .inl

theorem State.coverChangeover_reaches (s : State) : Reaches s s.coverChangeover := by
  rw [State.coverChangeover_effect]
  exact State.updCover_reaches (f := fun _ => _) s .inl .inl

theorem State.leavePending_reaches (w : Window) (s : State) : Reaches s (s.leavePending w) := by
  have mill : Reaches s (s.updMiller fun m => { m with pending := true }) := State.updMiller_reaches s .inl
  have cover : Reaches s (s.updCover fun c => { c with pending := true }) := State.updCover_reaches s .inl .inl
  cases w
  case mill => exact mill
  case cover => exact cover
  all_goals exact .refl

theorem State.changeover_reaches (w : Window) (s : State) : Reaches s (s.changeover w) := by
  cases w
  case mill => exact Reaches.ite s.millChangeover_reaches (s.leavePending_reaches .mill)
  case cover => exact Reaches.ite s.coverChangeover_reaches (s.leavePending_reaches .cover)
  all_goals exact .refl

theorem State.windowEnd_reaches (w : Window) (io : CountInputs) (s : State) : Reaches s (s.windowEnd w io) := by
  have marked : Reaches s (s.updPhase fun p => { p with endTaken := w :: p.endTaken }) :=
    (Change.phase _ (.inl rfl) (.inl rfl) (.inl rfl) rfl).reaches
  unfold State.windowEnd
  dsimp only
  refine Reaches.ite (.trans ?changed (State.emptyingCheck_reaches _)) ?changed
  refine .trans (Reaches.ite ?_ (marked.trans (State.unservedEnd_reaches _ _))) (State.changeover_reaches _ _)
  exact (marked.trans (State.endWork_reaches _ _ _)).tail (.release w (State.endWork_rest _ _ _))

/-! ### The shaft (R1 to R7, R14, R80) -/

theorem State.dealUntaken_reaches (s : State) : Reaches s s.dealUntaken := by
  refine Reaches.foldl (fun u w => Reaches.ite .refl ?_) _ s
  exact ((Change.disengage w).reaches.trans (State.unservedEnd_reaches _ _)).trans (State.leavePending_reaches _ _)

theorem State.chainEnd_reaches (s : State) : Reaches s s.chainEnd := by
  unfold State.chainEnd
  split
  · exact ((s.setCell_reaches _ _).trans (State.freeLock_reaches _ _)).trans (State.postBook_reaches _ _ _)
  · exact .refl

theorem State.advance_reaches (s : State) : Reaches s s.advance :=
  (State.updGathering_reaches s fun _ => .inl).trans (State.updCarousel_reaches _ (.inl rfl))

/-- A change of the Phase unit that leaves comp and JAM alone. -/
theorem State.updPhase_reaches {f : PhaseUnit → PhaseUnit} (s : State)
    (counter : (f s.phase).counter = s.phase.counter ∨ (f s.phase).counter ≤ 4095)
    (since : (f s.phase).sinceIndex = s.phase.sinceIndex ∨ (f s.phase).sinceIndex ≤ 65)
    (comp : (f s.phase).comp = s.phase.comp) (jam : (f s.phase).jam = s.phase.jam) : Reaches s (s.updPhase f) :=
  (Change.phase f counter since (.inl comp) jam).reaches

theorem State.cycleIndex_reaches (s : State) : Reaches s s.cycleIndex := by
  unfold State.cycleIndex
  have advanced := (s.dealUntaken_reaches.trans (State.chainEnd_reaches _)).trans (State.advance_reaches _)
  have phase : ∀ u : State, Reaches u (u.updPhase (PhaseUnit.atIndex s.now)) := fun u =>
    u.updPhase_reaches (.inl rfl) (.inr (Nat.zero_le _)) rfl rfl
  have indexed := (advanced.trans (phase _)).trans (State.recomputeComp_reaches _)
  exact ((indexed.trans (State.emptyingCheck_reaches _)).trans (State.levelOne_reaches _)).trans (State.snapshot_reaches _)

theorem State.isEngaged_of_value {s : State} {w : Window} {v : Option Nat} {p : Nat}
    (h : (if s.isEngaged w then v else none) = some p) : w ∈ s.stations.engaged := by
  split at h
  · next engaged => exact of_decide_eq_true engaged
  · cases h

theorem State.eventAt_reaches (p : Nat) (io : CountInputs) (e : PhaseEvent) (s : State) : Reaches s (s.eventAt p io e) := by
  unfold State.eventAt
  split
  · next due =>
    cases e with
    | opens w => exact s.windowStart_reaches w io
    | closes w => exact s.windowEnd_reaches w io
    | spineOpen => exact State.spineOpens_reaches (State.isEngaged_of_value due)
    | spineClose => exact s.spineCloses_reaches
    | sideOpen => exact State.sideOpens_reaches (State.isEngaged_of_value due)
    | sideClose => exact s.sideCloses_reaches
  · exact .refl

theorem State.eventsAt_reaches (p : Nat) (io : CountInputs) (s : State) : Reaches s (s.eventsAt p io) :=
  Reaches.foldl (fun u e => u.eventAt_reaches p io e) _ s

theorem State.runSpan_reaches (io : CountInputs) (n : Nat) (s : State) : Reaches s (s.runSpan io n) := by
  induction n generalizing s with
  | zero => exact .refl
  | succ n ih => exact (Reaches.foldl (fun u e => u.eventAt_reaches _ io e) _ s).trans (ih _)

theorem State.forwardCount_reaches (io : CountInputs) (s : State) : Reaches s (s.forwardCount io) := by
  have counted : Reaches s (s.updPhase PhaseUnit.count) := by
    refine (Change.phase _ (.inr ?_) (.inr (Nat.min_le_left _ _)) (.inl rfl) rfl).reaches
    change (if 4095 ≤ s.phase.counter then 0 else s.phase.counter + 1) ≤ 4095
    split <;> omega
  exact Reaches.ite (Reaches.ite (counted.trans (State.cycleIndex_reaches _)) (counted.trans (State.eventsAt_reaches _ _ _))) counted

theorem State.forcePhase_reaches (io : CountInputs) (s : State) : Reaches s (s.forcePhase io) := by
  have forced : ∀ u : State, Reaches u (u.updPhase fun p => { p with counter := 0 }) := fun _ =>
    (Change.phase _ (.inr (Nat.zero_le _)) (.inl rfl) (.inl rfl) rfl).reaches
  unfold State.forcePhase
  dsimp only
  refine Reaches.ite (.trans ?run (State.cycleIndex_reaches _)) (.trans ?run ?_)
  · exact (Reaches.ite (s.runSpan_reaches _ _) .refl).trans (forced _)
  · exact (Change.phase _ (.inl rfl) (.inr (Nat.zero_le _)) (.inl rfl) rfl).reaches

theorem State.synchronise_reaches (s : State) : Reaches s s.synchronise := by
  have forced : Reaches s (s.updPhase fun p => { p with counter := 0 }) :=
    s.updPhase_reaches (.inr (Nat.zero_le _)) (.inl rfl) rfl rfl
  have synced : ∀ u : State, Reaches u (u.updPhase fun p => { p with synced := true }) := fun u =>
    u.updPhase_reaches (.inl rfl) (.inl rfl) rfl rfl
  exact (forced.trans (State.cycleIndex_reaches _)).trans (synced _)

theorem State.indexMark_reaches (io : CountInputs) (s : State) : Reaches s (s.indexMark io) := by
  have judged : ∀ (d : Nat) (u : State), Reaches u (u.judgeJam d) := fun d u => Reaches.ite Change.jam.reaches Change.jamGone.reaches
  exact Reaches.ite ((Reaches.ite .refl (s.forcePhase_reaches io)).trans (judged _ _)) s.synchronise_reaches

end Sys2Proof.Machine
end

section
/-!
Every command as a sequence of elementary changes: the host's commands, the inputs and the timers; and the principle that
what every elementary change keeps, every command keeps.
-/

namespace Sys2Proof.Machine

/-! ### The command slot (R172) -/

theorem State.hostWrite_reaches {a : Nat} {w : Word} {s : State} (header : a + 4 ≤ 0x0200) : Reaches s (s.hostWrite a w) := by
  rw [State.hostWrite_header w s (by omega)]
  exact s.putHeader_reaches header

theorem State.hostIssue_reaches (code : Word) (arg : Option Word) (s : State) : Reaches s (s.hostIssue code arg) := by
  cases arg with
  | none => exact (State.hostWrite_reaches (by decide)).trans (State.hostWrite_reaches (by decide))
  | some w =>
    exact ((State.hostWrite_reaches (by decide)).trans (State.hostWrite_reaches (by decide))).trans
      (State.hostWrite_reaches (by decide))

theorem State.slotTaken_reaches (s : State) : Reaches s s.slotTaken :=
  (s.putHeader_reaches (by decide)).tail (.port _)

theorem State.slotDone_reaches (r : Reply) (s : State) : Reaches s (s.slotDone r) :=
  ((((s.putHeader_reaches (by decide)).trans (State.putHeader_reaches _ (by decide))).trans
    (State.putHeader_reaches _ (by decide))).tail (.port _)).trans (State.notify_reaches _ _)

theorem State.carryOut_reaches {run : State → State × Reply} (runs : ∀ u : State, Reaches u (run u).1) (s : State) :
    Reaches s (s.carryOut run) :=
  (s.slotTaken_reaches.trans (runs _)).trans (State.slotDone_reaches _ _)

/-! ### The commands (R34, R54, R85, R157, R163 to R165, R175) -/

theorem State.runWarm_reaches (s : State) : Reaches s s.runWarm.1 := by
  unfold State.runWarm
  split
  · next accepted =>
    split
    · exact .refl
    · next calm =>
      refine (Change.warming false ?_ (Bool.eq_false_of_not_eq_true calm)).reaches
      rcases accepted with h | h <;> simp [h]
  · exact .refl

/-- A mode command whose change of the mode needs no cause to be absent. -/
theorem State.modeCommand_reaches {accepted : LineMode → Bool} {m : LineMode} (after : m ≠ .halted)
    (before : ∀ x, accepted x = true → x ≠ .halted ∧ (m.halts = true → x.halts = true)) (s : State) :
    Reaches s (s.modeCommand accepted m).1 := by
  unfold State.modeCommand
  split
  · next ok => exact (Change.mode m (before _ ok).1 after fun h => .inl ((before _ ok).2 h)).reaches
  · exact .refl

theorem State.runStart_reaches (s : State) : Reaches s s.runStart.1 :=
  State.modeCommand_reaches (by decide) (fun x hx => by simp [of_decide_eq_true hx, LineMode.halts]) s

theorem State.runSetback_reaches (s : State) : Reaches s s.runSetback.1 :=
  State.modeCommand_reaches (by decide) (fun x hx => by simp [of_decide_eq_true hx, LineMode.halts]) s

theorem State.runCool_reaches (s : State) : Reaches s s.runCool.1 :=
  State.modeCommand_reaches (by decide) (fun x hx => by cases x <;> simp_all [LineMode.halts]) s

theorem State.runRunOut_reaches (s : State) : Reaches s s.runRunOut.1 :=
  (State.modeCommand_reaches (by decide) (fun x hx => by simp [of_decide_eq_true hx, LineMode.halts]) s).trans
    (State.emptyingCheck_reaches _)

theorem State.runHalt_reaches (s : State) : Reaches s s.runHalt.1 := by
  unfold State.runHalt
  split
  · exact (Change.halt .hostHalt (.inr rfl)).reaches
  · exact .refl

theorem State.clearCause_updCarousel (c : Cause) (f : Carousel → Carousel) (s : State) :
    (s.updCarousel f).clearCause c = (s.clearCause c).updCarousel f := by
  unfold State.clearCause
  rw [apply_ite (State.updCarousel f)]
  rfl

/-- The open-time rule does not depend on the causes (R165). -/
theorem State.openTimeRule_clearCause (d : Nat) (c : Cause) (s : State) :
    (s.clearCause c).openTimeRule d = (s.openTimeRule d).clearCause c := by
  have config : (s.clearCause c).config = s.config := by simp
  unfold State.openTimeRule
  rw [config, apply_ite (State.clearCause c), State.clearCause_updCarousel]

theorem State.openTimeRule_reaches (d : Nat) (s : State) : Reaches s (s.openTimeRule d) :=
  Reaches.ite (State.updCarousel_reaches s (.inl rfl)) .refl

theorem State.runResume_reaches (s : State) : Reaches s s.runResume.1 := by
  have line : ∀ d, (s.openTimeRule d).line = s.line := fun d => by unfold State.openTimeRule; split <;> simp
  unfold State.runResume
  dsimp only
  split
  · exact .refl
  · next halted =>
    split
    · exact .refl
    · next free =>
      dsimp only
      rw [State.openTimeRule_clearCause, State.openTimeRule_clearCause]
      refine (s.openTimeRule_reaches _).tail (.resume ?_ ?_)
      · rw [line]; exact not_not.mp halted
      · rw [line]; exact Bool.eq_false_of_not_eq_true free

theorem State.runClearClamp_reaches (arg : Word) (s : State) : Reaches s (s.runClearClamp arg).1 := by
  unfold State.runClearClamp State.clearPlace
  split
  · exact .refl
  · split
    · exact .refl
    · split
      · split
        · exact ((s.setClamp_reaches _ _).trans (State.freeLock_reaches _ _)).trans (State.postBook_reaches _ _ _)
        · exact s.setClamp_reaches _ _
      · exact .refl

theorem State.runSetCursor_reaches (arg : Word) (s : State) : Reaches s (s.runSetCursor arg).1 := by
  unfold State.runSetCursor
  split
  · exact .refl
  · split
    · exact s.setCursor_reaches (by omega)
    · exact .refl

theorem State.loadAccepted_rests {s : State} (h : s.loadAccepted = true) : s.line.mode.acting = false := by
  unfold State.loadAccepted at h
  cases mode : s.line.mode <;> simp_all

theorem State.loadTaken_reaches (s : State) : Reaches s s.loadTaken :=
  Reaches.ite (s.slotTaken_reaches.tail (.port _)) (s.slotTaken_reaches.trans (State.slotDone_reaches _ _))

/-- A configuration put in force: its source word, its marks and its start cycle time are elementary changes after it. -/
theorem State.takeSettings_reaches (c : Settings) (s : State) :
    Reaches (s.updConfig fun _ => ⟨c, true⟩) (s.takeSettings c) := by
  have marks : ∀ u : State, Reaches u (u.updPhase (PhaseUnit.marksFor c)) := fun u =>
    u.updPhase_reaches (.inl rfl) (.inl rfl) rfl rfl
  unfold State.takeSettings
  exact ((State.putHeader_reaches _ (by decide)).trans (marks _)).trans (State.driveStart_reaches _)

/-! ### The schedule notice and the arrival of a command (R168, R173) -/

theorem State.notice_reaches (s : State) : Reaches s s.notice := by
  unfold State.notice
  dsimp only
  split
  · next ready => exact Reaches.ite (Change.mode _ (by simp [ready]) (by decide) fun _ => .inl (by rw [ready]; rfl)).reaches .refl
  · next warming => exact Reaches.ite (Change.runWhenReady warming).reaches .refl
  · next setback =>
    split
    · next wakes => exact (Change.warming true (by simp [setback]) wakes.2).reaches
    · exact .refl
  · next cold =>
    split
    · next wakes => exact (Change.warming true (by simp [cold]) wakes.2).reaches
    · exact .refl
  · exact .refl

theorem State.arrival_reaches (code arg : Word) (s : State) : Reaches s (s.arrival code arg) := by
  unfold State.arrival
  split
  · exact .refl
  · split
    case h_1 => exact s.loadTaken_reaches
    case h_2 => exact s.carryOut_reaches State.runWarm_reaches
    case h_3 => exact s.carryOut_reaches State.runStart_reaches
    case h_4 => exact s.carryOut_reaches State.runRunOut_reaches
    case h_5 => exact s.carryOut_reaches State.runResume_reaches
    case h_6 => exact s.carryOut_reaches (State.runClearClamp_reaches arg)
    case h_7 => exact s.carryOut_reaches State.purge_reaches
    case h_8 => exact s.carryOut_reaches (State.runSetCursor_reaches arg)
    case h_9 => exact s.carryOut_reaches State.runSetback_reaches
    case h_10 => exact s.carryOut_reaches State.runCool_reaches
    case h_11 => exact s.carryOut_reaches State.runHalt_reaches
    case h_12 => exact s.carryOut_reaches fun _ => .refl

theorem State.wordWritten_reaches (a : Nat) (w : Word) (s : State) : Reaches (s.hostWrite a w) (s.wordWritten a w) := by
  unfold State.wordWritten
  dsimp only
  split
  · exact State.notice_reaches _
  · split
    · exact State.arrival_reaches _ _ _
    · exact Reaches.ite (Change.port _).reaches .refl

/-! ### Inputs and timers (R46, R62, R67, R90, R106, R108, R110 to R116, R120, R121, R158, R159, R167) -/

theorem State.modPocket_reaches {k : Fin 16} {f : Pocket → Pocket} (feed : ∀ p, (f p).feed = p.feed) (s : State) :
    Reaches s (s.modPocket k f) := by
  refine State.updGathering_reaches s fun j feeding => .inl ?_
  simp only [Fin.getElem_fin, Vector.getElem_set] at feeding ⊢
  split at feeding
  · next same => simpa only [feed, same] using feeding
  · exact feeding

theorem Pocket.takeCode_feed (code : Word) (p : Pocket) : (p.takeCode code).feed = p.feed := by
  unfold Pocket.takeCode
  split <;> rfl

theorem State.magazineLevel_reaches (m : Magazine) (empty : Bool) (s : State) : Reaches s (s.magazineLevel m empty) := by
  have pins : Reaches s (s.updPins (Pins.setMagazine m empty)) :=
    (Change.pins _ (by cases m <;> rfl) (by cases m <;> rfl)).reaches
  have level : ∀ u : State, Reaches u (u.updCover (CoverStation.setMagazine m empty)) := fun u =>
    State.updCover_reaches u (fun h => .inl (by cases m <;> exact h)) fun h => .inl (by cases m <;> exact h)
  have both := pins.trans (level _)
  exact Reaches.ite (both.trans (State.notify_reaches _ _)) both

theorem State.keyPress_reaches (s : State) : Reaches s s.keyPress := by
  have pressed : Reaches s (s.updPins fun p => { p with startKey := true }) := (Change.pins _ rfl rfl).reaches
  unfold State.keyPress
  dsimp only
  refine Reaches.ite .refl ?_
  split
  · next ready => exact pressed.tail (.mode _ (by simp [ready]) (by decide) fun _ => .inl (by simp [ready, LineMode.halts]))
  · next halted => exact Reaches.ite pressed ((pressed.tail (.inch halted)).trans (State.driveStart_reaches _))
  · exact pressed

theorem computedDuty_le (c : Settings) (mode : LineMode) (overheat : Bool) (t : Option Nat) :
    computedDuty c mode overheat t ≤ 255 := by
  unfold computedDuty
  split
  · split
    · exact Nat.zero_le _
    · exact Nat.min_le_left _ _
  · exact Nat.zero_le _

theorem State.judgeOverheat_reaches (t : Option Nat) (s : State) : Reaches s (s.judgeOverheat t) := by
  unfold State.judgeOverheat
  split
  · exact .refl
  · exact Reaches.ite Change.overheat.reaches (Reaches.ite Change.cooled.reaches .refl)

theorem State.judgeStable_reaches (s : State) : Reaches s s.judgeStable := by
  unfold State.judgeStable
  split
  · next warming => exact (Change.stable _ warming).reaches
  · exact .refl

theorem State.takeTemperature_reaches (r : Option (BitVec 10)) (s : State) : Reaches s (s.takeTemperature r) :=
  ((Change.sense _ _ _ (computedDuty_le _ _ _ _)).reaches.trans (State.judgeOverheat_reaches _ _)).trans
    (State.judgeStable_reaches _)

theorem State.conversionEnd_reaches (r : Option (BitVec 10)) (s : State) : Reaches s (s.conversionEnd r) := by
  have chosen : ∀ u : State,
      Reaches u (u.updFormat fun f => { f with converter := f.converter.chooseNext s.now }) := fun u =>
    State.updFormat_reaches u .inl
  unfold State.conversionEnd
  dsimp only
  refine Reaches.ite (.trans ?_ (chosen _)) .refl
  split
  · exact Reaches.ite (State.updFormat_reaches s fun h => .inl (by simpa using h)) .refl
  · exact s.takeTemperature_reaches r
  · exact .refl

theorem State.temperatureTimer_reaches (s : State) : Reaches s s.temperatureTimer :=
  Reaches.ite ((Change.timer (· + 100000)).reaches.trans (State.updFormat_reaches _ .inl)) .refl

theorem State.heaterStart_reaches (s : State) : Reaches s s.heaterStart := Reaches.ite (Change.period (· + heaterPeriod)).reaches .refl

theorem State.heaterEnd_reaches (s : State) : Reaches s s.heaterEnd := Reaches.ite Change.heaterOff.reaches .refl

theorem State.stableExpiry_reaches (s : State) : Reaches s s.stableExpiry := by
  unfold State.stableExpiry
  split
  · next due =>
    refine (Change.mode _ (by simp [due.1]) ?_ fun _ => .inl (by rw [due.1]; rfl)).reaches
    split <;> decide
  · exact .refl

theorem State.restExpiry_reaches (s : State) : Reaches s s.restExpiry := by
  unfold State.restExpiry
  refine Reaches.ite ?_ .refl
  split
  · next ready => exact (Change.mode _ (by simp [ready]) (by decide) fun h => by cases h).reaches
  · next setback => exact (Change.mode _ (by simp [setback]) (by decide) fun h => by cases h).reaches
  · exact .refl

/-! ### Every command -/

/-- The commands that are not a sequence of elementary changes alone: the resets, the host's word writes, the end of
LOAD_CONFIG's reading and the two guard inputs. -/
def standsApart : Instr → Bool
  | .powerOnReset _ _ => true
  | .controllerReset _ => true
  | .hostWordWrite _ _ _ => true
  | .emergencyStopInput _ _ _ => true
  | .guardInput _ _ _ => true
  | .loadConfigReadEnd _ _ => true
  | _ => false

/-- What a command can do to the card. -/
theorem exec_reaches {c : Instr} {s t : State} (apart : standsApart c = false) (run : exec c s = .next t) : Reaches s t := by
  have later : ∀ dt, Reaches s (s.elapse dt) := fun dt => (Change.later dt).reaches
  cases slot : slotCommand c with
  | some issue =>
    obtain ⟨dt, w, arrives⟩ := exec_of_slotCommand slot s
    rw [arrives] at run
    cases run
    exact ((later dt).trans (State.hostIssue_reaches _ _ _)).trans (State.arrival_reaches _ _ _)
  | none =>
    cases c
    case loadConfig | warm | start | runOut | resume | clearClamp | purgeCache | setCursor | setback | cool | halt |
        unknownCommand => cases slot
    case powerOnReset | controllerReset | hostWordWrite | emergencyStopInput | guardInput | loadConfigReadEnd => cases apart
    all_goals
      injection run with run
      subst run
    case forwardEncoderCount dt io => exact (later dt).trans (State.forwardCount_reaches io _)
    case reverseEncoderCount dt => exact later dt
    case indexMark dt io => exact (later dt).trans (State.indexMark_reaches io _)
    case pocketCodeReport dt pocket code =>
      exact (later dt).trans (State.modPocket_reaches (Pocket.takeCode_feed code) _)
    case pocketReloaded dt pocket => exact (later dt).trans (State.modPocket_reaches (f := Pocket.reload) (fun _ => rfl) _)
    case gluePumpPulse dt =>
      refine (later dt).trans (State.updGlue_reaches _ (fun h => .inl ?_) .inl)
      dsimp only at h
      split at h <;> exact h
    case fetchAttemptEnd dt lags => exact (later dt).trans (State.attemptEnd_reaches lags _)
    case fetchWaitExpiry dt => exact (later dt).trans (State.waitExpiry_reaches _)
    case fetchTimeout dt => exact (later dt).trans (State.fetchExpiry_reaches _)
    case conversionComplete dt result => exact (later dt).trans (State.conversionEnd_reaches result _)
    case temperatureTimerExpiry dt => exact (later dt).trans (State.temperatureTimer_reaches _)
    case heaterPeriodStart dt => exact (later dt).trans (State.heaterStart_reaches _)
    case heaterOnTimeEnd dt => exact (later dt).trans (State.heaterEnd_reaches _)
    case millMotionComplete dt => exact (later dt).trans (State.updMiller_reaches _ .inl)
    case spindleLoadPulse dt =>
      refine (later dt).trans (State.updMiller_reaches _ fun h => .inl ?_)
      split at h <;> exact h
    case scorerMotionComplete dt => exact (later dt).trans (State.updCover_reaches _ .inl .inl)
    case magazineSensorChange dt magazine empty => exact (later dt).trans (State.magazineLevel_reaches magazine empty _)
    case setTimeExpiry dt place => exact (later dt).trans (State.setTimeExpiry_reaches place _)
    case knifePositioningReport dt => exact (later dt).trans (State.knifeReport_reaches _)
    case positioningLimitExpiry dt => exact (later dt).trans (State.limitExpiry_reaches _)
    case cutTimerExpiry dt beamAtTop => exact (later dt).trans (State.cutExpiry_reaches beamAtTop _)
    case cutCompleteInput dt => exact (later dt).trans (State.beamTop_reaches _)
    case startKeyPress dt => exact (later dt).trans (State.keyPress_reaches _)
    case startKeyRelease dt => exact ((later dt).tail (.pins _ rfl rfl)).tail .stopInch
    case stableTimerExpiry dt => exact (later dt).trans (State.stableExpiry_reaches _)
    case restTimerExpiry dt => exact (later dt).trans (State.restExpiry_reaches _)
    case scheduleNotice dt value =>
      exact ((later dt).trans (State.hostWrite_reaches (by decide))).trans (State.notice_reaches _)
    case attentionWrite dt word value =>
      refine ((later dt).trans (State.hostWrite_reaches ?_)).tail (.port _)
      cases word with
      | enables => decide
      | seen c =>
        have := c.isLt
        simp only [attentionAddr, Header.seen]
        omega

/-- What every elementary change keeps, any sequence of them keeps. -/
theorem Reaches.keeps {P : State → Prop} (change : ∀ {s t : State}, P s → Change s t → P t) {s t : State} (h : P s)
    (reaches : Reaches s t) : P t := by
  induction reaches with
  | refl => exact h
  | tail _ last ih => exact change ih last

/-- What every elementary change, every pin's level, and ESTOP and GUARD reported keep, the two guard inputs keep. -/
theorem guardInputs_keep {P : State → Prop} (change : ∀ {s t : State}, P s → Change s t → P t)
    (pins : ∀ {s : State} (f : Pins → Pins), P s → P (s.updPins f))
    (raised : ∀ {s : State} (c : Cause), P s → P (s.raiseCause c))
    (cleared : ∀ {s : State} (c : Cause), P s → P (s.clearCause c)) {s : State} (h : P s) (level abortFirst : Bool) :
    P (s.estopLevel level abortFirst) ∧ P (s.guardLevel level abortFirst) := by
  have trimmer : ∀ (b : Bool) (u : State), P u → P (u.guardTrimmer b) := fun b u hu =>
    Reaches.keeps change hu (Reaches.ite .refl (u.abortTrimmer_reaches.trans (State.emptyingCheck_reaches _)))
  have set : ∀ (c : Cause) (u : State), P u → P (u.guardSet c abortFirst) := by
    intro c u hu
    unfold State.guardSet
    dsimp only
    split
    · exact raised c (trimmer _ u hu)
    · exact trimmer _ _ (raised c hu)
  have gone : ∀ (c : Cause) (u : State), P u → P (u.guardCleared c) := fun c u hu => change (cleared c hu) .take
  unfold State.estopLevel State.guardLevel
  dsimp only
  constructor
  · split
    · exact h
    · split
      · exact change (set _ _ (pins _ h)) .stopInch
      · exact gone _ _ (pins _ h)
  · split
    · exact h
    · split
      · exact set _ _ (pins _ h)
      · exact gone _ _ (pins _ h)

/-- What every elementary change and a configuration put in force keep, the end of LOAD_CONFIG's reading keeps. -/
theorem loadEnd_keeps {P : State → Prop} (change : ∀ {s t : State}, P s → Change s t → P t)
    (config : ∀ {s : State} (c : Settings), s.line.mode.acting = false → P s → P (s.updConfig fun _ => ⟨c, true⟩))
    {s : State} (h : P s) (lags : List Nat) : P (s.loadEnd lags) := by
  unfold State.loadEnd State.judgeRecord
  split
  · exact h
  · have ended : P (s.updPort fun p => { p with reading := none }) := change h (.port _)
    generalize (s.updPort fun p => { p with reading := none }) = u at ended ⊢
    dsimp only
    refine Reaches.keeps change ?_ (State.slotDone_reaches _ _)
    split
    · exact ended
    · split
      · next accepted =>
        exact Reaches.keeps change (config _ (State.loadAccepted_rests accepted) ended) (State.takeSettings_reaches _ u)
      · exact ended

/-- What every elementary change, a configuration put in force, the guard inputs, a reset and a host word write keep, a step
keeps. -/
theorem step_keeps {P : State → Prop} (change : ∀ {s t : State}, P s → Change s t → P t)
    (config : ∀ {s : State} (c : Settings), s.line.mode.acting = false → P s → P (s.updConfig fun _ => ⟨c, true⟩))
    (guards : ∀ {s : State} (level abortFirst : Bool), P s →
      P (s.estopLevel level abortFirst) ∧ P (s.guardLevel level abortFirst))
    (host : ∀ {s : State} (a : Nat) (w : Word), a + 3 < Memory.size → P s → P (s.hostWrite a w))
    (reset : ∀ {s : State} (now : Nat) (pins : Pins) (m : Memory), P s → (m = [] ∨ m = scanTickets s.mem) →
      P (State.afterReset now pins m s.pending))
    (queue : ∀ {s : State} (l : List Instr), P s → P { s with pending := l }) {s t : State} (h : P s)
    (run : step s = .next t) : P t := by
  unfold step at run
  split at run
  · cases run
    exact h
  · next c rest waiting =>
    clear waiting
    have queued := queue rest h
    generalize ({ s with pending := rest } : State) = u at queued run
    cases apart : standsApart c
    · exact Reaches.keeps change queued (exec_reaches apart run)
    · have later : ∀ dt, P (u.elapse dt) := fun dt => change queued (.later dt)
      cases c
      case powerOnReset dt levels =>
        cases run
        exact reset _ _ _ queued (.inl rfl)
      case controllerReset dt =>
        cases run
        exact reset _ _ _ queued (.inr rfl)
      case emergencyStopInput dt active abortFirst =>
        cases run
        exact (guards active abortFirst (later dt)).1
      case guardInput dt opened abortFirst =>
        cases run
        exact (guards opened abortFirst (later dt)).2
      case loadConfigReadEnd dt lags =>
        cases run
        exact loadEnd_keeps change config (later dt) lags
      case hostWordWrite dt a w =>
        have inside : a + 3 < Memory.size := by
          have aligned := exec_hostWordWrite_aligned run
          have bound : a < Memory.size := by
            change execHostWordWrite dt a w u = _ at run
            unfold execHostWordWrite at run
            split at run
            · cases run
            · omega
          unfold Memory.size at bound ⊢
          omega
        rw [exec_hostWordWrite_next run]
        exact Reaches.keeps change (host a w inside (later dt)) (State.wordWritten_reaches _ _ _)
      all_goals cases apart

end Sys2Proof.Machine
end

section
/-!
What a change of the line mode is, for every mode (R10, R12, R16, R114, R156, R159, R167, R169): the values it gives the
line, the drive and the stations (`Entered`), and all it leaves alone (`ModeFrame`).
-/

namespace Sys2Proof.Machine

/-! ### The drive and the stations for a new mode -/

/-- The state in which a change of the line mode writes the snapshot and posts its notices (R156 steps 1 to 4). -/
def State.driven (m : LineMode) (s : State) : State :=
  ((s.putNat Header.mode m.number).updLine (changeTimers s.now s.config.settings s.pot.inBand m)).changeDrive s.line.mode m

/-- The notices of a change of the line mode (R156 step 5). -/
def State.modeNotices (m : LineMode) (s : State) : State :=
  let s1 := s.notify .modeChanged
  if m = .halted then s1.notify .halted else s1

theorem State.changeMode_eq (m : LineMode) (s : State) :
    s.changeMode m = (if m.acting then s.driven m else (s.driven m).snapshot).modeNotices m := rfl

theorem State.modeNotices_same (m : LineMode) (s : State) : SameBut [.port] s (s.modeNotices m) := by
  intro p hp
  unfold State.modeNotices
  dsimp only
  split <;> cases p <;> simp [Part.same] at hp ⊢

theorem State.modeNotices_port (m : LineMode) (s : State) :
    (s.modeNotices m).port.snapSeq = s.port.snapSeq ∧ (s.modeNotices m).port.reading = s.port.reading := by
  unfold State.modeNotices
  dsimp only
  split <;> exact ⟨rfl, rfl⟩

theorem State.modeNotices_noticed (m : LineMode) (s : State) :
    Noticed (fun c => if c = 3 ∨ (c = 4 ∧ m = .halted) then 1 else 0) s (s.modeNotices m) := by
  unfold State.modeNotices
  dsimp only
  split
  · next halted =>
    exact ((State.notify_noticed .modeChanged s).notify .halted).congr (by rw [halted]; decide)
  · next other => exact (State.notify_noticed .modeChanged s).congr (by simp only [other, and_false, or_false]; decide)

theorem State.modeNotices_bytes (m : LineMode) (s : State) :
    BytesBut [Header.count 3, Header.count 4] s (s.modeNotices m) := by
  unfold State.modeNotices
  dsimp only
  split
  · exact ((s.notify_bytes .modeChanged).trans (State.notify_bytes .halted _)).mono (by decide)
  · exact (s.notify_bytes .modeChanged).mono (by decide)

/-- Everything but the slot is settled before the snapshot and the notices. -/
theorem State.changeMode_same (m : LineMode) (s : State) : SameBut [.port] (s.driven m) (s.changeMode m) := by
  rw [State.changeMode_eq]
  split
  · exact State.modeNotices_same m (s.driven m)
  · have told : SameBut [.port] (s.driven m) (s.driven m).snapshot := fun p hp => by
      cases p <;> simp [Part.same] at hp ⊢
    exact (told.trans ((s.driven m).snapshot.modeNotices_same m)).mono (by decide)

/-! ### A drive start, and a drive stopped -/

theorem State.driveStart_phase (s : State) :
    s.driveStart.phase =
      { s.phase with
        lastCycle := s.config.settings.startCycle
        startMark := true
        comp := compFor s.config.settings.valveLead s.config.settings.startCycle } := rfl

/-- The drive set running from rest (R10, R156, R169). -/
def State.runDrive (s : State) : State :=
  (s.updLine fun l => { l with drive := .running, reference := some s.config.settings.speed }).driveStart

theorem State.changeDrive_stays {b m : LineMode} (s : State) (before : b.acting = true) (after : m.acting = true) :
    s.changeDrive b m = s := by
  simp [State.changeDrive, before, after]

theorem State.changeDrive_starts {b m : LineMode} (s : State) (before : b.acting = false) (after : m.acting = true) :
    s.changeDrive b m = s.runDrive.takePending := by
  simp [State.changeDrive, State.runDrive, before, after]

/-- An entry to an acting mode from a resting one: a drive start, and the pending changeovers. -/
theorem State.changeDrive_starts_effect {b m : LineMode} (s : State) (before : b.acting = false) (after : m.acting = true) :
    SameBut [.phase, .miller, .cover, .line] s (s.changeDrive b m) ∧ PendingTaken s (s.changeDrive b m) ∧
      (s.changeDrive b m).phase = s.driveStart.phase := by
  rw [State.changeDrive_starts s before after]
  obtain ⟨pending, same⟩ := s.runDrive.takePending_effect
  have started : SameBut [.phase, .line] s s.runDrive := by
    intro p hp
    cases p <;> simp [Part.same, State.runDrive] at hp ⊢
  exact ⟨(started.trans same).mono (by decide), pending, same .phase (by decide)⟩

/-- The heater of a mode entered: off in COLD (R114). -/
def State.modeHeater (m : LineMode) (s : State) : State :=
  if m = .cold then s.updPot fun p => { p with applied := 0, heaterOn := false } else s

theorem State.changeDrive_rests {b m : LineMode} (s : State) (after : m.acting = false) :
    s.changeDrive b m = (if b.acting then s.stopDrive.disengageAll else s.stopDrive).modeHeater m := by
  simp [State.changeDrive, State.stopDrive, State.modeHeater, after]

theorem State.modeHeater_effect (m : LineMode) (s : State) :
    SameBut [.pot] s (s.modeHeater m) ∧ WorksKept s (s.modeHeater m) ∧ (m ≠ .cold → (s.modeHeater m).pot = s.pot) ∧
      (m = .cold → (s.modeHeater m).pot.applied = 0 ∧ (s.modeHeater m).pot.heaterOn = false) ∧
      (s.modeHeater m).pot =
        { s.pot with applied := (s.modeHeater m).pot.applied, heaterOn := (s.modeHeater m).pot.heaterOn } := by
  unfold State.modeHeater
  split
  · next cold =>
    refine ⟨fun p hp => ?_, by simp [WorksKept], fun other => absurd cold other, fun _ => ⟨rfl, rfl⟩, rfl⟩
    cases p <;> simp [Part.same] at hp ⊢
  · next other => exact ⟨SameBut.refl _ s, WorksKept.refl s, fun _ => rfl, fun cold => absurd cold other, rfl⟩

/-- What the rest of a station leaves of the miller's wear and the scorer's magazines. -/
theorem State.disengage_stocks (w : Window) (s : State) :
    (s.disengage w).miller.wear = s.miller.wear ∧ (s.disengage w).miller.armed = s.miller.armed ∧
      (s.disengage w).cover.emptyA = s.cover.emptyA ∧ (s.disengage w).cover.emptyB = s.cover.emptyB := by
  unfold State.disengage
  split
  · cases w <;> simp [State.restStation]
  · exact ⟨rfl, rfl, rfl, rfl⟩

theorem State.disengageAll_stocks (s : State) :
    s.disengageAll.miller.wear = s.miller.wear ∧ s.disengageAll.miller.armed = s.miller.armed ∧
      s.disengageAll.cover.emptyA = s.cover.emptyA ∧ s.disengageAll.cover.emptyB = s.cover.emptyB := by
  unfold State.disengageAll
  induction allWindows generalizing s with
  | nil => exact ⟨rfl, rfl, rfl, rfl⟩
  | cons w l ih =>
    obtain ⟨wear, armed, emptyA, emptyB⟩ := s.disengage_stocks w
    obtain ⟨wear', armed', emptyA', emptyB'⟩ := ih (s.disengage w)
    exact ⟨wear'.trans wear, armed'.trans armed, emptyA'.trans emptyA, emptyB'.trans emptyB⟩

/-- A mode without a running drive: the stations of an acting mode come to rest (R12, R156). -/
theorem State.changeDrive_rests_effect {b m : LineMode} (s : State) (after : m.acting = false) :
    SameBut [.stations, .gathering, .carousel, .format, .miller, .pot, .glue, .cover, .line] s (s.changeDrive b m) ∧
      WorksKept s (s.changeDrive b m) ∧ (b.acting = true → (s.changeDrive b m).stations.engaged = []) ∧
      (b.acting = false → SameBut [.pot, .line] s (s.changeDrive b m)) ∧
      (s.changeDrive b m).pot = (s.modeHeater m).pot ∧
      (s.changeDrive b m).miller.wear = s.miller.wear ∧ (s.changeDrive b m).miller.armed = s.miller.armed ∧
      (s.changeDrive b m).cover.emptyA = s.cover.emptyA ∧ (s.changeDrive b m).cover.emptyB = s.cover.emptyB := by
  have stopped : SameBut [.line] s s.stopDrive := by
    intro p hp
    cases p <;> simp [Part.same, State.stopDrive] at hp ⊢
  have heater : ∀ u : State, u.pot = s.pot → (u.modeHeater m).pot = (s.modeHeater m).pot := by
    intro u hu
    unfold State.modeHeater
    split <;> simp [hu]
  rw [State.changeDrive_rests s after]
  cases acting : b.acting
  · obtain ⟨same, works, -, -, -⟩ := s.stopDrive.modeHeater_effect m
    have whole : SameBut [.pot, .line] s (s.stopDrive.modeHeater m) := (stopped.trans same).mono (by decide)
    have miller : (s.stopDrive.modeHeater m).miller = s.miller := whole .miller (by decide)
    have cover : (s.stopDrive.modeHeater m).cover = s.cover := whole .cover (by decide)
    refine ⟨whole.mono (by decide), works, fun h => absurd h (by decide), fun _ => whole, heater _ rfl, ?_⟩
    simp [miller, cover]
  · have rested : SameBut [.stations, .gathering, .carousel, .format, .miller, .glue, .cover] s.stopDrive
        s.stopDrive.disengageAll := by
      intro p hp
      cases p <;> simp [Part.same] at hp ⊢
    obtain ⟨same, works, -, -, -⟩ := s.stopDrive.disengageAll.modeHeater_effect m
    have stations : (s.stopDrive.disengageAll.modeHeater m).stations = s.stopDrive.disengageAll.stations :=
      same .stations (by decide)
    have miller : (s.stopDrive.disengageAll.modeHeater m).miller = s.stopDrive.disengageAll.miller :=
      same .miller (by decide)
    have cover : (s.stopDrive.disengageAll.modeHeater m).cover = s.stopDrive.disengageAll.cover := same .cover (by decide)
    refine ⟨((stopped.trans rested).trans same).mono (by decide), s.stopDrive.disengageAll_works.trans works, fun _ => ?_,
      fun h => absurd h (by decide), heater _ (rested .pot (by decide)), ?_⟩
    · simp only [if_true]
      rw [stations, State.disengageAll_engaged]
    · simp only [if_true]
      rw [miller, cover]
      exact s.stopDrive.disengageAll_stocks

/-! ### The whole change -/

/-- The mode written and the timers changed (R156 steps 1 and 2). -/
def State.marked (m : LineMode) (s : State) : State :=
  (s.putNat Header.mode m.number).updLine (changeTimers s.now s.config.settings s.pot.inBand m)

theorem State.marked_same (m : LineMode) (s : State) : SameBut [.line] s (s.marked m) := by
  intro p hp
  cases p <;> simp [Part.same, State.marked] at hp ⊢

theorem State.driven_eq (m : LineMode) (s : State) : s.driven m = (s.marked m).changeDrive s.line.mode m := rfl

theorem State.driven_mem (m : LineMode) (s : State) :
    (s.driven m).mem = s.mem.writeWord Header.mode (BitVec.ofNat 32 m.number) := by
  rw [State.driven_eq]
  simp [State.marked, State.putNat, State.putWord_mem]

theorem State.driven_port (m : LineMode) (s : State) : (s.driven m).port = s.port := by simp [State.driven]

theorem State.driven_rests {m : LineMode} (s : State) (after : m.acting = false) :
    SameBut [.stations, .gathering, .carousel, .format, .miller, .pot, .glue, .cover, .line] s (s.driven m) ∧
      WorksKept s (s.driven m) ∧ (s.line.mode.acting = true → (s.driven m).stations.engaged = []) ∧
      (s.line.mode.acting = false → SameBut [.pot, .line] s (s.driven m)) ∧
      (s.driven m).pot = (s.modeHeater m).pot ∧
      (s.driven m).miller.wear = s.miller.wear ∧ (s.driven m).miller.armed = s.miller.armed ∧
      (s.driven m).cover.emptyA = s.cover.emptyA ∧ (s.driven m).cover.emptyB = s.cover.emptyB := by
  have marked := s.marked_same m
  have heater : ((s.marked m).modeHeater m).pot = (s.modeHeater m).pot := by
    unfold State.modeHeater
    split <;> simp [State.marked]
  obtain ⟨same, works, rest, quiet, pot, stocks⟩ := (s.marked m).changeDrive_rests_effect (b := s.line.mode) after
  exact ⟨(marked.trans same).mono (by decide), works, rest, fun resting => (marked.trans (quiet resting)).mono (by decide),
    pot.trans heater, stocks⟩

theorem State.driven_starts {m : LineMode} (s : State) (before : s.line.mode.acting = false) (after : m.acting = true) :
    SameBut [.phase, .miller, .cover, .line] s (s.driven m) ∧ PendingTaken s (s.driven m) ∧
      (s.driven m).phase = s.driveStart.phase := by
  obtain ⟨same, pending, phase⟩ := (s.marked m).changeDrive_starts_effect before after
  exact ⟨((s.marked_same m).trans same).mono (by decide), pending, phase⟩

theorem State.driven_stays {m : LineMode} (s : State) (before : s.line.mode.acting = true) (after : m.acting = true) :
    SameBut [.line] s (s.driven m) := by
  rw [State.driven_eq, State.changeDrive_stays _ before after]
  exact s.marked_same m

theorem LineMode.acting_of_cold {m : LineMode} (h : m = .cold) : m.acting = false := by rw [h]; rfl

/-- A change of the line mode enters the mode (R10, R12, R114, R156, R159, R167, R169). -/
theorem State.changeMode_entered (m : LineMode) (s : State) : Entered m s (s.changeMode m) := by
  have same := s.changeMode_same m
  have line := State.changeMode_line m s
  have now : (s.changeMode m).now = s.now := by simp
  have phase : (s.changeMode m).phase = (s.driven m).phase := same .phase (by decide)
  have stations : (s.changeMode m).stations = (s.driven m).stations := same .stations (by decide)
  have miller : (s.changeMode m).miller = (s.driven m).miller := same .miller (by decide)
  have cover : (s.changeMode m).cover = (s.driven m).cover := same .cover (by decide)
  have pot : (s.changeMode m).pot = (s.driven m).pot := same .pot (by decide)
  have word : (s.changeMode m).word Header.mode = BitVec.ofNat 32 m.number := by
    have written : (s.driven m).word Header.mode = BitVec.ofNat 32 m.number := by
      rw [State.word, State.driven_mem, Memory.readWord_writeWord_same]
    rw [State.changeMode_eq, (State.modeNotices_bytes m _).word (by decide)]
    split
    · exact written
    · rw [(State.snapshot_effect _).2.2.word (by decide), written]
  have seq : (s.changeMode m).port.snapSeq = if m.acting then s.port.snapSeq else s.port.snapSeq + 2 := by
    rw [State.changeMode_eq, (State.modeNotices_port m _).1]
    split
    · rw [s.driven_port m]
    · rw [(State.snapshot_effect _).1, s.driven_port m]
  refine ⟨by rw [line]; rfl, word, by rw [line], by rw [line], ?_, ?_, by rw [line]; rfl, ?_, ?_, ?_, ?_, seq⟩
  · rw [line, now]
    cases m <;> rfl
  · rw [line, now]
    cases m <;> simp [changeTimers]
  · intro after before
    rw [phase, (s.driven_starts before after).2.2, State.driveStart_phase]
    exact ⟨rfl, rfl, rfl⟩
  · intro after before
    obtain ⟨-, -, rest, -⟩ := s.driven_rests after
    rw [stations]
    exact rest before
  · intro cold
    obtain ⟨-, -, -, -, heater, -⟩ := s.driven_rests (LineMode.acting_of_cold cold)
    obtain ⟨-, -, -, off, -⟩ := s.modeHeater_effect m
    rw [pot, heater]
    exact off cold
  · intro after
    obtain ⟨-, ⟨-, -, drive, drivePending, scorer, scorerPending⟩, -⟩ := s.driven_rests after
    rw [miller, cover]
    exact ⟨drive, drivePending, scorer, scorerPending⟩

/-- A change of the line mode posts MODE_CHANGED, and HALTED at a halt (R156). -/
theorem State.changeMode_noticed (m : LineMode) (s : State) :
    Noticed (fun c => if c = 3 ∨ (c = 4 ∧ m = .halted) then 1 else 0) s (s.changeMode m) := by
  rw [State.changeMode_eq]
  refine (State.modeNotices_noticed m _).of_counts ?_
  split
  · rw [s.driven_port m]
  · rw [(State.snapshot_effect _).1, s.driven_port m]

theorem PendingTaken.stocks {s t : State} (h : PendingTaken s t) :
    t.miller.wear = s.miller.wear ∧ t.miller.armed = s.miller.armed ∧ t.cover.emptyA = s.cover.emptyA ∧
      t.cover.emptyB = s.cover.emptyB := by
  obtain ⟨miller, cover⟩ := h
  rw [miller, cover]
  refine ⟨?_, ?_, ?_, ?_⟩ <;> split <;> rfl

/-- The state before the snapshot and the notices, against the frame of a change of the line mode. -/
theorem State.driven_modeFrame (m : LineMode) (s : State) : ModeFrame m s (s.driven m) := by
  have port : (s.driven m).port.reading = s.port.reading := by rw [s.driven_port m]
  have restPot : (s.modeHeater m).pot =
      { s.pot with applied := (s.modeHeater m).pot.applied, heaterOn := (s.modeHeater m).pot.heaterOn } :=
    (s.modeHeater_effect m).2.2.2.2
  cases after : m.acting
  · obtain ⟨same, ⟨cells, places, -⟩, -, quiet, pot, wear, armed, emptyA, emptyB⟩ := s.driven_rests after
    obtain ⟨-, -, warm, -, -⟩ := s.modeHeater_effect m
    have phase : (s.driven m).phase = s.phase := same .phase (by decide)
    refine ⟨same.mono (by decide), cells, places, by rw [phase], fun _ => phase, fun h => ?_, fun h => ?_,
      fun h => by simp [after] at h, wear, armed, emptyA, emptyB, fun other => pot.trans (warm other), ?_, port⟩
    · have resting := quiet (h.resolve_left (by simp [after]))
      exact ⟨resting .stations (by decide), resting .gathering (by decide), resting .carousel (by decide),
        resting .format (by decide), resting .glue (by decide)⟩
    · have resting := quiet (by rw [← h, after])
      exact ⟨resting .miller (by decide), resting .cover (by decide)⟩
    · rw [pot]
      exact restPot
  · have kept : SameBut [.phase, .miller, .cover, .line] s (s.driven m) := by
      cases before : s.line.mode.acting
      · exact (s.driven_starts before after).1
      · exact (s.driven_stays before after).mono (by decide)
    have pot : (s.driven m).pot = s.pot := kept .pot (by decide)
    have gathering : (s.driven m).gathering = s.gathering := kept .gathering (by decide)
    have carousel : (s.driven m).carousel = s.carousel := kept .carousel (by decide)
    have stations : (s.driven m).stations = s.stations ∧ (s.driven m).gathering = s.gathering ∧
        (s.driven m).carousel = s.carousel ∧ (s.driven m).format = s.format ∧ (s.driven m).glue = s.glue :=
      ⟨kept .stations (by decide), gathering, carousel, kept .format (by decide), kept .glue (by decide)⟩
    have potFrame : (s.driven m).pot =
        { s.pot with applied := (s.driven m).pot.applied, heaterOn := (s.driven m).pot.heaterOn } := by rw [pot]
    cases before : s.line.mode.acting
    · obtain ⟨-, pending, phase⟩ := s.driven_starts before after
      obtain ⟨wear, armed, emptyA, emptyB⟩ := pending.stocks
      refine ⟨kept.mono (by decide), by rw [gathering], by rw [carousel], by rw [phase, State.driveStart_phase], fun h => ?_,
        fun _ => stations, fun h => ?_, fun _ _ => pending, wear, armed, emptyA, emptyB, fun _ => pot, potFrame, port⟩
      · simp [after, before] at h
      · simp [after, before] at h
    · have same := s.driven_stays before after
      have miller : (s.driven m).miller = s.miller := same .miller (by decide)
      have cover : (s.driven m).cover = s.cover := same .cover (by decide)
      have phase : (s.driven m).phase = s.phase := same .phase (by decide)
      exact ⟨kept.mono (by decide), by rw [gathering], by rw [carousel], by rw [phase], fun _ => phase, fun _ => stations,
        fun _ => ⟨miller, cover⟩, fun _ h => by simp [before] at h, by rw [miller], by rw [miller], by rw [cover],
        by rw [cover], fun _ => pot, potFrame, port⟩

/-- What a frame of a change of the line mode says of a state that differs after it in the slot alone. -/
theorem ModeFrame.of_port {m : LineMode} {s u t : State} (h : ModeFrame m s u) (after : SameBut [.port] u t)
    (reading : t.port.reading = u.port.reading) : ModeFrame m s t := by
  have phase : t.phase = u.phase := after .phase (by decide)
  have stations : t.stations = u.stations := after .stations (by decide)
  have gathering : t.gathering = u.gathering := after .gathering (by decide)
  have carousel : t.carousel = u.carousel := after .carousel (by decide)
  have format : t.format = u.format := after .format (by decide)
  have glue : t.glue = u.glue := after .glue (by decide)
  have miller : t.miller = u.miller := after .miller (by decide)
  have cover : t.cover = u.cover := after .cover (by decide)
  have pot : t.pot = u.pot := after .pot (by decide)
  have clamps : ∀ p, t.clampAt p = u.clampAt p := fun p => by rw [State.clampAt, State.clampAt, carousel]
  obtain ⟨same, rest⟩ := h
  refine ⟨(same.trans after).mono (by decide), ?_⟩
  unfold PendingTaken at rest ⊢
  rw [phase, stations, gathering, carousel, format, glue, miller, cover, pot, reading]
  exact rest

/-- What a change of the line mode leaves alone (R10, R12, R16, R114, R156). -/
theorem State.changeMode_modeFrame (m : LineMode) (s : State) : ModeFrame m s (s.changeMode m) := by
  refine (s.driven_modeFrame m).of_port (s.changeMode_same m) ?_
  rw [State.changeMode_eq, (State.modeNotices_port m _).2]
  split
  · rfl
  · rw [(State.snapshot_effect _).1]

end Sys2Proof.Machine
end

section
/-!
The bounds that one part of the state keeps by itself: the Phase unit (R1, R11), the Schedule unit (R20, R30, R38), the
cooling queue and the trimmer (R127, R131).
-/

namespace Sys2Proof.Machine

/-! ### The Phase unit (R1, R11) -/

theorem PhaseInv.of_same {s t : State} (h : PhaseInv s) (same : t.phase = s.phase) : PhaseInv t := by
  rw [PhaseInv, same]
  exact h

theorem PhaseInv.changeMode {s : State} (h : PhaseInv s) (m : LineMode) : PhaseInv (s.changeMode m) := by
  obtain ⟨counter, since, comp⟩ := h
  obtain ⟨-, -, -, phase, same, -⟩ := s.changeMode_modeFrame m
  obtain ⟨-, -, -, -, -, -, -, started, -⟩ := s.changeMode_entered m
  refine ⟨by rw [phase]; exact counter, by rw [phase]; exact since, ?_⟩
  by_cases stays : m.acting = false ∨ s.line.mode.acting = true
  · rw [same stays]
    exact comp
  · obtain ⟨-, -, comp'⟩ := started (by simpa using fun h => stays (.inl h)) (by simpa using fun h => stays (.inr h))
    rw [comp']
    exact compFor_le _ _

theorem PhaseInv.raiseCause {s : State} (h : PhaseInv s) (c : Cause) : PhaseInv (s.raiseCause c) := by
  have halted : ∀ u : State, PhaseInv u → PhaseInv u.enterHalt := fun u hu =>
    (hu.of_same (t := u.updLine fun l => { l with haltStart := some u.now }) rfl).changeMode .halted
  unfold State.raiseCause
  have set : PhaseInv (if s.line.causes.has c then s else s.setCauses (s.line.causes.put true c)) :=
    h.of_same (by split <;> simp)
  generalize (if s.line.causes.has c then s else s.setCauses (s.line.causes.put true c)) = u at set ⊢
  dsimp only
  split
  · exact halted u set
  · exact set

theorem PhaseInv.clearCause {s : State} (h : PhaseInv s) (c : Cause) : PhaseInv (s.clearCause c) := h.of_same (by simp)

theorem PhaseInv.change {s : State} (h : PhaseInv s) {t : State} (c : Change s t) : PhaseInv t := by
  have same : ∀ {u : State}, u.phase = s.phase → PhaseInv u := h.of_same
  cases c
  case phase f counter' since' comp' _ =>
    obtain ⟨counter, since, comp⟩ := h
    exact ⟨by rw [State.updPhase_phase]; omega, by rw [State.updPhase_phase]; omega, by rw [State.updPhase_phase]; omega⟩
  case overheat =>
    exact PhaseInv.raiseCause (s := s.updPot fun p => { p with overheat := true, applied := 0, heaterOn := false }) h _
  case jam => exact PhaseInv.raiseCause (s := s.updPhase fun p => { p with jam := true }) h _
  case jamGone => exact PhaseInv.clearCause (s := s.updPhase fun p => { p with jam := false }) h _
  case fault r _ _ =>
    exact PhaseInv.raiseCause (s := s.updTrim fun t => { t with phase := .fault, limitAt := none, cutAt := none, reason := r })
      h _
  case halt c _ => exact h.raiseCause c
  case mode m _ _ _ => exact h.changeMode m
  case warming r _ _ =>
    exact (h.changeMode .warming).of_same rfl
  case resume => exact PhaseInv.changeMode (same (by simp)) .running
  case work same' _ _ => exact same (same' .phase (by decide))
  case fetch => exact same rfl
  case engine => exact same rfl
  all_goals exact same (by simp)

theorem PhaseInv.afterReset (now : Nat) (pins : Pins) (m : Memory) (l : List Instr) :
    PhaseInv (State.afterReset now pins m l) := ⟨Nat.zero_le _, Nat.le_refl _, compFor_le 3000 1200000⟩

/-- Settles O4: every elementary change keeps the bounds of the Phase unit, and so does a reset. -/
theorem stepKeepsPhaseBounds : Obligations.StepKeepsPhaseBounds := by
  intro s t h run
  refine step_keeps (fun hu c => hu.change c) (fun _ _ hu => hu) ?_ ?_ ?_ (fun _ hu => hu) h run
  · exact fun level abortFirst hu =>
      guardInputs_keep (fun hv c => hv.change c) (fun _ hv => hv) (fun c hv => hv.raiseCause c) (fun c hv => hv.clearCause c) hu level abortFirst
  · exact fun a w _ hu => hu
  · exact fun now pins m _ _ => .afterReset now pins m _

/-! ### The Schedule unit (R20, R30, R38) -/

theorem ScheduleInv.of_same {s t : State} (h : ScheduleInv s) (same : t.sched = s.sched) : ScheduleInv t := by
  rw [ScheduleInv, same]
  exact h

theorem serialAfter_ne_zero (w : Word) : serialAfter w ≠ 0 := by
  unfold serialAfter
  split
  · decide
  · next below => exact fun wrapped => below (by bv_omega)

/-- A held ticket changed stays in its place. -/
theorem Schedule.put_indices (u : HeldTicket) (c : Schedule) : (c.put u).held.map (·.index) = c.held.map (·.index) := by
  rw [Schedule.put, List.map_map]
  refine List.map_congr_left fun t _ => ?_
  dsimp only [Function.comp_apply]
  split
  · next same => exact same.symm
  · rfl

theorem State.held_none_iff {s : State} {i : Nat} : s.held i = none ↔ i ∉ s.sched.held.map (·.index) := by
  simp [State.held, Schedule.find, List.find?_eq_none]

theorem ScheduleInv.change {s : State} (h : ScheduleInv s) {t : State} (c : Change s t) : ScheduleInv t := by
  have same : ∀ {u : State}, u.sched = s.sched → ScheduleInv u := h.of_same
  obtain ⟨remakes, serial, once⟩ := h
  cases c
  case putTicket u _ => exact ⟨remakes, serial, by rw [State.updSched_sched, Schedule.put_indices]; exact once⟩
  case removeTicket i => exact ⟨remakes, serial, once.sublist (List.filter_sublist.map _)⟩
  case addTicket t free _ =>
    refine ⟨remakes, serial, ?_⟩
    simp only [State.updSched_sched, List.map_append, List.map_cons, List.map_nil]
    have absent := State.held_none_iff.mp free
    refine List.nodup_append.mpr ⟨once, List.nodup_singleton _, fun i hi j hj eq => absent ?_⟩
    rw [← List.mem_singleton.mp hj, ← eq]
    exact hi
  case cursor => exact ⟨remakes, serial, once⟩
  case remakes l short => exact ⟨short.elim (fun k => k.trans remakes) id, serial, once⟩
  case serial => exact ⟨remakes, serialAfter_ne_zero _, once⟩
  case hold => exact ⟨remakes, serial, once⟩
  case work same' _ _ => exact same (same' .sched (by decide))
  case fetch => exact same rfl
  case engine => exact same rfl
  case fault => exact same (by simp [State.trimFault])
  case warming => exact same (by simp [State.beginWarming])
  all_goals exact same (by simp)

theorem ScheduleInv.afterReset (now : Nat) (pins : Pins) (m : Memory) (l : List Instr) :
    ScheduleInv (State.afterReset now pins m l) := ⟨Nat.zero_le _, show (1 : Word) ≠ 0 by decide, List.nodup_nil⟩

/-- Settles O11: every elementary change keeps the bounds of the Schedule unit, and so does a reset. -/
theorem stepKeepsScheduleBounds : Obligations.StepKeepsScheduleBounds := by
  intro s t h run
  refine step_keeps (fun hu c => hu.change c) (fun _ _ hu => hu) ?_ ?_ ?_ (fun _ hu => hu) h run
  · exact fun level abortFirst hu =>
      guardInputs_keep (fun hv c => hv.change c) (fun _ hv => hv) (fun c hv => hv.of_same (by simp))
        (fun c hv => hv.of_same (by simp)) hu level abortFirst
  · exact fun a w _ hu => hu
  · exact fun now pins m _ _ => .afterReset now pins m _

/-! ### The cooling queue and the trimmer (R127, R131) -/

theorem TrimmerInv.of_same {s t : State} (h : TrimmerInv s) (same : t.trim = s.trim) : TrimmerInv t := by
  rw [TrimmerInv, same]
  exact h

theorem takeCount_le (c : Settings) (q : List QueueEntry) : takeCount c q = 1 ∨ takeCount c q = 2 := by
  unfold takeCount
  (repeat' split) <;> simp

/-- A take by an idle trimmer keeps the bounds. -/
theorem TrimmerInv.takeFrom {s : State} (h : TrimmerInv s) (c : Settings) (k : KnifeSet) (idle : s.trim.phase = .idle)
    (waiting : s.trim.queue ≠ []) : TrimmerInv (s.updTrim (Trimmer.takeFrom s.now c k)) := by
  obtain ⟨queue, -, good, -, -, -, limit, cut, reason⟩ := h
  have sound : s.trim.reason = .noFault := reason.mpr (by rw [idle]; decide)
  have noCut : s.trim.cutAt.isSome = false := by simpa [idle] using cut
  have shorter : (s.trim.queue.drop (takeCount c s.trim.queue)).length ≤ 12 := by rw [List.length_drop]; omega
  have two : ((s.trim.queue.take (takeCount c s.trim.queue)).map QueueEntry.book).length ≤ 2 := by
    rw [List.length_map, List.length_take]
    rcases takeCount_le c s.trim.queue with n | n <;> omega
  have some_taken : (s.trim.queue.take (takeCount c s.trim.queue)).map QueueEntry.book ≠ [] := by
    have pos : 0 < s.trim.queue.length := List.length_pos_iff.mpr waiting
    refine List.ne_nil_of_length_pos ?_
    rw [List.length_map, List.length_take]
    rcases takeCount_le c s.trim.queue with n | n <;> omega
  have left : ∀ e ∈ s.trim.queue.drop (takeCount c s.trim.queue), e.book.good = true := fun e he =>
    good e (List.mem_of_mem_drop he)
  have taken : ∀ b ∈ (s.trim.queue.take (takeCount c s.trim.queue)).map QueueEntry.book, b.good = true := by
    intro b hb
    obtain ⟨e, he, rfl⟩ := List.mem_map.mp hb
    exact good e (List.mem_of_mem_take he)
  unfold TrimmerInv
  rw [State.updTrim_trim, Trimmer.takeFrom]
  dsimp only
  split
  · exact ⟨shorter, two, left, taken, by simp [Trimmer.cutting], fun _ => some_taken, by simp [Trimmer.cutting],
      by simp [Trimmer.cutting], by simp [Trimmer.cutting]⟩
  · exact ⟨shorter, two, left, taken, by simp, fun _ => some_taken, by simp, by simp [noCut], by simp [sound]⟩

theorem TrimmerInv.testTake {s : State} (h : TrimmerInv s) : TrimmerInv s.testTake := by
  unfold State.testTake
  split
  · exact h
  · next e rest queue =>
    split
    · next ready =>
      split
      · exact h.takeFrom _ _ ready.1 (by simp [queue])
      · exact h
    · exact h

/-- CUTTING with the books held keeps the bounds. -/
theorem TrimmerInv.cutting {s : State} (h : TrimmerInv s) (now n : Nat) (books : s.trim.books ≠ []) :
    TrimmerInv (s.updTrim (Trimmer.cutting now n)) := by
  obtain ⟨queue, two, good, goodBooks, -⟩ := h
  exact ⟨queue, two, good, goodBooks, by simp [Trimmer.cutting], fun _ => books, by simp [Trimmer.cutting],
    by simp [Trimmer.cutting], by simp [Trimmer.cutting]⟩

/-- A trimmer returned to IDLE keeps the bounds. -/
theorem TrimmerInv.toIdle {s : State} (h : TrimmerInv s) : TrimmerInv (s.updTrim Trimmer.toIdle) := by
  obtain ⟨queue, -, good, -⟩ := h
  exact ⟨queue, Nat.zero_le _, good, by simp [Trimmer.toIdle], by simp [Trimmer.toIdle], by simp [Trimmer.toIdle],
    by simp [Trimmer.toIdle], by simp [Trimmer.toIdle], by simp [Trimmer.toIdle]⟩

/-- A trimmer left in FAULT with no books has its gate and infeed stop set, and nothing else (R142). -/
theorem Trimmer.emptied_frame (u : Trimmer) :
    u.emptied.queue = u.queue ∧ u.emptied.books = u.books ∧ u.emptied.phase = u.phase ∧ u.emptied.limitAt = u.limitAt ∧
      u.emptied.cutAt = u.cutAt ∧ u.emptied.reason = u.reason := by
  unfold Trimmer.emptied
  split <;> simp

theorem TrimmerInv.change {s : State} (h : TrimmerInv s) {t : State} (c : Change s t) : TrimmerInv t := by
  have same : ∀ {u : State}, u.trim = s.trim → TrimmerInv u := h.of_same
  have whole := h
  obtain ⟨queue, two, good, goodBooks, idle, busy, limit, cut, reason⟩ := h
  cases c
  case take => exact whole.testTake
  case append b fine room =>
    refine ⟨?_, two, ?_, goodBooks, idle, busy, limit, cut, reason⟩
    · simp only [State.updTrim_trim, Trimmer.append, List.length_append, List.length_singleton]
      omega
    · simp only [State.updTrim_trim, Trimmer.append]
      intro e he
      rcases List.mem_append.mp he with he | he
      · exact good e he
      · rw [List.mem_singleton.mp he]
        exact fine
  case eligible n e place =>
    refine ⟨by simpa using queue, two, ?_, goodBooks, idle, busy, limit, cut, reason⟩
    simp only [State.updTrim_trim]
    intro x hx
    rcases List.mem_or_eq_of_mem_set hx with hx | rfl
    · exact good x hx
    · exact good e (List.mem_of_getElem? place)
  case knives => exact ⟨queue, two, good, goodBooks, idle, busy, limit, cut, reason⟩
  case outfeed => exact ⟨queue, two, good, goodBooks, idle, busy, limit, cut, reason⟩
  case cut n positioned => exact whole.cutting _ n (busy (.inl positioned))
  case idle => exact whole.toIdle
  case emptied faulty =>
    refine ⟨?_, ?_, ?_, ?_, ?_, ?_, ?_, ?_, ?_⟩ <;> simp only [State.updTrim_trim, Trimmer.emptied_frame]
    · exact queue
    · exact Nat.zero_le _
    · exact good
    · exact fun b hb => nomatch hb
    · exact fun _ => trivial
    · simp [faulty]
    · exact limit
    · exact cut
    · exact reason
  case fault r acting fault =>
    refine TrimmerInv.of_same
      (s := s.updTrim fun t => { t with phase := .fault, limitAt := none, cutAt := none, reason := r }) ?_
      (by simp [State.trimFault])
    exact ⟨queue, two, good, goodBooks, by simp, by simp, by simp, by simp, by simp [fault]⟩
  case faultToCut n _ books =>
    have cleared : TrimmerInv (s.clearCause .trimmer) := same (by simp)
    exact cleared.cutting _ n (by simpa using books)
  case faultToIdle =>
    have cleared : TrimmerInv (s.clearCause .trimmer) := same (by simp)
    exact cleared.toIdle
  case work same' _ _ => exact same (same' .trim (by decide))
  case fetch => exact same rfl
  case engine => exact same rfl
  case warming => exact same (by simp [State.beginWarming])
  all_goals exact same (by simp)

theorem TrimmerInv.afterReset (now : Nat) (pins : Pins) (m : Memory) (l : List Instr) :
    TrimmerInv (State.afterReset now pins m l) := by
  simp [TrimmerInv, State.afterReset, Trimmer.atReset]

/-- Settles O6: every elementary change keeps the bounds of the queue and the trimmer, and so does a reset. -/
theorem stepKeepsTrimmerBounds : Obligations.StepKeepsTrimmerBounds := by
  intro s t h run
  refine step_keeps (fun hu c => hu.change c) (fun _ _ hu => hu) ?_ ?_ ?_ (fun _ hu => hu) h run
  · exact fun level abortFirst hu =>
      guardInputs_keep (fun hv c => hv.change c) (fun _ hv => hv) (fun c hv => hv.of_same (by simp))
        (fun c hv => hv.of_same (by simp)) hu level abortFirst
  · exact fun a w _ hu => hu
  · exact fun now pins m _ _ => .afterReset now pins m _

end Sys2Proof.Machine
end

section
/-!
The invariants of Line control and of the heater, which follow the line mode (R112, R114, R155 to R167).
-/

namespace Sys2Proof.Machine

/-! ### Causes set and cleared -/

/-- The causes with one more, before the mode is looked at (R161). -/
def State.causeSet (c : Cause) (s : State) : State :=
  if s.line.causes.has c then s else s.setCauses (s.line.causes.put true c)

theorem State.causeSet_effect (c : Cause) (s : State) :
    SameBut [.line] s (s.causeSet c) ∧ (s.causeSet c).line = { s.line with causes := s.line.causes.put true c } := by
  unfold State.causeSet
  split
  · next has => exact ⟨SameBut.refl _ s, by rw [Causes.put_of_has has]⟩
  · refine ⟨fun p hp => ?_, (s.setCauses_effect _).1⟩
    cases p <;> simp [Part.same] at hp ⊢

theorem State.raiseCause_eq (c : Cause) (s : State) :
    s.raiseCause c = if s.line.mode.halts then (s.causeSet c).enterHalt else s.causeSet c := by
  have mode : (s.causeSet c).line.mode = s.line.mode := by rw [(s.causeSet_effect c).2]
  rw [← mode]
  rfl

/-- What the causes with one more have, and an entry to HALTED keeps, a cause reported set has. -/
theorem State.raiseCause_keeps {P : State → Prop} {c : Cause} {s : State} (set : P (s.causeSet c))
    (halt : s.line.mode.halts = true → P (s.causeSet c) →
      P (((s.causeSet c).updLine fun l => { l with haltStart := some (s.causeSet c).now }).changeMode .halted)) :
    P (s.raiseCause c) := by
  rw [State.raiseCause_eq]
  split
  · next halts => exact halt halts set
  · exact set

theorem State.clearCause_line (c : Cause) (s : State) :
    (s.clearCause c).line = { s.line with causes := s.line.causes.put false c } := by
  rw [(s.clearCause_effect c).1]
  split
  · rfl
  · next has =>
    have absent : s.line.causes.put false c = s.line.causes := by
      generalize s.line.causes = x at has ⊢
      obtain ⟨estop, guardOpen, jam, trimmer, coverSequence, overheat, hostHalt⟩ := x
      cases c <;> (simp only [Causes.has, Bool.not_eq_true] at has; subst has; rfl)
    rw [absent]

/-! ### The heater (R112, R114) -/

theorem HeaterInv.of_same {s t : State} (h : HeaterInv s) (pot : t.pot = s.pot) (mode : t.line.mode = s.line.mode) :
    HeaterInv t := by
  rw [HeaterInv, pot, mode]
  exact h

theorem HeaterInv.changeMode {s : State} (h : HeaterInv s) (m : LineMode) : HeaterInv (s.changeMode m) := by
  obtain ⟨computed, applied, -, overheat, on⟩ := h
  obtain ⟨mode, -, -, -, -, -, -, -, -, off, -⟩ := s.changeMode_entered m
  obtain ⟨-, -, -, -, -, -, -, -, -, -, -, -, warm, pot, -⟩ := s.changeMode_modeFrame m
  rw [HeaterInv, mode]
  by_cases cold : m = .cold
  · obtain ⟨applied', on'⟩ := off cold
    rw [applied', on', pot]
    exact ⟨computed, Nat.zero_le _, fun _ => rfl, fun _ => rfl, fun k => by cases k⟩
  · rw [warm cold]
    exact ⟨computed, applied, fun k => absurd k cold, overheat, on⟩

theorem HeaterInv.raiseCause {s : State} (h : HeaterInv s) (c : Cause) : HeaterInv (s.raiseCause c) := by
  obtain ⟨same, line⟩ := s.causeSet_effect c
  have set : HeaterInv (s.causeSet c) := h.of_same (same .pot (by decide)) (by rw [line])
  refine State.raiseCause_keeps (P := HeaterInv) set fun _ _ => ?_
  generalize s.causeSet c = u at set ⊢
  have marked : HeaterInv (u.updLine fun l => { l with haltStart := some u.now }) := set.of_same rfl rfl
  exact marked.changeMode .halted

theorem HeaterInv.clearCause {s : State} (h : HeaterInv s) (c : Cause) : HeaterInv (s.clearCause c) :=
  h.of_same (by simp) (by rw [State.clearCause_line])

theorem LineControl.stopInch_mode (l : LineControl) : l.stopInch.mode = l.mode := by
  unfold LineControl.stopInch
  split <;> rfl

theorem HeaterInv.change {s : State} (h : HeaterInv s) {t : State} (c : Change s t) : HeaterInv t := by
  have same : ∀ {u : State}, u.pot = s.pot → u.line.mode = s.line.mode → HeaterInv u := h.of_same
  have whole := h
  obtain ⟨computed, applied, cold, overheat, on⟩ := h
  cases c
  case sense duty range => exact ⟨range, applied, cold, overheat, on⟩
  case timer => exact ⟨computed, applied, cold, overheat, on⟩
  case period f =>
    refine ⟨computed, ?_, ?_, ?_, by simp⟩ <;> simp only [State.updPot_pot, State.updPot_line, periodDuty]
    · split <;> omega
    · exact fun mode => if_pos (.inl mode)
    · exact fun hot => if_pos (.inr hot)
  case heaterOff => exact ⟨computed, applied, cold, overheat, fun k => by cases k⟩
  case overheat =>
    refine HeaterInv.raiseCause
      (s := s.updPot fun p => { p with overheat := true, applied := 0, heaterOn := false }) ?_ _
    exact ⟨computed, Nat.zero_le _, fun _ => rfl, fun _ => rfl, fun k => by cases k⟩
  case cooled =>
    refine HeaterInv.clearCause (s := s.updPot fun p => { p with overheat := false }) ?_ _
    exact ⟨computed, applied, cold, fun k => absurd k Bool.false_ne_true, on⟩
  case jam => exact HeaterInv.raiseCause (s := s.updPhase fun p => { p with jam := true }) whole _
  case jamGone => exact HeaterInv.clearCause (s := s.updPhase fun p => { p with jam := false }) whole _
  case fault r _ _ =>
    exact HeaterInv.raiseCause
      (s := s.updTrim fun t => { t with phase := .fault, limitAt := none, cutAt := none, reason := r }) whole _
  case faultToCut => exact same (by simp) (by simp [State.clearCause_line])
  case faultToIdle => exact same (by simp) (by simp [State.clearCause_line])
  case halt c _ => exact whole.raiseCause c
  case mode m _ _ _ => exact whole.changeMode m
  case warming r _ _ => exact (whole.changeMode .warming).of_same rfl rfl
  case resume => exact HeaterInv.changeMode (same (by simp) (by simp [State.clearCause_line])) .running
  case stopInch => exact same rfl (by simp [LineControl.stopInch_mode])
  case work same' _ _ => exact same (same' .pot (by decide)) (by rw [show t.line = s.line from same' .line (by decide)])
  case fetch => exact same rfl rfl
  case engine => exact same rfl rfl
  all_goals exact same (by simp) (by simp)

theorem HeaterInv.afterReset (now : Nat) (pins : Pins) (m : Memory) (l : List Instr) :
    HeaterInv (State.afterReset now pins m l) := by
  simp [HeaterInv, State.afterReset, GluePot.atReset]

/-- Settles O7: every elementary change keeps the duties, and so does a reset. -/
theorem stepKeepsHeaterDuty : Obligations.StepKeepsHeaterDuty := by
  intro s t h run
  refine step_keeps (fun hu c => hu.change c) (fun _ _ hu => hu) ?_ ?_ ?_ (fun _ hu => hu) h run
  · exact fun level abortFirst hu =>
      guardInputs_keep (fun hv c => hv.change c) (fun _ hv => hv) (fun c hv => hv.raiseCause c) (fun c hv => hv.clearCause c)
        hu level abortFirst
  · exact fun a w _ hu => hu
  · exact fun now pins m _ _ => .afterReset now pins m _

/-! ### The times of Line control (R155, R159, R162, R164, R167) -/

theorem TimerInv.of_same {s t : State} (h : TimerInv s) (line : t.line = { s.line with
    causes := t.line.causes, drive := t.line.drive, reference := t.line.reference }) : TimerInv t := by
  have mode : t.line.mode = s.line.mode := by rw [line]
  have haltStart : t.line.haltStart = s.line.haltStart := by rw [line]
  have stableAt : t.line.stableAt = s.line.stableAt := by rw [line]
  have runWhenReady : t.line.runWhenReady = s.line.runWhenReady := by rw [line]
  have restAt : t.line.restAt = s.line.restAt := by rw [line]
  have idle : t.line.idle = s.line.idle := by rw [line]
  rw [TimerInv, mode, haltStart, stableAt, runWhenReady, restAt, idle]
  exact h

/-- A change of the line mode keeps the times when the halt start time is already that of the mode entered. -/
theorem State.changeMode_timers {s : State} (m : LineMode) (marked : s.line.runWhenReady = true → s.line.mode = .warming)
    (idle : s.line.idle ≤ 65535) (halted : s.line.haltStart.isSome = true ↔ m = .halted) : TimerInv (s.changeMode m) := by
  rw [TimerInv, State.changeMode_line]
  refine ⟨halted, ?_, ?_, ?_, ?_⟩
  · cases m <;> simp [changeTimers]
  · dsimp only [changeTimers]
    split
    · exact fun k => by cases k
    · next other => exact fun k => absurd (marked k) other
  · cases m <;> simp [changeTimers]
  · dsimp only [changeTimers]
    split <;> omega

theorem TimerInv.raiseCause {s : State} (h : TimerInv s) (c : Cause) : TimerInv (s.raiseCause c) := by
  obtain ⟨-, line⟩ := s.causeSet_effect c
  refine State.raiseCause_keeps (P := TimerInv) (h.of_same (by rw [line])) fun _ set => ?_
  obtain ⟨-, -, marked, -, idle⟩ := set
  exact State.changeMode_timers .halted marked idle (by simp)

theorem TimerInv.clearCause {s : State} (h : TimerInv s) (c : Cause) : TimerInv (s.clearCause c) :=
  h.of_same (by rw [State.clearCause_line])

theorem TimerInv.change {s : State} (h : TimerInv s) {t : State} (c : Change s t) : TimerInv t := by
  have same : ∀ {u : State}, u.line = s.line → TimerInv u := fun eq => h.of_same (by rw [eq])
  have whole := h
  obtain ⟨halted, stable, marked, rest, idle⟩ := h
  have noHalt : ∀ {m : LineMode}, s.line.mode ≠ .halted → m ≠ .halted →
      (s.line.haltStart.isSome = true ↔ m = .halted) := fun before after =>
    iff_of_false (fun k => before (halted.mp k)) after
  cases c
  case overheat =>
    exact TimerInv.raiseCause (s := s.updPot fun p => { p with overheat := true, applied := 0, heaterOn := false }) whole _
  case cooled => exact TimerInv.clearCause (s := s.updPot fun p => { p with overheat := false }) whole _
  case jam => exact TimerInv.raiseCause (s := s.updPhase fun p => { p with jam := true }) whole _
  case jamGone => exact TimerInv.clearCause (s := s.updPhase fun p => { p with jam := false }) whole _
  case fault r _ _ =>
    exact TimerInv.raiseCause
      (s := s.updTrim fun t => { t with phase := .fault, limitAt := none, cutAt := none, reason := r }) whole _
  case faultToCut => exact whole.of_same (by simp [State.clearCause_line])
  case faultToIdle => exact whole.of_same (by simp [State.clearCause_line])
  case halt c _ => exact whole.raiseCause c
  case mode m before after _ => exact State.changeMode_timers m marked idle (noHalt before after)
  case warming r before _ =>
    obtain ⟨halted', stable', -, rest', idle'⟩ :=
      State.changeMode_timers (s := s) .warming marked idle (noHalt before (by decide))
    have mode := (s.changeMode_entered .warming).1
    exact ⟨halted', stable', fun _ => mode, rest', idle'⟩
  case resume =>
    refine State.changeMode_timers .running ?_ ?_ (by simp)
    · simpa [State.clearCause_line] using marked
    · simpa [State.clearCause_line] using idle
  case runWhenReady warming => exact ⟨halted, stable, fun _ => warming, rest, idle⟩
  case stable warming => exact ⟨halted, fun _ => warming, marked, rest, idle⟩
  case idleCount range => exact ⟨halted, stable, marked, rest, range⟩
  case inch => exact ⟨halted, stable, marked, rest, idle⟩
  case stopInch =>
    refine whole.of_same ?_
    simp only [State.updLine_line, LineControl.stopInch]
    split <;> rfl
  case work same' _ _ => exact same (same' .line (by decide))
  case fetch => exact same rfl
  case engine => exact same rfl
  all_goals exact same (by simp)

/-! ### The halt causes (R157, R161) -/

/-- The halt causes as their sources have them, ESTOP and GUARD as told (R161). -/
abbrev CauseSources (estop guardOpen : Bool) (s : State) : Prop :=
  s.line.causes.estop = estop ∧ s.line.causes.guardOpen = guardOpen ∧ s.line.causes.jam = s.phase.jam ∧
    s.line.causes.overheat = s.pot.overheat ∧ (s.line.causes.trimmer = true ↔ s.trim.phase = .fault)

/-- The halt causes as their sources have them, and none in a mode that halts (R157, R161). -/
abbrev CausesAt (estop guardOpen : Bool) (s : State) : Prop :=
  CauseSources estop guardOpen s ∧ (s.line.mode.halts = true → s.line.causes.any = false)

section
variable {e g : Bool}

theorem CauseSources.of_same {s t : State} (h : CauseSources e g s) (causes : t.line.causes = s.line.causes)
    (jam : t.phase.jam = s.phase.jam) (overheat : t.pot.overheat = s.pot.overheat) (trim : t.trim.phase = s.trim.phase) :
    CauseSources e g t := by
  rw [CauseSources, causes, jam, overheat, trim]
  exact h

theorem CausesAt.of_same {s t : State} (h : CausesAt e g s) (causes : t.line.causes = s.line.causes)
    (mode : t.line.mode = s.line.mode) (jam : t.phase.jam = s.phase.jam) (overheat : t.pot.overheat = s.pot.overheat)
    (trim : t.trim.phase = s.trim.phase) : CausesAt e g t := by
  refine ⟨h.1.of_same causes jam overheat trim, ?_⟩
  rw [causes, mode]
  exact h.2

/-- A change of the line mode keeps the causes, where the mode entered goes with them. -/
theorem CauseSources.changeMode {s : State} (h : CauseSources e g s) (m : LineMode)
    (calm : m.halts = true → s.line.causes.any = false) : CausesAt e g (s.changeMode m) := by
  obtain ⟨-, -, -, phase, -, -, -, -, -, -, -, -, -, pot, -⟩ := s.changeMode_modeFrame m
  refine ⟨h.of_same (State.changeMode_causes m s) (by rw [phase]) (by rw [pot]) (by simp), ?_⟩
  rw [(s.changeMode_entered m).1, State.changeMode_causes]
  exact calm

/-- A cause that its source has too joins the others; from a mode that halts the line is halted. -/
theorem CauseSources.raiseCause {s : State} (c : Cause)
    (h : CauseSources e g (s.updLine fun l => { l with causes := s.line.causes.put true c })) :
    CausesAt e g (s.raiseCause c) := by
  obtain ⟨same, line⟩ := s.causeSet_effect c
  have phase : (s.causeSet c).phase = s.phase := same .phase (by decide)
  have pot : (s.causeSet c).pot = s.pot := same .pot (by decide)
  have trim : (s.causeSet c).trim = s.trim := same .trim (by decide)
  have set : CauseSources e g (s.causeSet c) := h.of_same (by rw [line]; rfl) (by rw [phase]; rfl) (by rw [pot]; rfl)
    (by rw [trim]; rfl)
  rw [State.raiseCause_eq]
  split
  · generalize s.causeSet c = u at set ⊢
    have marked : CauseSources e g (u.updLine fun l => { l with haltStart := some u.now }) := set.of_same rfl rfl rfl rfl
    exact marked.changeMode .halted fun k => by cases k
  · next calm => exact ⟨set, fun k => absurd (by rw [line] at k; exact k) calm⟩

theorem Causes.any_put_false {x : Causes} {c : Cause} (h : x.any = false) : (x.put false c).any = false := by
  obtain ⟨estop, guardOpen, jam, trimmer, coverSequence, overheat, hostHalt⟩ := x
  simp only [Causes.any, Bool.or_eq_false_iff] at h
  cases c <;> simp [Causes.any, Causes.put, h]

/-- A cause that its source has no more goes from the others; the mode stays. -/
theorem CausesAt.clearCause {s : State} (c : Cause)
    (h : CauseSources e g (s.updLine fun l => { l with causes := s.line.causes.put false c }))
    (calm : s.line.mode.halts = true → s.line.causes.any = false) : CausesAt e g (s.clearCause c) := by
  refine ⟨h.of_same (by rw [State.clearCause_line]; rfl) (by simp) (by simp) (by simp), ?_⟩
  rw [State.clearCause_line]
  exact fun k => Causes.any_put_false (calm k)

theorem State.testTake_trimPhase (s : State) : s.testTake.trim.phase = .fault ↔ s.trim.phase = .fault := by
  unfold State.testTake
  split
  · exact Iff.rfl
  · split
    · next ready =>
      split
      · rw [State.updTrim_trim, Trimmer.takeFrom]
        dsimp only
        split <;> simp [Trimmer.cutting, ready.1]
      · exact Iff.rfl
    · exact Iff.rfl

/-- A trimmer out of FAULT takes its cause away with it (R137, R139). -/
theorem CausesAt.recovered {s : State} (h : CausesAt e g s) {f : Trimmer → Trimmer} (sound : (f s.trim).phase ≠ .fault) :
    CausesAt e g ((s.clearCause .trimmer).updTrim f) := by
  obtain ⟨⟨estop, guardOpen, jam, overheat, -⟩, calm⟩ := h
  have trim : (s.clearCause .trimmer).trim = s.trim := by simp
  have phase : (s.clearCause .trimmer).phase = s.phase := by simp
  have pot : (s.clearCause .trimmer).pot = s.pot := by simp
  simp only [CausesAt, CauseSources, State.updTrim_trim, State.updTrim_line, State.updTrim_phase, State.updTrim_pot, trim,
    phase, pot, State.clearCause_line]
  exact ⟨⟨estop, guardOpen, jam, overheat, iff_of_false Bool.false_ne_true sound⟩, fun k => Causes.any_put_false (calm k)⟩

theorem CausesAt.change {s : State} (h : CausesAt e g s) {t : State} (c : Change s t) : CausesAt e g t := by
  have same : ∀ {u : State}, u.line = s.line → u.phase = s.phase → u.pot = s.pot → u.trim.phase = s.trim.phase →
      CausesAt e g u := fun line phase pot trim => h.of_same (by rw [line]) (by rw [line]) (by rw [phase]) (by rw [pot]) trim
  have whole := h
  obtain ⟨⟨estop, guardOpen, jam, overheat, trimmer⟩, calm⟩ := h
  have unfaulted : ∀ {u : State}, u.line = s.line → u.phase = s.phase → u.pot = s.pot →
      (u.trim.phase = .fault ↔ s.trim.phase = .fault) → CausesAt e g u := by
    intro u line phase pot trim
    rw [CausesAt, CauseSources, line, phase, pot, trim]
    exact whole
  cases c
  case overheat => exact CauseSources.raiseCause _ ⟨estop, guardOpen, jam, rfl, trimmer⟩
  case cooled => exact CausesAt.clearCause _ ⟨estop, guardOpen, jam, rfl, trimmer⟩ calm
  case jam => exact CauseSources.raiseCause _ ⟨estop, guardOpen, rfl, overheat, trimmer⟩
  case jamGone => exact CausesAt.clearCause _ ⟨estop, guardOpen, rfl, overheat, trimmer⟩ calm
  case fault r _ _ =>
    exact CauseSources.raiseCause _ ⟨estop, guardOpen, jam, overheat, iff_of_true rfl rfl⟩
  case faultToCut n _ _ => exact whole.recovered (by simp [Trimmer.cutting])
  case faultToIdle => exact whole.recovered (by simp [Trimmer.toIdle])
  case halt c own =>
    rcases own with rfl | rfl <;> exact CauseSources.raiseCause _ ⟨estop, guardOpen, jam, overheat, trimmer⟩
  case mode m _ _ quiet =>
    exact whole.1.changeMode m fun k => (quiet k).elim calm id
  case warming r _ quiet => exact (whole.1.changeMode .warming fun _ => quiet).of_same rfl rfl rfl rfl rfl
  case resume _ free =>
    have causes : ((s.clearCause .coverSequence).clearCause .hostHalt).line.causes =
        (s.line.causes.put false .coverSequence).put false .hostHalt := by
      rw [State.clearCause_line, State.clearCause_line]
    refine CauseSources.changeMode ?_ .running fun _ => ?_
    · rw [CauseSources, State.updLine_line]
      dsimp only
      rw [causes]
      simpa [Causes.put] using whole.1
    · rw [State.updLine_line]
      dsimp only
      rw [causes]
      simp only [Causes.blocking, Bool.or_eq_false_iff] at free
      simp [Causes.any, Causes.put, free]
  case stopInch => exact whole.of_same (by simp [LineControl.stopInch_causes]) (by simp [LineControl.stopInch_mode]) rfl rfl rfl
  case work same' _ _ =>
    exact same (same' .line (by decide)) (same' .phase (by decide)) (same' .pot (by decide))
      (by rw [show t.trim = s.trim from same' .trim (by decide)])
  case phase f _ _ _ jam' => exact whole.of_same rfl rfl jam' rfl rfl
  case take => exact unfaulted (by simp) (by simp) (by simp) s.testTake_trimPhase
  case cut positioned => exact unfaulted rfl rfl rfl (by simp [Trimmer.cutting, positioned])
  case append => exact whole.of_same rfl rfl rfl rfl rfl
  case emptied => exact whole.of_same rfl rfl rfl rfl (by rw [State.updTrim_trim, (Trimmer.emptied_frame _).2.2.1])
  case idle sound => exact unfaulted rfl rfl rfl (by simp [Trimmer.toIdle, sound])
  case fetch => exact same rfl rfl rfl rfl
  case engine => exact same rfl rfl rfl rfl
  all_goals exact whole.of_same (by simp) (by simp) (by simp) (by simp) (by simp)

end

/-- The levels of the two guard inputs (R161). -/
abbrev PinsAt (e g : Bool) (s : State) : Prop := s.pins.estop = e ∧ s.pins.guardOpen = g

theorem PinsAt.change {e g : Bool} {s : State} (h : PinsAt e g s) {t : State} (c : Change s t) : PinsAt e g t := by
  have same : ∀ {u : State}, u.pins = s.pins → PinsAt e g u := fun pins => by rw [PinsAt, pins]; exact h
  cases c
  case pins f estop guardOpen => exact ⟨estop.trans h.1, guardOpen.trans h.2⟩
  case work same' _ _ => exact same (same' .pins (by decide))
  case fetch => exact same rfl
  case engine => exact same rfl
  case fault => exact same (by simp [State.trimFault])
  case warming => exact same (by simp [State.beginWarming])
  all_goals exact same (by simp)

theorem causeInv_iff {s : State} : CauseInv s ↔ CausesAt s.pins.estop s.pins.guardOpen s := by
  simp only [CauseInv, CausesAt, CauseSources, and_assoc]

/-- The two levels and the causes agree: what an elementary change keeps. -/
theorem CauseInv.change {s : State} (h : CauseInv s) {t : State} (c : Change s t) : CauseInv t := by
  obtain ⟨estop, guardOpen⟩ := PinsAt.change (s := s) ⟨rfl, rfl⟩ c
  rw [causeInv_iff, estop, guardOpen]
  exact (causeInv_iff.mp h).change c

/-- The trimmer's answer to a guard input is a sequence of elementary changes. -/
theorem State.guardTrimmer_reaches (already : Bool) (s : State) : Reaches s (s.guardTrimmer already) :=
  Reaches.ite .refl (s.abortTrimmer_reaches.trans (State.emptyingCheck_reaches _))

theorem CausesAt.guardTrimmer {e g : Bool} {s : State} (h : CausesAt e g s) (already : Bool) :
    CausesAt e g (s.guardTrimmer already) :=
  Reaches.keeps (fun hu c => hu.change c) h (s.guardTrimmer_reaches already)

/-- ESTOP or GUARD set joins the causes, whatever the order of the halt and the abort. -/
theorem CausesAt.guardSet {e g e' g' : Bool} {s : State} (h : CausesAt e g s) (c : Cause) (abortFirst : Bool)
    (joins : ∀ {u : State}, CausesAt e g u → CausesAt e' g' (u.raiseCause c)) : CausesAt e' g' (s.guardSet c abortFirst) := by
  unfold State.guardSet
  dsimp only
  split
  · exact joins (h.guardTrimmer _)
  · exact (joins h).guardTrimmer _

theorem State.guardSet_pins (c : Cause) (abortFirst : Bool) (s : State) : (s.guardSet c abortFirst).pins = s.pins := by
  have trimmer : ∀ (b : Bool) (u : State), (u.guardTrimmer b).pins = u.pins := fun b u => by
    unfold State.guardTrimmer
    split <;> simp
  unfold State.guardSet
  dsimp only
  split <;> simp [trimmer]

theorem CauseInv.estopLevel {s : State} (h : CauseInv s) (active abortFirst : Bool) :
    CauseInv (s.estopLevel active abortFirst) := by
  have causes := causeInv_iff.mp h
  unfold State.estopLevel
  dsimp only
  split
  · exact h
  · split
    · next on =>
      refine CauseInv.change (s := (s.updPins fun p => { p with estop := active }).guardSet .estop abortFirst) ?_ .stopInch
      rw [causeInv_iff, State.guardSet_pins]
      refine CausesAt.guardSet (s := s.updPins fun p => { p with estop := active }) causes .estop abortFirst fun hu => ?_
      obtain ⟨⟨-, guardOpen, jam, overheat, trimmer⟩, -⟩ := hu
      exact CauseSources.raiseCause _ ⟨on.symm, guardOpen, jam, overheat, trimmer⟩
    · next off =>
      refine CauseInv.change ?_ .take
      obtain ⟨⟨-, guardOpen, jam, overheat, trimmer⟩, calm⟩ := causes
      rw [causeInv_iff]
      have released : active = false := by simpa using off
      have pins : ((s.updPins fun p => { p with estop := active }).clearCause .estop).pins =
          { s.pins with estop := active } := by simp
      rw [pins]
      exact CausesAt.clearCause _ ⟨released.symm, guardOpen, jam, overheat, trimmer⟩ calm

theorem CauseInv.guardLevel {s : State} (h : CauseInv s) (opened abortFirst : Bool) :
    CauseInv (s.guardLevel opened abortFirst) := by
  have causes := causeInv_iff.mp h
  unfold State.guardLevel
  dsimp only
  split
  · exact h
  · split
    · next on =>
      rw [causeInv_iff, State.guardSet_pins]
      refine CausesAt.guardSet (s := s.updPins fun p => { p with guardOpen := opened }) causes .guardOpen abortFirst
        fun hu => ?_
      obtain ⟨⟨estop, -, jam, overheat, trimmer⟩, -⟩ := hu
      exact CauseSources.raiseCause _ ⟨estop, on.symm, jam, overheat, trimmer⟩
    · next off =>
      refine CauseInv.change ?_ .take
      obtain ⟨⟨estop, -, jam, overheat, trimmer⟩, calm⟩ := causes
      rw [causeInv_iff]
      have closed : opened = false := by simpa using off
      have pins : ((s.updPins fun p => { p with guardOpen := opened }).clearCause .guardOpen).pins =
          { s.pins with guardOpen := opened } := by simp
      rw [pins]
      exact CausesAt.clearCause _ ⟨estop, closed.symm, jam, overheat, trimmer⟩ calm

theorem CauseInv.afterReset (now : Nat) (pins : Pins) (m : Memory) (l : List Instr) :
    CauseInv (State.afterReset now pins m l) := by
  simp [CauseInv, State.afterReset, PhaseUnit.atReset, GluePot.atReset, Trimmer.atReset, LineControl.atReset,
    Causes.atReset, LineMode.halts]

theorem TimerInv.afterReset (now : Nat) (pins : Pins) (m : Memory) (l : List Instr) :
    TimerInv (State.afterReset now pins m l) := by
  simp [TimerInv, State.afterReset, LineControl.atReset]

/-- Settles O9: every elementary change keeps the causes with their sources and the times with their modes, and so do the
two guard inputs and a reset. -/
theorem stepKeepsLineControl : Obligations.StepKeepsLineControl := by
  refine ⟨?_, ?_⟩
  · intro s t h run
    refine step_keeps (fun hu c => hu.change c) (fun _ _ hu => hu) ?_ ?_ ?_ (fun _ hu => hu) h run
    · exact fun level abortFirst hu => ⟨hu.estopLevel level abortFirst, hu.guardLevel level abortFirst⟩
    · exact fun a w _ hu => hu
    · exact fun now pins m _ _ => .afterReset now pins m _
  · intro s t h run
    refine step_keeps (fun hu c => hu.change c) (fun _ _ hu => hu) ?_ ?_ ?_ (fun _ hu => hu) h run
    · exact fun level abortFirst hu =>
        guardInputs_keep (fun hv c => hv.change c) (fun _ hv => hv) (fun c hv => hv.raiseCause c)
          (fun c hv => hv.clearCause c) hu level abortFirst
    · exact fun a w _ hu => hu
    · exact fun now pins m _ _ => .afterReset now pins m _

end Sys2Proof.Machine
end

section
/-!
The stations and the drive follow the line mode (R12, R156, R158, R169).
-/

namespace Sys2Proof.Machine

/-! ### Stations at rest (R12) -/

/-- A station that serves is engaged, one that is not is at rest, and so is reject gate 1 between events (R12). -/
abbrev StationsSound (s : State) : Prop :=
  (∀ w ∈ s.stations.serving, w ∈ s.stations.engaged) ∧ (∀ w, w ∉ s.stations.engaged → AtRest s w) ∧
    s.carousel.gate1 = .toReject

theorem StationsSound.of_stations {s t : State} (h : StationsSound s) (stations : t.stations = s.stations)
    (rest : ∀ w, AtRest s w → AtRest t w) (gate : t.carousel.gate1 = s.carousel.gate1) : StationsSound t := by
  obtain ⟨serving, idle, gate1⟩ := h
  rw [StationsSound, stations, gate]
  exact ⟨serving, fun w out => rest w (idle w out), gate1⟩

/-- The parts that hold the work of the stations. -/
theorem AtRest.of_parts {s t : State} {w : Window} (h : AtRest s w) (pockets : t.gathering.pockets = s.gathering.pockets)
    (gauge : t.format.gauge = s.format.gauge) (miller : t.miller.integrating = s.miller.integrating)
    (glue : t.glue = s.glue) (fed : t.cover.fed = s.cover.fed) (nip : t.cover.nipClosed = s.cover.nipClosed) :
    AtRest t w := by
  cases w <;> simp only [AtRest, pockets, gauge, miller, glue, fed, nip] at h ⊢ <;> exact h

theorem StationsSound.of_same {ps : List Part} {s t : State} (h : StationsSound s) (same : SameBut ps s t)
    (apart : ∀ p ∈ [Part.stations, .gathering, .carousel, .format, .miller, .glue, .cover], p ∉ ps) : StationsSound t := by
  have gathering : t.gathering = s.gathering := same .gathering (apart _ (by decide))
  have format : t.format = s.format := same .format (apart _ (by decide))
  have miller : t.miller = s.miller := same .miller (apart _ (by decide))
  have cover : t.cover = s.cover := same .cover (apart _ (by decide))
  have carousel : t.carousel = s.carousel := same .carousel (apart _ (by decide))
  exact h.of_stations (same .stations (apart _ (by decide)))
    (fun w rest => rest.of_parts (by rw [gathering]) (by rw [format]) (by rw [miller]) (same .glue (apart _ (by decide)))
      (by rw [cover]) (by rw [cover])) (by rw [carousel])

theorem State.restStation_atRest (w : Window) (s : State) : AtRest (s.restStation w) w := by
  cases w <;> simp [AtRest, State.restStation, FormatUnit.endSequence, Valve.atRest]

theorem State.restStation_keeps_rest {w v : Window} {s : State} (h : AtRest s v) : AtRest (s.restStation w) v := by
  by_cases same : v = w
  · rw [same]
    exact s.restStation_atRest w
  · cases v <;> simp only [AtRest] at h ⊢ <;> cases w <;> first | exact absurd rfl same | simpa [State.restStation] using h

theorem State.disengage_keeps_gate {w : Window} {s : State} (h : s.carousel.gate1 = .toReject) :
    (s.disengage w).carousel.gate1 = .toReject := by
  unfold State.disengage
  split
  · cases w <;> simp [State.restStation, h]
  · exact h

theorem StationsSound.disengage {s : State} (h : StationsSound s) (w : Window) : StationsSound (s.disengage w) := by
  obtain ⟨serving, idle, gate1⟩ := h
  refine ⟨fun v hv => ?_, fun v out => ?_, State.disengage_keeps_gate gate1⟩
  · rw [State.disengage_engaged, List.mem_filter]
    unfold State.disengage State.isEngaged at hv
    split at hv
    · have kept : v ∈ (Stations.drop w s.stations).serving := by
        have frame : ((s.updStations (Stations.drop w)).restStation w).stations = Stations.drop w s.stations := by simp
        rwa [frame] at hv
      obtain ⟨served, other⟩ := List.mem_filter.mp kept
      exact ⟨serving v served, other⟩
    · next out =>
      exact ⟨serving v hv, decide_eq_true fun eq => out (decide_eq_true (eq ▸ serving v hv))⟩
  · rw [State.disengage_engaged, List.mem_filter, not_and] at out
    unfold State.disengage State.isEngaged
    split
    · by_cases same : v = w
      · rw [same]
        exact State.restStation_atRest w _
      · refine State.restStation_keeps_rest (s := s.updStations (Stations.drop w)) ?_
        exact idle v fun engaged => out engaged (decide_eq_true same)
    · next free =>
      exact idle v fun engaged => out engaged (decide_eq_true fun eq => free (decide_eq_true (eq ▸ engaged)))

theorem StationsSound.disengageAll {s : State} (h : StationsSound s) : StationsSound s.disengageAll := by
  unfold State.disengageAll
  induction allWindows generalizing s with
  | nil => exact h
  | cons w l ih => exact ih (h.disengage w)

/-- The pending changeovers move the two drives, not the work. -/
theorem PendingTaken.atRest {s t : State} (h : PendingTaken s t) {w : Window} (rest : AtRest s w)
    (pockets : t.gathering.pockets = s.gathering.pockets) (gauge : t.format.gauge = s.format.gauge)
    (glue : t.glue = s.glue) : AtRest t w := by
  obtain ⟨miller, cover⟩ := h
  refine rest.of_parts pockets gauge ?_ glue ?_ ?_
  · rw [miller]; split <;> rfl
  · rw [cover]; split <;> rfl
  · rw [cover]; split <;> rfl

theorem StationsSound.driven {s : State} (h : StationsSound s) (m : LineMode) : StationsSound (s.driven m) := by
  have marked : StationsSound (s.marked m) := h.of_same (s.marked_same m) (by decide)
  cases after : m.acting
  · rw [State.driven_eq, State.changeDrive_rests _ after]
    have stopped : SameBut [.line] (s.marked m) (s.marked m).stopDrive := fun p hp => by
      cases p <;> simp [Part.same, State.stopDrive] at hp ⊢
    have resting : StationsSound (s.marked m).stopDrive := marked.of_same stopped (by decide)
    have rested : StationsSound
        (if s.line.mode.acting then (s.marked m).stopDrive.disengageAll else (s.marked m).stopDrive) := by
      split
      · exact resting.disengageAll
      · exact resting
    exact rested.of_same (State.modeHeater_effect m _).1 (by decide)
  · cases before : s.line.mode.acting
    · obtain ⟨same, pending, -⟩ := s.driven_starts before after
      have gathering : (s.driven m).gathering = s.gathering := same .gathering (by decide)
      have format : (s.driven m).format = s.format := same .format (by decide)
      have carousel : (s.driven m).carousel = s.carousel := same .carousel (by decide)
      exact h.of_stations (same .stations (by decide))
        (fun w rest => pending.atRest rest (by rw [gathering]) (by rw [format]) (same .glue (by decide))) (by rw [carousel])
    · exact h.of_same (s.driven_stays before after) (by decide)

theorem StationsSound.changeMode {s : State} (h : StationsSound s) (m : LineMode) : StationsSound (s.changeMode m) :=
  (h.driven m).of_same (s.changeMode_same m) (by decide)

/-! ### The drive (R156, R158, R169) -/

/-- The engaged stations, the drive and its speed reference follow the mode (R12, R156, R158, R169). -/
abbrev DriveInv (s : State) : Prop :=
  (s.line.mode.acting = false → s.stations.engaged = []) ∧ (s.line.drive = .running ↔ s.line.mode.acting = true) ∧
    (s.line.drive = .inching → s.line.mode = .halted) ∧
    s.line.reference = (if s.line.mode.acting then some s.config.settings.speed else none)

/-- A change of the line mode gives the drive what the mode entered has. -/
theorem DriveInv.changeMode {s : State} (h : DriveInv s) (m : LineMode) : DriveInv (s.changeMode m) := by
  obtain ⟨resting, running, -, reference⟩ := h
  obtain ⟨mode, -, drive, given, -, -, -, -, stop, -⟩ := s.changeMode_entered m
  obtain ⟨same, -, -, -, -, kept, -⟩ := s.changeMode_modeFrame m
  have config : (s.changeMode m).config = s.config := by simp
  rw [DriveInv, mode, drive, given, config]
  cases after : m.acting
  · refine ⟨fun _ => ?_, by simp, by simp, by simp⟩
    cases before : s.line.mode.acting
    · rw [(kept (.inr before)).1]
      exact resting before
    · exact stop after before
  · cases before : s.line.mode.acting
    · simp
    · have driving := running.mpr before
      simp [driving, reference, before]

theorem stationInv_iff {s : State} : StationInv s ↔ StationsSound s ∧ DriveInv s := by
  constructor
  · rintro ⟨acting, serving, pocket, gauge, mill, spine, side, fed, nip, gate, running, inching, reference⟩
    refine ⟨⟨serving, fun w out => ?_, gate⟩, acting, running, inching, reference⟩
    cases w
    case pocket => exact fun k => Option.not_isSome_iff_eq_none.mp fun on => out (pocket k on)
    case gauge => exact Option.not_isSome_iff_eq_none.mp fun on => out (gauge on)
    case mill => exact Bool.eq_false_iff.mpr fun on => out (mill on)
    case spineGlue => exact Bool.eq_false_iff.mpr fun on => out (spine on)
    case sideGlue => exact Bool.eq_false_iff.mpr fun on => out (side on)
    case cover => exact Option.not_isSome_iff_eq_none.mp fun on => out (fed on)
    case nip => exact Bool.eq_false_iff.mpr fun on => out (nip on)
    all_goals trivial
  · rintro ⟨⟨serving, rest, gate⟩, acting, running, inching, reference⟩
    refine ⟨acting, serving, fun k on => ?_, fun on => ?_, fun on => ?_, fun on => ?_, fun on => ?_, fun on => ?_,
      fun on => ?_, gate, running, inching, reference⟩
    all_goals refine by_contra fun out => ?_
    · have := rest _ out k; rw [this] at on; cases on
    · have := rest _ out; simp [AtRest] at this; simp [this] at on
    · have := rest _ out; simp [AtRest] at this; simp [this] at on
    · have := rest _ out; simp [AtRest] at this; simp [this] at on
    · have := rest _ out; simp [AtRest] at this; simp [this] at on
    · have := rest _ out; simp [AtRest] at this; simp [this] at on
    · have := rest _ out; simp [AtRest] at this; simp [this] at on

/-! ### Every elementary change -/

theorem DriveInv.of_same {s t : State} (h : DriveInv s) (engaged : t.stations.engaged = s.stations.engaged)
    (config : t.config = s.config) (mode : t.line.mode = s.line.mode) (drive : t.line.drive = s.line.drive)
    (reference : t.line.reference = s.line.reference) : DriveInv t := by
  rw [DriveInv, engaged, config, mode, drive, reference]
  exact h

/-- The stations and the drive follow the mode, in parts. -/
abbrev Follows (s : State) : Prop := StationsSound s ∧ DriveInv s

theorem Follows.of_same {ps : List Part} {s t : State} (h : Follows s) (same : SameBut ps s t)
    (apart : ∀ p ∈ [Part.stations, .gathering, .carousel, .format, .miller, .glue, .cover, .config], p ∉ ps)
    (mode : t.line.mode = s.line.mode) (drive : t.line.drive = s.line.drive)
    (reference : t.line.reference = s.line.reference) : Follows t := by
  refine ⟨h.1.of_same same fun p hp => apart p ?_, h.2.of_same ?_ (same .config (apart _ (by decide))) mode drive reference⟩
  · exact List.mem_append_left [Part.config] hp
  · rw [show t.stations = s.stations from same .stations (apart _ (by decide))]

theorem Follows.updTrim {s : State} (h : Follows s) (f : Trimmer → Trimmer) : Follows (s.updTrim f) := h

theorem Follows.runWhenReady {s : State} (h : Follows s) (r : Bool) :
    Follows (s.updLine fun l => { l with runWhenReady := r }) := h

theorem Follows.changeMode {s : State} (h : Follows s) (m : LineMode) : Follows (s.changeMode m) :=
  ⟨h.1.changeMode m, h.2.changeMode m⟩

theorem Follows.raiseCause {s : State} (h : Follows s) (c : Cause) : Follows (s.raiseCause c) := by
  obtain ⟨same, line⟩ := s.causeSet_effect c
  have set : Follows (s.causeSet c) := h.of_same same (by decide) (by rw [line]) (by rw [line]) (by rw [line])
  refine State.raiseCause_keeps (P := Follows) set fun _ _ => ?_
  generalize s.causeSet c = u at set ⊢
  have marked : Follows (u.updLine fun l => { l with haltStart := some u.now }) := set
  exact marked.changeMode .halted

theorem Follows.clearCause {s : State} (h : Follows s) (c : Cause) : Follows (s.clearCause c) := by
  refine h.of_same (ps := [.line]) (fun p hp => ?_) (by decide) ?_ ?_ ?_
  · cases p <;> simp [Part.same] at hp ⊢
  all_goals rw [State.clearCause_line]

/-- What the engaged stations do, and what they drop, keeps the others at rest. -/
theorem StationsSound.work {s t : State} (h : StationsSound s)
    (same : SameBut [.gathering, .carousel, .format, .miller, .glue, .cover] s t) (work : WorkEngaged s t) :
    StationsSound t := by
  obtain ⟨serving, idle, gate1⟩ := h
  obtain ⟨pocket, gauge, mill, spine, side, fed, nip, gate⟩ := work
  have stations : t.stations = s.stations := same .stations (by decide)
  rw [StationsSound, stations]
  refine ⟨serving, fun w out => ?_, gate.elim (fun eq => eq.trans gate1) id⟩
  have rest := idle w out
  cases w
  case pocket =>
    exact fun k => Option.not_isSome_iff_eq_none.mp fun on => (pocket k on).elim (fun busy => by rw [rest k] at busy; cases busy) out
  case gauge => exact Option.not_isSome_iff_eq_none.mp fun on => (gauge on).elim (by simp [show s.format.gauge = none from rest]) out
  case mill => exact Bool.eq_false_iff.mpr fun on => (mill on).elim (by simp [show s.miller.integrating = false from rest]) out
  case spineGlue => exact Bool.eq_false_iff.mpr fun on => (spine on).elim (by simp [show s.glue.spine.isOpen = false from rest]) out
  case sideGlue => exact Bool.eq_false_iff.mpr fun on => (side on).elim (by simp [show s.glue.side.isOpen = false from rest]) out
  case cover => exact Option.not_isSome_iff_eq_none.mp fun on => (fed on).elim (by simp [show s.cover.fed = none from rest]) out
  case nip => exact Bool.eq_false_iff.mpr fun on => (nip on).elim (by simp [show s.cover.nipClosed = false from rest]) out
  all_goals trivial

theorem Follows.change {s : State} (h : Follows s) {t : State} (c : Change s t) : Follows t := by
  have same : ∀ {u : State} {ps : List Part}, SameBut ps s u →
      (∀ p ∈ [Part.stations, .gathering, .carousel, .format, .miller, .glue, .cover, .config, .line], p ∉ ps) → Follows u := by
    intro u ps kept apart
    have line : u.line = s.line := kept .line (apart _ (by decide))
    exact h.of_same kept (fun p hp => apart p (List.mem_append_left [Part.line] hp)) (by rw [line]) (by rw [line])
      (by rw [line])
  have whole := h
  obtain ⟨⟨serving, idle, gate⟩, acting, running, inching, reference⟩ := h
  cases c
  case work same' _ engaged =>
    have line : t.line = s.line := same' .line (by decide)
    have stations : t.stations = s.stations := same' .stations (by decide)
    exact ⟨whole.1.work same' engaged, whole.2.of_same (by rw [stations]) (same' .config (by decide)) (by rw [line])
      (by rw [line]) (by rw [line])⟩
  case engage w acts =>
    refine ⟨⟨fun v hv => List.mem_cons_of_mem w (serving v hv), fun v out => ?_, gate⟩, fun rests => ?_, running, inching,
      reference⟩
    · exact idle v fun engaged => out (List.mem_cons_of_mem w engaged)
    · change s.line.mode.acting = false at rests
      simp [rests] at acts
  case serve w engaged =>
    refine ⟨⟨fun v hv => ?_, idle, gate⟩, acting, running, inching, reference⟩
    rcases List.mem_cons.mp hv with rfl | kept
    · exact engaged
    · exact serving v (List.mem_of_mem_filter kept)
  case release w rest =>
    refine ⟨⟨fun v hv => ?_, fun v out => ?_, gate⟩, fun rests => ?_, running, inching, reference⟩
    · obtain ⟨served, other⟩ := List.mem_filter.mp hv
      exact List.mem_filter.mpr ⟨serving v served, other⟩
    · by_cases same : v = w
      · rw [same]
        exact rest
      · exact idle v fun engaged => out (List.mem_filter.mpr ⟨engaged, decide_eq_true same⟩)
    · change (s.stations.engaged.filter _) = []
      rw [acting rests, List.filter_nil]
  case disengage w =>
    have line : (s.disengage w).line = s.line := by simp
    refine ⟨whole.1.disengage w, ?_⟩
    rw [DriveInv, line, State.disengage_engaged, show (s.disengage w).config = s.config by simp]
    exact ⟨fun rests => by rw [acting rests, List.filter_nil], running, inching, reference⟩
  case overheat =>
    exact Follows.raiseCause (s := s.updPot fun p => { p with overheat := true, applied := 0, heaterOn := false }) whole _
  case cooled => exact Follows.clearCause (s := s.updPot fun p => { p with overheat := false }) whole _
  case jam => exact Follows.raiseCause (s := s.updPhase fun p => { p with jam := true }) whole _
  case jamGone => exact Follows.clearCause (s := s.updPhase fun p => { p with jam := false }) whole _
  case fault r _ _ =>
    exact Follows.raiseCause
      (s := s.updTrim fun t => { t with phase := .fault, limitAt := none, cutAt := none, reason := r }) whole _
  case faultToCut => exact (whole.clearCause .trimmer).updTrim _
  case faultToIdle => exact (whole.clearCause .trimmer).updTrim _
  case halt c _ => exact whole.raiseCause c
  case mode m _ _ _ => exact whole.changeMode m
  case warming r _ _ => exact (whole.changeMode .warming).runWhenReady r
  case resume =>
    have cleared : Follows ((s.clearCause .coverSequence).clearCause .hostHalt) :=
      (whole.clearCause .coverSequence).clearCause .hostHalt
    generalize (s.clearCause .coverSequence).clearCause .hostHalt = u at cleared ⊢
    have ended : Follows (u.updLine fun l => { l with haltStart := none }) := cleared
    exact ended.changeMode .running
  case inch halted =>
    refine ⟨whole.1, acting, ?_, fun _ => halted, reference⟩
    change MainDrive.inching = .running ↔ s.line.mode.acting = true
    simp [halted]
  case stopInch =>
    refine ⟨whole.1, ?_⟩
    simp only [DriveInv, State.updLine_line, State.updLine_stations, State.updLine_config, LineControl.stopInch]
    split
    · next inch =>
      have halted := inching inch
      simp [halted] at acting reference ⊢
      exact ⟨acting, reference⟩
    · exact ⟨acting, running, inching, reference⟩
  case runWhenReady => exact whole
  case stable => exact whole
  case idleCount => exact whole
  case take => exact same (ps := [.trim]) (fun p hp => by cases p <;> simp [Part.same] at hp ⊢) (by decide)
  all_goals exact whole

/-- A configuration put in force in a resting mode: the drive has no speed reference. -/
theorem Follows.config {s : State} (h : Follows s) (c : Settings) (resting : s.line.mode.acting = false) :
    Follows (s.updConfig fun _ => ⟨c, true⟩) := by
  obtain ⟨stations, acting, running, inching, reference⟩ := h
  refine ⟨stations, acting, running, inching, ?_⟩
  change s.line.reference = if s.line.mode.acting then _ else _
  rw [reference, resting]
  rfl

theorem Follows.afterReset (now : Nat) (pins : Pins) (m : Memory) (l : List Instr) :
    Follows (State.afterReset now pins m l) := by
  have rest : ∀ w, AtRest (State.afterReset now pins m l) w := by
    intro w
    cases w
    case pocket => simp [AtRest, State.afterReset, Gathering.atReset]
    all_goals simp [AtRest, State.afterReset, FormatUnit.atReset, Miller.atReset, GlueStations.atReset, Valve.atRest,
      CoverStation.atReset]
  have drive : DriveInv (State.afterReset now pins m l) := by
    simp [DriveInv, State.afterReset, LineControl.atReset, Stations.atReset]
  exact ⟨⟨fun w hw => (by cases hw), fun w _ => rest w, rfl⟩, drive⟩

/-- Settles O8: every elementary change keeps the stations and the drive to their modes, and so does a reset. -/
theorem stepKeepsStationsAtRest : Obligations.StepKeepsStationsAtRest := by
  intro s t h run
  rw [stationInv_iff] at h ⊢
  refine step_keeps (P := Follows) (fun hu c => hu.change c) (fun c resting hu => hu.config c resting) ?_ ?_ ?_ (fun _ hu => hu) h run
  · exact fun level abortFirst hu =>
      guardInputs_keep (P := Follows) (fun hv c => hv.change c) (fun _ hv => hv) (fun c hv => hv.raiseCause c)
        (fun c hv => hv.clearCause c) hu level abortFirst
  · exact fun a w _ hu => hu
  · exact fun now pins m _ _ => .afterReset now pins m _

end Sys2Proof.Machine
end

section
/-!
The Job cache: its entries and its fetch in agreement, and copies within the bounds of R103 (R43 to R45, R55).
-/

namespace Sys2Proof.Machine

/-! ### One entry and the fetch -/

/-- An entry of the cache agrees with the fetch, and its copy is within the bounds of R42 and R43 (R44, R45, R55). -/
abbrev EntrySound (fetch : Option Fetch) (e : Fin 16) (x : CacheEntry) : Prop :=
  (x.state = .filling ↔ fetch.map (·.target) = some e) ∧
    (x.state = .filling → x.stale = false ∧ x.job = fetch.map (·.job)) ∧
    (x.state = .empty → x = { CacheEntry.emptyEntry with used := x.used }) ∧
    (x.state = .filled → x.copy.isSome = true ∧ (x.job.isSome = true ↔ x.stale = false)) ∧
    (x.stale = true → x.locks ≠ 0) ∧ ∀ r ∈ x.copy, r.bounded

/-- The invariant of the Job cache, entry by entry. -/
abbrev CacheSound (c : JobCache) : Prop :=
  (∀ e : Fin 16, EntrySound c.fetch e c.entries[e]) ∧
    (∀ e f : Fin 16, e ≠ f → c.entries[e].job.isSome = true → c.entries[e].job ≠ c.entries[f].job) ∧
    ∀ k : Fin 64, ∀ x ∈ c.stock[k], x.bounded

theorem cacheInv_iff {s : State} : CacheInv s ↔ CacheSound s.cache := by
  constructor
  · rintro ⟨filling, fetched, empty, filled, stale, once, copies, stock⟩
    exact ⟨fun e => ⟨filling e, fetched e, empty e, filled e, stale e, copies e⟩, once, stock⟩
  · rintro ⟨entries, once, stock⟩
    exact ⟨fun e => (entries e).1, fun e => (entries e).2.1, fun e => (entries e).2.2.1, fun e => (entries e).2.2.2.1,
      fun e => (entries e).2.2.2.2.1, once, fun e => (entries e).2.2.2.2.2, stock⟩

theorem entries_set (v : Vector CacheEntry 16) (e f : Fin 16) (x : CacheEntry) :
    (v.set e x)[f] = if f = e then x else v[f] := by
  rw [Fin.getElem_fin, Fin.getElem_fin, Vector.getElem_set]
  simp only [Fin.ext_iff, eq_comm]

/-- An EMPTY entry is sound where no fetch has it as its target. -/
theorem EntrySound.empty {fetch : Option Fetch} {e : Fin 16} (apart : fetch.map (·.target) ≠ some e) :
    EntrySound fetch e CacheEntry.emptyEntry := by
  refine ⟨iff_of_false (by decide) apart, ?_, ?_, ?_, ?_, ?_⟩ <;> simp [CacheEntry.emptyEntry]

/-- An entry that is not the target keeps its soundness when the fetch ends. -/
theorem EntrySound.without_fetch {fetch : Option Fetch} {e : Fin 16} {x : CacheEntry} (h : EntrySound fetch e x)
    (apart : fetch.map (·.target) ≠ some e) : EntrySound none e x := by
  obtain ⟨filling, -, rest⟩ := h
  have other : x.state ≠ .filling := fun k => apart (filling.mp k)
  exact ⟨iff_of_false other (by simp), fun k => absurd k other, rest⟩

/-- One entry takes a new content, its job number going or staying. -/
theorem CacheSound.set {c : JobCache} (h : CacheSound c) (fetch : Option Fetch) (e : Fin 16) (x : CacheEntry)
    (sound : EntrySound fetch e x) (others : ∀ f, f ≠ e → EntrySound c.fetch f c.entries[f] → EntrySound fetch f c.entries[f])
    (job : x.job = none ∨ x.job = c.entries[e].job) :
    CacheSound { c with entries := c.entries.set e x, fetch := fetch } := by
  obtain ⟨entries, once, stock⟩ := h
  refine ⟨fun f => ?_, fun f g ne some eq => ?_, stock⟩
  · dsimp only
    rw [entries_set]
    split
    · next same => rw [same]; exact sound
    · next other => exact others f other (entries f)
  · dsimp only at some eq
    rw [entries_set] at some eq
    rw [entries_set] at eq
    by_cases atF : f = e
    · have atG : g ≠ e := fun k => ne (atF.trans k.symm)
      rw [if_pos atF] at some eq
      rw [if_neg atG] at eq
      rcases job with gone | kept
      · rw [gone] at some
        cases some
      · rw [kept, ← atF] at some eq
        exact once f g ne some eq
    · rw [if_neg atF] at some eq
      by_cases atG : g = e
      · rw [if_pos atG] at eq
        rcases job with gone | kept
        · rw [eq, gone] at some
          cases some
        · rw [kept, ← atG] at eq
          exact once f g ne some eq
      · rw [if_neg atG] at eq
        exact once f g ne some eq

/-! ### Every elementary change -/

theorem CacheSound.lock {c : JobCache} (h : CacheSound c) (e : Fin 16)
    (used : c.entries[e].state = .filled ∨ c.fetch.map (·.target) = some e) :
    CacheSound { c with
      entries := c.entries.set e { c.entries[e] with locks := c.entries[e].locks + 1, used := true } } := by
  obtain ⟨filling, fetched, -, filled, -, copies⟩ := h.1 e
  have notEmpty : c.entries[e].state ≠ .empty := fun k =>
    used.elim (fun full => by rw [k] at full; cases full) fun target => by rw [filling.mpr target] at k; cases k
  exact h.set c.fetch e _ ⟨filling, fetched, fun k => absurd k notEmpty, filled, fun _ => Nat.succ_ne_zero _, copies⟩
    (fun _ _ k => k) (.inr rfl)

theorem CacheSound.unlock {c : JobCache} (h : CacheSound c) (e : Fin 16) :
    CacheSound { c with entries := c.entries.set e c.entries[e].unlocked } := by
  obtain ⟨filling, fetched, empty, filled, stale, copies⟩ := h.1 e
  unfold CacheEntry.unlocked
  split
  · next last =>
    refine h.set c.fetch e _ (EntrySound.empty fun target => ?_) (fun _ _ k => k) (.inl rfl)
    have := (fetched (filling.mpr target)).1
    rw [last.1] at this
    cases this
  · next more =>
    refine h.set c.fetch e _ ⟨filling, fetched, fun k => ?_, filled, fun old gone => more ⟨old, gone⟩, copies⟩
      (fun _ _ k => k) (.inr rfl)
    have free : c.entries[e].locks = 0 := by rw [empty k]; rfl
    have whole := empty k
    dsimp only
    rw [free]
    rw [whole]
    rfl

theorem JobCache.clearUsed_entry (c : JobCache) (e : Fin 16) :
    c.clearUsed.entries[e] = { c.entries[e] with used := c.clearUsed.entries[e].used } := by
  simp only [JobCache.clearUsed, Fin.getElem_fin, Vector.getElem_ofFn]
  split <;> rfl

theorem CacheSound.clearUsed {c : JobCache} (h : CacheSound c) : CacheSound c.clearUsed := by
  obtain ⟨entries, once, stock⟩ := h
  refine ⟨fun e => ?_, fun e f ne => ?_, stock⟩
  · obtain ⟨filling, fetched, empty, filled, stale, copies⟩ := entries e
    rw [c.clearUsed_entry e]
    refine ⟨filling, fetched, fun k => ?_, filled, stale, copies⟩
    dsimp only at k ⊢
    rw [empty k]
  · rw [c.clearUsed_entry e, c.clearUsed_entry f]
    exact once e f ne

/-- The choice of a target leaves the cache as it was, or with its used marks cleared (R45). -/
theorem JobCache.target_cases {c d : JobCache} {e : Option (Fin 16)} (target : c.target = (e, d)) :
    d = c ∨ d = c.clearUsed := by
  have second : d = c.target.2 := by rw [target]
  rw [second]
  unfold JobCache.target
  split
  · exact .inl rfl
  · split
    · exact .inl rfl
    · exact .inr rfl

theorem JobCache.target_sound {c d : JobCache} {e : Option (Fin 16)} (h : CacheSound c) (target : c.target = (e, d)) :
    CacheSound d ∧ d.fetch = c.fetch := by
  rcases JobCache.target_cases target with rfl | rfl
  · exact ⟨h, rfl⟩
  · exact ⟨h.clearUsed, rfl⟩

theorem JobCache.target_job {c d : JobCache} {e : Option (Fin 16)} (target : c.target = (e, d)) (f : Fin 16) :
    d.entries[f].job = c.entries[f].job := by
  rcases JobCache.target_cases target with rfl | rfl
  · rfl
  · rw [c.clearUsed_entry]

/-- Where no FILLED entry answers to a job and no fetch runs, no entry holds its number. -/
theorem CacheSound.job_absent {c : JobCache} (h : CacheSound c) {j : Nat} (idle : c.fetch = none)
    (absent : c.lookup j = none) (e : Fin 16) : c.entries[e].job ≠ some j := by
  obtain ⟨filling, -, empty, filled, -⟩ := h.1 e
  intro holds
  cases state : c.entries[e].state
  case empty =>
    rw [empty state] at holds
    cases holds
  case filling =>
    have aims := filling.mp state
    rw [idle] at aims
    cases aims
  case filled =>
    have fresh := (filled state).2.mp (by rw [holds]; rfl)
    have missing := List.find?_eq_none.mp absent e (List.mem_finRange e)
    rw [state, fresh, holds] at missing
    simp at missing

theorem CacheSound.fetchStarted {c d : JobCache} (h : CacheSound c) {j : Nat} {e : Fin 16} (f : Fetch) (job : f.job = j)
    (aims : f.target = e) (idle : c.fetch = none) (absent : c.lookup j = none) (target : c.target = (some e, d)) :
    CacheSound { d with entries := d.entries.set e ⟨.filling, some j, none, 0, true, false⟩, fetch := some f } := by
  obtain ⟨⟨entries, once, stock⟩, same⟩ := JobCache.target_sound h target
  have noJob : ∀ g : Fin 16, d.entries[g].job ≠ some j := fun g => by
    rw [JobCache.target_job target g]
    exact h.job_absent idle absent g
  have noFetch : d.fetch = none := same.trans idle
  refine ⟨fun g => ?_, fun g k ne some eq => ?_, stock⟩
  · dsimp only
    rw [entries_set]
    split
    · next at_ =>
      refine ⟨by simp [aims, at_], by simp [job], by simp, by simp, by simp, by simp⟩
    · next other =>
      obtain ⟨filling, fetched, rest⟩ := entries g
      have quiet : d.entries[g].state ≠ .filling := fun k => by
        have := filling.mp k
        simp [noFetch] at this
      exact ⟨iff_of_false quiet (by simpa [aims] using fun k => other k.symm), fun k => absurd k quiet, rest⟩
  · dsimp only at some eq
    rw [entries_set] at some eq
    rw [entries_set] at eq
    by_cases atG : g = e
    · rw [if_pos atG, if_neg fun k' => ne (atG.trans k'.symm)] at eq
      exact noJob k eq.symm
    · rw [if_neg atG] at some eq
      by_cases atK : k = e
      · rw [if_pos atK] at eq
        exact noJob g eq
      · rw [if_neg atK] at eq
        exact once g k ne some eq

theorem CacheSound.engine {c : JobCache} (h : CacheSound c) {f g : Fetch} (running : c.fetch = some f) (job : g.job = f.job)
    (target : g.target = f.target) : CacheSound { c with fetch := some g } := by
  obtain ⟨entries, once, stock⟩ := h
  refine ⟨fun e => ?_, once, stock⟩
  have sound := entries e
  rw [running] at sound
  rw [EntrySound, Option.map_some, Option.map_some] at sound ⊢
  rw [job, target]
  exact sound

/-- A host write reaches the cache at most in what the fetch keeps of the words replaced. -/
theorem CacheSound.hostWrite {s : State} (h : CacheSound s.cache) (a : Nat) (w : Word) :
    CacheSound (s.hostWrite a w).cache := by
  have cache : (s.hostWrite a w).cache = { s.cache with fetch := s.cache.fetch.map fun f =>
      if f.waitUntil.isNone then { f with writes := logWrite s.mem a f.writes } else f } := by
    simp [State.hostWrite]
  rw [cache]
  cases running : s.cache.fetch with
  | none =>
    have same : { s.cache with fetch := (none : Option Fetch) } = s.cache := by rw [← running]
    rw [Option.map_none, same]
    exact h
  | some f => exact h.engine running (by dsimp only; split <;> rfl) (by dsimp only; split <;> rfl)

theorem CacheSound.fill {c : JobCache} (h : CacheSound c) {f : Fetch} {r : JobRecord} (running : c.fetch = some f)
    (bounds : r.bounded) :
    CacheSound { c with
      entries := c.entries.set f.target { c.entries[f.target] with state := .filled, copy := some r, used := true }
      fetch := none } := by
  obtain ⟨filling, fetched, -, -, stale, -⟩ := h.1 f.target
  obtain ⟨fresh, job⟩ := fetched (filling.mpr (by rw [running]; rfl))
  refine h.set none f.target _ ⟨by simp, by simp, by simp, fun _ => ⟨rfl, ?_⟩, stale, by simpa using bounds⟩
    (fun g ne sound => sound.without_fetch ?_) (.inr rfl)
  · dsimp only
    rw [job, running, fresh]
    exact iff_of_true rfl rfl
  · rw [running]
    simpa using fun k => ne k.symm

theorem CacheSound.giveUp {c : JobCache} (h : CacheSound c) {f : Fetch} (running : c.fetch = some f) :
    CacheSound { c with entries := c.entries.set f.target CacheEntry.emptyEntry, fetch := none } := by
  refine h.set none f.target _ (EntrySound.empty (by simp)) (fun g ne sound => sound.without_fetch ?_) (.inl rfl)
  rw [running]
  simpa using fun k => ne k.symm

theorem EntrySound.purged {fetch : Option Fetch} {e : Fin 16} {x : CacheEntry} (h : EntrySound fetch e x)
    (again : Fetch → Fetch) (same : ∀ f, (again f).target = f.target ∧ (again f).job = f.job) :
    EntrySound (fetch.map again) e x.purged := by
  obtain ⟨filling, fetched, empty, filled, stale, copies⟩ := h
  have target : (fetch.map again).map (·.target) = fetch.map (·.target) := by
    rw [Option.map_map]
    exact congrArg (Option.map · fetch) (funext fun f => (same f).1)
  have job : (fetch.map again).map (·.job) = fetch.map (·.job) := by
    rw [Option.map_map]
    exact congrArg (Option.map · fetch) (funext fun f => (same f).2)
  rw [EntrySound, target, job]
  unfold CacheEntry.purged
  split
  · next full =>
    have apart : fetch.map (·.target) ≠ some e := fun k => by rw [filling.mpr k] at full; cases full
    split
    · refine ⟨iff_of_false (by decide) apart, ?_, ?_, ?_, ?_, ?_⟩ <;> simp [CacheEntry.emptyEntry]
    · next locked =>
      exact ⟨filling, fun k => by simp [full] at k, fun k => by simp [full] at k,
        fun _ => ⟨(filled full).1, by simp⟩, fun _ => locked, copies⟩
  · exact ⟨filling, fetched, empty, filled, stale, copies⟩

theorem CacheEntry.purged_job (x : CacheEntry) : x.purged.job = none ∨ x.purged.job = x.job := by
  unfold CacheEntry.purged
  split
  · split <;> exact .inl rfl
  · exact .inr rfl

theorem CacheSound.purge {c : JobCache} (h : CacheSound c) (again : Fetch → Fetch)
    (same : ∀ f, (again f).target = f.target ∧ (again f).job = f.job) :
    CacheSound
      { entries := Vector.ofFn fun e : Fin 16 => c.entries[e].purged
        stock := Vector.replicate 64 none
        fetch := c.fetch.map again } := by
  obtain ⟨entries, once, -⟩ := h
  have entry : ∀ e : Fin 16, (Vector.ofFn fun e : Fin 16 => c.entries[e].purged)[e] = c.entries[e].purged := fun e => by
    rw [Fin.getElem_fin, Vector.getElem_ofFn]
  refine ⟨fun e => ?_, fun e f ne some eq => ?_, fun k x hx => ?_⟩
  · dsimp only
    rw [entry e]
    exact (entries e).purged again same
  · dsimp only at some eq
    rw [entry e] at some eq
    rw [entry f] at eq
    rcases c.entries[e].purged_job with gone | kept
    · rw [gone] at some
      cases some
    · rw [kept] at some eq
      rcases c.entries[f].purged_job with gone' | kept'
      · rw [eq, gone'] at some
        cases some
      · rw [kept'] at eq
        exact once e f ne some eq
  · simp at hx

theorem CacheSound.takeStock {c : JobCache} (h : CacheSound c) {copies : List (Nat × StockCopy)}
    (bounds : ∀ p ∈ copies, p.2.bounded) : CacheSound (c.takeStock copies) := by
  obtain ⟨entries, once, stock⟩ := h
  refine ⟨entries, once, ?_⟩
  have places : ∀ v : Vector (Option StockCopy) 64, (∀ k : Fin 64, ∀ x ∈ v[k], x.bounded) →
      ∀ k : Fin 64, ∀ x ∈ (copies.foldl (fun v p => v.setIfInBounds p.1 (some p.2)) v)[k], x.bounded := by
    induction copies with
    | nil => exact fun v hv => hv
    | cons p copies ih =>
      refine fun v hv => ih (fun q hq => bounds q (List.mem_cons_of_mem p hq)) _ fun k x hx => ?_
      rw [Fin.getElem_fin, Vector.getElem_setIfInBounds] at hx
      split at hx
      · rw [Option.mem_some_iff.mp hx |>.symm]
        exact bounds p List.mem_cons_self
      · exact hv k x hx
  exact places c.stock stock

theorem CacheSound.change {s : State} (h : CacheSound s.cache) {t : State} (c : Change s t) : CacheSound t.cache := by
  have same : ∀ {u : State}, u.cache = s.cache → CacheSound u.cache := fun eq => by rw [eq]; exact h
  cases c
  case lock e used => exact h.lock e used
  case unlock e => exact h.unlock e
  case fetch j e d idle absent target => exact h.fetchStarted _ rfl rfl idle absent target
  case engine f g running job target => exact h.engine running job target
  case stock copies bounds => exact h.takeStock bounds
  case fill f r running bounds => exact h.fill running bounds
  case giveUp f running => exact h.giveUp running
  case purge => exact h.purge _ fun _ => ⟨rfl, rfl⟩
  case work same' _ _ => exact same (same' .cache (by decide))
  case fault => exact same (by simp [State.trimFault])
  case warming => exact same (by simp [State.beginWarming])
  all_goals exact same (by simp)

theorem CacheSound.atReset : CacheSound JobCache.atReset := by
  refine ⟨fun e => ?_, fun e f _ some => ?_, fun k x hx => ?_⟩
  · rw [show JobCache.atReset.entries[e] = CacheEntry.emptyEntry by simp [JobCache.atReset]]
    exact EntrySound.empty (by simp [JobCache.atReset])
  · simp [JobCache.atReset, CacheEntry.emptyEntry] at some
  · simp [JobCache.atReset] at hx

/-- Settles O10: every elementary change keeps the cache entries and the fetch in agreement, and so does a reset. -/
theorem stepKeepsCacheConsistent : Obligations.StepKeepsCacheConsistent := by
  intro s t h run
  rw [cacheInv_iff] at h ⊢
  refine step_keeps (P := fun s => CacheSound s.cache) (fun hu c => hu.change c) (fun _ _ hu => hu) ?_ ?_ ?_ (fun _ hu => hu) h run
  · exact fun level abortFirst hu =>
      guardInputs_keep (P := fun s => CacheSound s.cache) (fun hv c => hv.change c) (fun _ hv => hv)
        (fun c hv => by simpa using hv) (fun c hv => by simpa using hv) hu level abortFirst
  · exact fun a w _ hu => hu.hostWrite a w
  · exact fun _ _ _ _ _ => CacheSound.atReset

end Sys2Proof.Machine
end

section
/-!
The shared memory: its canonical form, and the areas the part never writes (R33, R170, R174).
-/

namespace Sys2Proof.Machine

/-! ### Every write of the part lies in the memory (R170) -/

theorem State.wf_notify {s : State} (h : s.mem.wf = true) (c : Attention) : (s.notify c).mem.wf = true := by
  rw [(s.notify_effect c).2.1]
  have := c.number.isLt
  exact Memory.wf_writeWord _ _ _ h (by simp only [Header.count, Memory.size]; omega)

theorem State.wf_snapshot {s : State} (h : s.mem.wf = true) : s.snapshot.mem.wf = true := by
  have words : ∀ p ∈ s.snapshotWords, p.1 + 3 < Memory.size := by
    have addresses : ∀ a ∈ s.snapshotWords.map Prod.fst, a + 3 < Memory.size := by
      rw [show s.snapshotWords.map Prod.fst = snapshotArea.tail from rfl]
      decide
    exact fun p hp => addresses p.1 (List.mem_map_of_mem hp)
  have mem : s.snapshot.mem =
      ((s.mem.writeWord Header.snapSeq (s.port.snapSeq + 1)).writeWords s.snapshotWords).writeWord Header.snapSeq
        (s.port.snapSeq + 1 + 1) := by
    simp [State.snapshot, State.putWord_mem, State.putWords_mem]
  rw [mem]
  exact Memory.wf_writeWord _ _ _ (Memory.wf_writeWords _ _ (Memory.wf_writeWord _ _ _ h (by decide)) words) (by decide)

theorem State.wf_modeNotices {s : State} (h : s.mem.wf = true) (m : LineMode) : (s.modeNotices m).mem.wf = true := by
  unfold State.modeNotices
  dsimp only
  split
  · exact State.wf_notify (State.wf_notify h _) _
  · exact State.wf_notify h _

theorem State.wf_changeMode {s : State} (h : s.mem.wf = true) (m : LineMode) : (s.changeMode m).mem.wf = true := by
  have driven : (s.driven m).mem.wf = true := by
    rw [State.driven_mem]
    exact Memory.wf_writeWord _ _ _ h (by decide)
  rw [State.changeMode_eq]
  refine State.wf_modeNotices ?_ m
  split
  · exact driven
  · exact State.wf_snapshot driven

theorem State.wf_setCauses {s : State} (h : s.mem.wf = true) (c : Causes) : (s.setCauses c).mem.wf = true :=
  Memory.wf_writeWord _ _ _ h (by decide)

theorem State.wf_raiseCause {s : State} (h : s.mem.wf = true) (c : Cause) : (s.raiseCause c).mem.wf = true := by
  have set : (s.causeSet c).mem.wf = true := by
    unfold State.causeSet
    split
    · exact h
    · exact State.wf_setCauses h _
  refine State.raiseCause_keeps (P := fun u => u.mem.wf = true) set fun _ _ => ?_
  generalize s.causeSet c = u at set ⊢
  exact State.wf_changeMode (s := u.updLine fun l => { l with haltStart := some u.now }) set .halted

theorem State.wf_clearCause {s : State} (h : s.mem.wf = true) (c : Cause) : (s.clearCause c).mem.wf = true := by
  unfold State.clearCause
  split
  · exact State.wf_setCauses h _
  · exact h

/-- The words the part writes lie in the header, the ticket table and the defect log. -/
theorem State.PartWord.area {s : State} (h : MemoryInv s) {a : Nat} (own : s.PartWord a) :
    a + 4 ≤ 0x0200 ∨ (0x4800 ≤ a ∧ a + 4 ≤ 0x9800) := by
  obtain ⟨-, cursor, held⟩ := h
  rcases own with header | log | ⟨i, f, rfl, ticket⟩
  · exact .inl header
  · exact .inr ⟨by omega, log.2⟩
  · have table : i < 256 := by
      rcases ticket with rfl | some
      · exact cursor
      · obtain ⟨x, hx⟩ := Option.isSome_iff_exists.mp some
        rw [← State.held_index hx]
        exact held x (List.mem_of_find?_eq_some hx)
    have field : f.offset ≤ 0x3C := by cases f <;> decide
    exact .inr (by unfold ticketAddr ticketBase; omega)

/-! ### The canonical form (R33, R170) -/

theorem MemoryInv.of_same {s t : State} (h : MemoryInv s) (mem : t.mem.wf = true) (sched : t.sched = s.sched) :
    MemoryInv t := by
  rw [MemoryInv, sched]
  exact ⟨mem, h.2⟩

theorem MemoryInv.raiseCause {s : State} (h : MemoryInv s) (c : Cause) : MemoryInv (s.raiseCause c) :=
  h.of_same (State.wf_raiseCause h.1 c) (by simp)

theorem MemoryInv.clearCause {s : State} (h : MemoryInv s) (c : Cause) : MemoryInv (s.clearCause c) :=
  h.of_same (State.wf_clearCause h.1 c) (by simp)

theorem MemoryInv.change {s : State} (h : MemoryInv s) {t : State} (c : Change s t) : MemoryInv t := by
  have same : ∀ {u : State}, u.mem = s.mem → u.sched = s.sched → MemoryInv u := fun mem sched =>
    h.of_same (by rw [mem]; exact h.1) sched
  have whole := h
  obtain ⟨wf, cursor, held⟩ := h
  cases c
  case word a w own =>
    refine whole.of_same (Memory.wf_writeWord _ _ _ wf ?_) rfl
    have := own.area whole
    unfold Memory.size
    omega
  case putTicket u some =>
    refine ⟨wf, cursor, fun t ht => ?_⟩
    obtain ⟨x, hx, rfl⟩ := List.mem_map.mp ht
    split
    · next same => exact same ▸ held x hx
    · exact held x hx
  case removeTicket => exact ⟨wf, cursor, fun t ht => held t (List.mem_of_mem_filter ht)⟩
  case addTicket t _ at_ =>
    refine ⟨wf, cursor, fun u hu => ?_⟩
    rcases List.mem_append.mp hu with old | new
    · exact held u old
    · rw [List.mem_singleton.mp new, at_]
      exact cursor
  case cursor table => exact ⟨wf, table, held⟩
  case remakes => exact ⟨wf, cursor, held⟩
  case serial => exact ⟨wf, cursor, held⟩
  case hold => exact ⟨wf, cursor, held⟩
  case overheat =>
    exact MemoryInv.raiseCause (s := s.updPot fun p => { p with overheat := true, applied := 0, heaterOn := false }) whole _
  case cooled => exact MemoryInv.clearCause (s := s.updPot fun p => { p with overheat := false }) whole _
  case jam => exact MemoryInv.raiseCause (s := s.updPhase fun p => { p with jam := true }) whole _
  case jamGone => exact MemoryInv.clearCause (s := s.updPhase fun p => { p with jam := false }) whole _
  case fault r _ _ =>
    exact MemoryInv.raiseCause
      (s := s.updTrim fun t => { t with phase := .fault, limitAt := none, cutAt := none, reason := r }) whole _
  case faultToCut => exact (whole.clearCause .trimmer).of_same (State.wf_clearCause wf _) rfl
  case faultToIdle => exact (whole.clearCause .trimmer).of_same (State.wf_clearCause wf _) rfl
  case halt c _ => exact whole.raiseCause c
  case mode m _ _ _ => exact whole.of_same (State.wf_changeMode wf m) (by simp)
  case warming r _ _ =>
    have entered := State.wf_changeMode wf .warming
    exact whole.of_same (by rw [State.beginWarming, State.updLine_mem]; exact entered) (by simp [State.beginWarming])
  case resume =>
    refine whole.of_same ?_ (by simp)
    have cleared := State.wf_clearCause (State.wf_clearCause wf .coverSequence) .hostHalt
    generalize (s.clearCause .coverSequence).clearCause .hostHalt = u at cleared ⊢
    exact State.wf_changeMode (s := u.updLine fun l => { l with haltStart := none }) cleared .running
  case work same' mem _ => exact same mem (same' .sched (by decide))
  case fetch => exact same rfl rfl
  case engine => exact same rfl rfl
  all_goals exact same (by simp) (by simp)

/-- The words a failed ticket takes lie in the ticket. -/
theorem failWords_inside (i : Nat) : ∀ p ∈ failTicket.failWords i, ticketBase i ≤ p.1 ∧ p.1 + 4 ≤ ticketBase i + 64 := by
  simp only [failTicket.failWords, ticketAddr, TicketField.offset, List.forall_mem_cons]
  refine ⟨by omega, by omega, by omega, by simp⟩

theorem wf_scanTickets {m : Memory} (h : m.wf = true) : (scanTickets m).wf = true := by
  have tickets : ∀ (l : List Nat) (m : Memory), (∀ i ∈ l, i < 256) → m.wf = true → (l.foldl failTicket m).wf = true := by
    intro l
    induction l with
    | nil => exact fun m _ hm => hm
    | cons i l ih =>
      intro m table hm
      refine ih _ (fun j hj => table j (List.mem_cons_of_mem i hj)) ?_
      have words : ∀ p ∈ failTicket.failWords i, p.1 + 3 < Memory.size := fun p hp => by
        have := table i List.mem_cons_self
        have := failWords_inside i p hp
        unfold ticketBase at this
        unfold Memory.size
        omega
      unfold failTicket
      split
      · exact Memory.wf_writeWords _ _ hm words
      · exact Memory.wf_writeWords _ _ hm words
      · exact hm
  exact tickets _ m (fun i hi => List.mem_range.mp hi) h

theorem resetHeader_addresses (pins : Pins) : ∀ p ∈ resetHeader pins, p.1 + 4 ≤ 0x0200 := by
  have addresses : ∀ a ∈ (resetHeader pins).map Prod.fst, a + 4 ≤ 0x0200 := by
    rw [show (resetHeader pins).map Prod.fst = (resetHeader ⟨false, false, false, false, false⟩).map Prod.fst from rfl]
    decide
  exact fun p hp => addresses p.1 (List.mem_map_of_mem hp)

theorem State.afterReset_mem (now : Nat) (pins : Pins) (m : Memory) (pending : List Instr) :
    (State.afterReset now pins m pending).mem = m.writeWords (resetHeader pins) := by
  simp only [State.afterReset]

theorem MemoryInv.afterReset (now : Nat) (pins : Pins) {m : Memory} (wf : m.wf = true) (pending : List Instr) :
    MemoryInv (State.afterReset now pins m pending) := by
  have header : ∀ p ∈ resetHeader pins, p.1 + 3 < Memory.size := fun p hp => by
    have := resetHeader_addresses pins p hp
    unfold Memory.size
    omega
  rw [MemoryInv, State.afterReset_mem]
  exact ⟨Memory.wf_writeWords (resetHeader pins) m wf header, show (0 : Nat) < 256 by decide, fun t ht => nomatch ht⟩

/-- Settles O3: every elementary change keeps the canonical form and the table, and so do the host's writes and a reset. -/
theorem stepKeepsMemoryCanonical : Obligations.StepKeepsMemoryCanonical := by
  intro s t h run
  refine step_keeps (fun hu c => hu.change c) (fun _ _ hu => hu) ?_ ?_ ?_ (fun _ hu => hu) h run
  · exact fun level abortFirst hu =>
      guardInputs_keep (fun hv c => hv.change c) (fun _ hv => hv) (fun c hv => hv.raiseCause c)
        (fun c hv => hv.clearCause c) hu level abortFirst
  · exact fun a w inside hu => ⟨Memory.wf_writeWord _ _ _ hu.1 inside, hu.2⟩
  · intro s now pins m hu from_
    refine MemoryInv.afterReset now pins ?_ s.pending
    rcases from_ with rfl | rfl
    · rfl
    · exact wf_scanTickets hu.1

/-! ### The host's areas (R170) -/

theorem HostAreasSame.refl (s : State) : HostAreasSame s s := fun _ _ => rfl

theorem HostAreasSame.trans {s t u : State} (h : HostAreasSame s t) (k : HostAreasSame t u) : HostAreasSame s u :=
  fun a ha => (k a ha).trans (h a ha)

theorem HostAreasSame.of_mem {s t : State} (h : t.mem = s.mem) : HostAreasSame s t := fun a _ => by rw [h]

/-- Words outside the host's areas leave these as they are. -/
theorem HostAreasSame.of_bytes {ws : List Nat} {s t : State} (h : BytesBut ws s t)
    (apart : ∀ w ∈ ws, w + 4 ≤ 0x0200 ∨ (0x4800 ≤ w ∧ w + 4 ≤ 0x9800)) : HostAreasSame s t := by
  refine fun a host => h a fun w hw => ?_
  have := apart w hw
  omega

theorem HostAreasSame.changeMode (m : LineMode) (s : State) : HostAreasSame s (s.changeMode m) :=
  .of_bytes (State.changeMode_bytes m s) (by decide)

theorem HostAreasSame.raiseCause (c : Cause) (s : State) : HostAreasSame s (s.raiseCause c) :=
  .of_bytes (s.raiseCause_effect c).2.2 (by decide)

theorem HostAreasSame.clearCause (c : Cause) (s : State) : HostAreasSame s (s.clearCause c) :=
  .of_bytes (s.clearCause_effect c).2 (by decide)

theorem HostAreasSame.change {s : State} (h : MemoryInv s) {t : State} (c : Change s t) : HostAreasSame s t := by
  have same : ∀ {u : State}, u.mem = s.mem → HostAreasSame s u := HostAreasSame.of_mem
  cases c
  case word a w own =>
    exact .of_bytes (State.putWord_bytes a w s) fun x hx => by rw [List.mem_singleton.mp hx]; exact own.area h
  case overheat => exact HostAreasSame.raiseCause .overheat (s.updPot _)
  case cooled => exact HostAreasSame.clearCause .overheat (s.updPot _)
  case jam => exact HostAreasSame.raiseCause .jam (s.updPhase _)
  case jamGone => exact HostAreasSame.clearCause .jam (s.updPhase _)
  case fault r _ _ =>
    exact HostAreasSame.raiseCause .trimmer
      (s.updTrim fun t => { t with phase := .fault, limitAt := none, cutAt := none, reason := r })
  case faultToCut => exact (HostAreasSame.clearCause .trimmer s).trans (.of_mem rfl)
  case faultToIdle => exact (HostAreasSame.clearCause .trimmer s).trans (.of_mem rfl)
  case halt c _ => exact HostAreasSame.raiseCause c s
  case mode m _ _ _ => exact HostAreasSame.changeMode m s
  case warming r _ _ => exact (HostAreasSame.changeMode .warming s).trans (.of_mem rfl)
  case resume =>
    have cleared := (HostAreasSame.clearCause .coverSequence s).trans (HostAreasSame.clearCause .hostHalt _)
    generalize (s.clearCause .coverSequence).clearCause .hostHalt = u at cleared ⊢
    exact cleared.trans (HostAreasSame.changeMode .running (u.updLine fun l => { l with haltStart := none }))
  case work same' mem _ => exact same mem
  case fetch => exact same rfl
  case engine => exact same rfl
  all_goals exact same (by simp)

/-! ### A controller reset writes the header and the ticket table (R22, R180) -/

/-- A reset leaves every byte outside the header as the memory it starts from has it (R180). -/
theorem State.afterReset_read (now : Nat) (pins : Pins) (m : Memory) (pending : List Instr) {a : Nat} (outside : 0x0200 ≤ a) :
    (State.afterReset now pins m pending).mem.read a = m.read a := by
  rw [State.afterReset_mem]
  refine Memory.read_writeWords_outside (resetHeader pins) m a fun p hp => ?_
  have := resetHeader_addresses pins p hp
  omega

/-- The check of one ticket reaches no byte outside it. -/
theorem failTicket_read_outside (m : Memory) (i : Nat) {a : Nat} (outside : a < ticketBase i ∨ ticketBase i + 64 ≤ a) :
    (failTicket m i).read a = m.read a := by
  have words : ∀ p ∈ failTicket.failWords i, a < p.1 ∨ p.1 + 4 ≤ a := fun p hp => by
    have := failWords_inside i p hp
    omega
  unfold failTicket
  split
  · exact Memory.read_writeWords_outside _ _ a words
  · exact Memory.read_writeWords_outside _ _ a words
  · rfl

theorem scanTickets_read_outside (m : Memory) {a : Nat} (outside : a < 0x4800 ∨ 0x8800 ≤ a) :
    (scanTickets m).read a = m.read a := by
  have tickets : ∀ (l : List Nat) (m : Memory), (∀ i ∈ l, i < 256) → (l.foldl failTicket m).read a = m.read a := by
    intro l
    induction l with
    | nil => exact fun m _ => rfl
    | cons i l ih =>
      intro m table
      have inside := table i List.mem_cons_self
      rw [List.foldl_cons, ih _ fun j hj => table j (List.mem_cons_of_mem i hj)]
      exact failTicket_read_outside m i (by unfold ticketBase; omega)
  exact tickets _ _ fun i hi => List.mem_range.mp hi

theorem HostAreasSame.controllerReset (s : State) (now : Nat) (pins : Pins) (pending : List Instr) :
    HostAreasSame s (State.afterReset now pins (scanTickets s.mem) pending) := fun a host => by
  rw [State.afterReset_read _ _ _ _ (by omega), scanTickets_read_outside s.mem (by omega)]

/-! ### The configuration in force (R174) -/

/-- No elementary change touches the configuration in force (R174). -/
theorem Change.config {s t : State} (c : Change s t) : t.config = s.config := by
  cases c
  case work same' _ _ => exact same' .config (by decide)
  case fetch => rfl
  case engine => rfl
  case fault => simp [State.trimFault]
  case warming => simp [State.beginWarming]
  all_goals simp

theorem State.hostWrite_config (a : Nat) (w : Word) (s : State) : (s.hostWrite a w).config = s.config := by
  simp [State.hostWrite]

/-- What a command that stands apart makes of the configuration, where it is none of the three of R174. -/
theorem exec_config {c : Instr} {s t : State} (keeps : changesConfiguration c = false) (run : exec c s = .next t) :
    t.config = s.config := by
  have reached : ∀ {u v : State}, u.config = s.config → Reaches u v → v.config = s.config := fun hu reaches =>
    Reaches.keeps (P := fun u => u.config = s.config) (fun hv c => c.config.trans hv) hu reaches
  have guards : ∀ (u : State) (level abortFirst : Bool), u.config = s.config →
      (u.estopLevel level abortFirst).config = s.config ∧ (u.guardLevel level abortFirst).config = s.config :=
    fun u level abortFirst hu => guardInputs_keep (P := fun u => u.config = s.config) (fun hv c => c.config.trans hv)
      (fun _ hv => hv) (fun c hv => by simpa using hv) (fun c hv => by simpa using hv) hu level abortFirst
  cases apart : standsApart c
  · exact reached rfl (exec_reaches apart run)
  · cases c
    case powerOnReset | controllerReset | loadConfigReadEnd => cases keeps
    case emergencyStopInput dt active abortFirst =>
      cases run
      exact (guards (s.elapse dt) active abortFirst rfl).1
    case guardInput dt opened abortFirst =>
      cases run
      exact (guards (s.elapse dt) opened abortFirst rfl).2
    case hostWordWrite dt a w =>
      rw [exec_hostWordWrite_next run]
      exact reached (State.hostWrite_config a w (s.elapse dt)) (State.wordWritten_reaches _ _ _)
    all_goals cases apart

/-- A command that is no write of the host's areas keeps them. -/
theorem exec_hostAreas {c : Instr} {s t : State} (h : MemoryInv s) (own : writesHostAreas c = false)
    (run : exec c s = .next t) : HostAreasSame s t := by
  have kept : ∀ {u v : State}, MemoryInv u ∧ HostAreasSame s u → Change u v → MemoryInv v ∧ HostAreasSame s v :=
    fun hu c => ⟨hu.1.change c, hu.2.trans (.change hu.1 c)⟩
  have guards : ∀ (u : State) (level abortFirst : Bool), MemoryInv u ∧ HostAreasSame s u →
      (MemoryInv (u.estopLevel level abortFirst) ∧ HostAreasSame s (u.estopLevel level abortFirst)) ∧
        MemoryInv (u.guardLevel level abortFirst) ∧ HostAreasSame s (u.guardLevel level abortFirst) :=
    fun u level abortFirst hu => guardInputs_keep (P := fun u => MemoryInv u ∧ HostAreasSame s u) kept (fun _ hv => hv)
      (fun c hv => ⟨hv.1.raiseCause c, hv.2.trans (.raiseCause c _)⟩)
      (fun c hv => ⟨hv.1.clearCause c, hv.2.trans (.clearCause c _)⟩) hu level abortFirst
  have start : ∀ dt, MemoryInv (s.elapse dt) ∧ HostAreasSame s (s.elapse dt) := fun dt => ⟨h, .refl s⟩
  cases apart : standsApart c
  · exact (Reaches.keeps kept ⟨h, .refl s⟩ (exec_reaches apart run)).2
  · cases c
    case powerOnReset | hostWordWrite => cases own
    case controllerReset dt =>
      cases run
      exact .controllerReset s _ _ _
    case emergencyStopInput dt active abortFirst =>
      cases run
      exact (guards _ active abortFirst (start dt)).1.2
    case guardInput dt opened abortFirst =>
      cases run
      exact (guards _ opened abortFirst (start dt)).2.2
    case loadConfigReadEnd dt lags =>
      cases run
      exact (loadEnd_keeps (P := fun u => MemoryInv u ∧ HostAreasSame s u) kept (fun _ _ hu => hu) (start dt) lags).2
    all_goals cases apart

/-- Settles O12: the elementary changes write the part's own words, and none of them the configuration. -/
theorem partNeverWritesHostAreas : Obligations.PartNeverWritesHostAreas := fun _ _ _ h run =>
  ⟨fun own => exec_hostAreas h own run, fun keeps => exec_config keeps run⟩

/-! ### The command queue, and the reset state -/

/-- Settles O1: the definition of a step. -/
theorem stepTakesTheFrontCommand : Obligations.StepTakesTheFrontCommand := by
  refine ⟨fun c s => rfl, fun s idle => ?_⟩
  unfold step
  rw [idle]

end Sys2Proof.Machine
end

section
/-!
The two resets: the reset values of every block, the header words, and the tickets (R22, R180).
-/

namespace Sys2Proof.Machine

/-! ### The header words (R180) -/

/-- The value a list of writes puts last in a word. -/
def lastWrite (l : List (Nat × Word)) (a : Nat) : Option Word := (l.reverse.find? fun p => decide (p.1 = a)).map (·.2)

/-- Writes of whole words leave in each the last value written there. -/
theorem readWord_writeWords_of_lastWrite {l : List (Nat × Word)} {a : Nat} {w : Word}
    (aligned : ∀ p ∈ l, p.1 % 4 = 0) (last : lastWrite l a = some w) (m : Memory) : (m.writeWords l).readWord a = w := by
  obtain ⟨p, found, rfl⟩ := Option.map_eq_some_iff.mp last
  obtain ⟨same, before, after, split, clear⟩ := List.find?_eq_some_iff_append.mp found
  have whole : l = after.reverse ++ (p.1, p.2) :: before.reverse := by
    rw [← List.reverse_reverse l, split]
    simp
  have at_ : p.1 = a := of_decide_eq_true same
  have own := aligned p (by rw [whole]; simp)
  rw [whole, at_]
  refine Memory.readWord_writeWords_last m a p.2 _ _ fun q hq => ?_
  have other := clear q (List.mem_reverse.mp hq)
  have apart := aligned q (by rw [whole]; simp [List.mem_reverse.mp hq])
  simp only [Bool.not_eq_true', decide_eq_false_iff_not] at other
  omega

theorem resetHeader_aligned (pins : Pins) : ∀ p ∈ resetHeader pins, p.1 % 4 = 0 := by
  have addresses : ∀ a ∈ (resetHeader pins).map Prod.fst, a % 4 = 0 := by
    rw [show (resetHeader pins).map Prod.fst = (resetHeader ⟨false, false, false, false, false⟩).map Prod.fst from rfl]
    decide
  exact fun p hp => addresses p.1 (List.mem_map_of_mem hp)

theorem lastWrite_resetHeader (pins : Pins) :
    (headerAfterReset pins).map (fun x => lastWrite (resetHeader pins) x.1) = (headerAfterReset pins).map fun x => some x.2 := by
  have levels : ∀ estop guardOpen emptyA emptyB key : Bool,
      (headerAfterReset ⟨estop, guardOpen, emptyA, emptyB, key⟩).map
          (fun x => lastWrite (resetHeader ⟨estop, guardOpen, emptyA, emptyB, key⟩) x.1) =
        (headerAfterReset ⟨estop, guardOpen, emptyA, emptyB, key⟩).map fun x => some x.2 := by
    decide
  exact levels _ _ _ _ _

theorem State.afterReset_header (now : Nat) (pins : Pins) (m : Memory) (pending : List Instr) :
    ∀ x ∈ headerAfterReset pins, (State.afterReset now pins m pending).word x.1 = x.2 := by
  intro x hx
  have last : lastWrite (resetHeader pins) x.1 = some x.2 := List.map_inj_left.mp (lastWrite_resetHeader pins) x hx
  rw [State.word, State.afterReset_mem]
  exact readWord_writeWords_of_lastWrite (resetHeader_aligned pins) last m

/-! ### Every block (R22, R180) -/

theorem State.afterReset_atReset (now : Nat) (pins : Pins) (m : Memory) (pending : List Instr) :
    AtReset pins (State.afterReset now pins m pending) := by
  have entries : ∀ e : Fin 16, JobCache.atReset.entries[e] = ⟨.empty, none, none, 0, false, false⟩ := fun e => by
    simp [JobCache.atReset, CacheEntry.emptyEntry]
  have stock : ∀ c : Fin 64, JobCache.atReset.stock[c] = none := fun c => by simp [JobCache.atReset]
  have cells : ∀ p : Fin 18, Gathering.atReset.cells[p] = .unknown := fun p => by simp [Gathering.atReset]
  have pockets : ∀ k : Fin 16, Gathering.atReset.pockets[k] = ⟨false, 0, none, none⟩ := fun k => by simp [Gathering.atReset]
  have places : ∀ p : Fin 24, Carousel.atReset.places[p] = ⟨p.val, if p.val ≤ 17 then .unknown else .empty⟩ := fun p => by
    simp [Carousel.atReset]
  have header := State.afterReset_header now pins m pending
  refine ⟨rfl, rfl, rfl, rfl, rfl, rfl, rfl, rfl, rfl, rfl, rfl, rfl, entries, stock, rfl, cells, pockets, places,
    ?_⟩
  refine ⟨rfl, rfl, rfl, rfl, rfl, rfl, rfl, rfl, rfl, rfl, rfl, rfl, rfl, rfl, rfl, rfl, rfl, rfl, rfl, rfl,
    rfl, rfl, rfl, rfl, rfl, rfl, rfl, rfl, rfl, rfl, rfl, rfl, rfl, rfl, rfl, rfl, rfl, rfl, rfl, rfl,
    rfl, rfl, rfl, rfl, rfl, rfl, rfl, rfl, header⟩

/-- Settles O2: the reset state is the one after a power-on reset, and each invariant holds of it. -/
theorem resetMeetsTheInvariants : Obligations.ResetMeetsTheInvariants :=
  ⟨State.afterReset_atReset _ _ _ _, MemoryInv.afterReset _ _ rfl _, .afterReset _ _ _ _, State.afterReset_judged _ _ _ _,
    .afterReset _ _ _ _, .afterReset _ _ _ _, stationInv_iff.mpr (Follows.afterReset _ _ _ _), .afterReset _ _ _ _,
    .afterReset _ _ _ _, cacheInv_iff.mpr .atReset, .afterReset _ _ _ _⟩

/-! ### The scan of the ticket table (R22) -/

theorem TicketField.offset_le (f : TicketField) : f.offset ≤ 0x3C := by cases f <;> decide

/-- The check of one ticket depends on nothing but its own bytes. -/
theorem failTicket_read_congr {m n : Memory} (i : Nat)
    (same : ∀ a, ticketBase i ≤ a → a < ticketBase i + 64 → m.read a = n.read a) {a : Nat} (low : ticketBase i ≤ a)
    (high : a < ticketBase i + 64) : (failTicket m i).read a = (failTicket n i).read a := by
  have written : ∀ l : List (Nat × Word), (m.writeWords l).read a = (n.writeWords l).read a := by
    intro l
    have both : ∀ m n : Memory, m.read a = n.read a → (m.writeWords l).read a = (n.writeWords l).read a := by
      induction l with
      | nil => exact fun _ _ eq => eq
      | cons p l ih =>
        refine fun m n eq => ih _ _ ?_
        rw [Memory.read_writeWord, Memory.read_writeWord, eq]
    exact both m n (same a low high)
  have stage : m.ticket i .stage = n.ticket i .stage := by
    refine Memory.readWord_congr fun k hk => same _ ?_ ?_ <;> simp only [ticketAddr, TicketField.offset] <;> omega
  unfold failTicket
  rw [stage]
  split
  · exact written _
  · exact written _
  · exact same a low high

/-- The tickets checked one after the other: each is checked as it stood before. -/
theorem foldl_failTicket_read {l : List Nat} (once : l.Nodup) (m : Memory) (i : Nat) {a : Nat} (low : ticketBase i ≤ a)
    (high : a < ticketBase i + 64) : (l.foldl failTicket m).read a = if i ∈ l then (failTicket m i).read a else m.read a := by
  induction l generalizing m with
  | nil => simp
  | cons j l ih =>
    obtain ⟨fresh, once⟩ := List.nodup_cons.mp once
    have apart : i ≠ j → ∀ x, ticketBase i ≤ x → x < ticketBase i + 64 → (failTicket m j).read x = m.read x :=
      fun ne x hl hh => failTicket_read_outside m j (by unfold ticketBase at *; omega)
    rw [List.foldl_cons, ih once]
    by_cases same : i = j
    · rw [if_neg (same ▸ fresh), if_pos (same ▸ List.mem_cons_self), same]
    · rw [failTicket_read_congr i (apart same) low high, apart same a low high]
      simp [same]

theorem scanTickets_read (m : Memory) (i : Fin 256) {a : Nat} (low : ticketBase i ≤ a) (high : a < ticketBase i + 64) :
    (scanTickets m).read a = (failTicket m i).read a := by
  rw [scanTickets, foldl_failTicket_read List.nodup_range m i low high, if_pos (List.mem_range.mpr i.isLt)]

theorem scanTickets_ticket (m : Memory) (i : Fin 256) (f : TicketField) :
    (scanTickets m).ticket i f = (failTicket m i).ticket i f := by
  have := f.offset_le
  refine Memory.readWord_congr fun k hk => scanTickets_read m i ?_ ?_ <;> simp only [ticketAddr] <;> omega

theorem Stage.ofWord_eq_iff (w : Word) : (Stage.ofWord w = .active ↔ w = 2) ∧ (Stage.ofWord w = .draining ↔ w = 3) := by
  unfold Stage.ofWord
  by_cases h1 : w = 1
  · subst h1; decide
  · by_cases h2 : w = 2
    · subst h2; decide
    · by_cases h3 : w = 3
      · subst h3; decide
      · have later : ∀ x ∈ [Stage.active, .draining], (if w = 4 then Stage.done else if w = 5 then .failed else .free) ≠ x := by
          split
          · decide
          · split <;> decide
        rw [if_neg h1, if_neg h2, if_neg h3]
        exact ⟨iff_of_false (later _ (by decide)) h2, iff_of_false (later _ (by decide)) h3⟩

/-- A ticket found ACTIVE or DRAINING is failed, any other stays (R22). -/
theorem failTicket_eq (m : Memory) (i : Nat) :
    failTicket m i =
      if m.ticket i .stage = 2 ∨ m.ticket i .stage = 3 then m.writeWords (failTicket.failWords i) else m := by
  unfold failTicket
  split
  · next active => rw [if_pos (.inl ((Stage.ofWord_eq_iff _).1.mp active))]
  · next draining => rw [if_pos (.inr ((Stage.ofWord_eq_iff _).2.mp draining))]
  · next notActive notDraining =>
    refine (if_neg fun open_ => open_.elim (fun h => notActive ?_) fun h => notDraining ?_).symm
    · exact (Stage.ofWord_eq_iff _).1.mpr h
    · exact (Stage.ofWord_eq_iff _).2.mpr h

/-- The words of a failed ticket (R19, R22). -/
theorem failWords_tickets (m : Memory) (i : Nat) :
    (m.writeWords (failTicket.failWords i)).ticket i .stage = 5 ∧
      (m.writeWords (failTicket.failWords i)).ticket i .endReason = 68 ∧
      (m.writeWords (failTicket.failWords i)).ticket i .finish = 0 := by
  refine ⟨?_, ?_, ?_⟩
  · exact Memory.readWord_writeWords_last m _ 5
      [(ticketAddr i .endReason, BitVec.ofNat 32 EndReason.reset.number), (ticketAddr i .finish, 0)] [] (by simp)
  · refine Memory.readWord_writeWords_last m _ 68 [] [(ticketAddr i .finish, 0), (ticketAddr i .stage, Stage.failed.word)] ?_
    simp [ticketAddr, TicketField.offset]
  · refine Memory.readWord_writeWords_last m _ 0 [(ticketAddr i .endReason, BitVec.ofNat 32 EndReason.reset.number)]
      [(ticketAddr i .stage, Stage.failed.word)] ?_
    simp [ticketAddr, TicketField.offset]

/-- A ticket after a controller reset (R22). -/
theorem State.controllerReset_ticket (s : State) (now : Nat) (pins : Pins) (pending : List Instr) (i : Fin 256) {t : State}
    (ht : t = State.afterReset now pins (scanTickets s.mem) pending) :
    if s.mem.ticket i .stage = 2 ∨ s.mem.ticket i .stage = 3 then
      t.mem.ticket i .stage = 5 ∧ t.mem.ticket i .endReason = 68 ∧ t.mem.ticket i .finish = 0 ∧
        ∀ a, ticketBase i ≤ a → a < ticketBase i + 64 →
          (∀ f ∈ [TicketField.stage, .endReason, .finish], a < ticketAddr i f ∨ ticketAddr i f + 4 ≤ a) →
          t.mem.read a = s.mem.read a
    else ∀ a, ticketBase i ≤ a → a < ticketBase i + 64 → t.mem.read a = s.mem.read a := by
  have above : ∀ a, ticketBase i ≤ a → 0x0200 ≤ a := fun a ha => by unfold ticketBase at ha; omega
  have bytes : ∀ a, ticketBase i ≤ a → a < ticketBase i + 64 → t.mem.read a = (failTicket s.mem i).read a :=
    fun a low high => by rw [ht, State.afterReset_read _ _ _ _ (above a low), scanTickets_read s.mem i low high]
  have field : ∀ f, t.mem.ticket i f = (failTicket s.mem i).ticket i f := fun f => by
    have := f.offset_le
    refine Memory.readWord_congr fun k hk => bytes _ ?_ ?_ <;> simp only [ticketAddr] <;> omega
  rw [failTicket_eq] at bytes field
  split
  · next open_ =>
    rw [if_pos open_] at bytes field
    obtain ⟨stage, reason, finish⟩ := failWords_tickets s.mem i
    rw [field, field, field]
    refine ⟨stage, reason, finish, fun a low high apart => ?_⟩
    rw [bytes a low high]
    refine Memory.read_writeWords_outside _ _ a ?_
    simp only [List.forall_mem_cons] at apart
    obtain ⟨stage', reason', finish', -⟩ := apart
    simp only [failTicket.failWords, List.forall_mem_cons]
    exact ⟨reason', finish', stage', by simp⟩
  · next closed =>
    rw [if_neg closed] at bytes
    exact bytes

/-- Settles O60: every block of the state after a reset is written out, and the scan of the ticket table checks each ticket
as it stood before. -/
theorem resets : Obligations.Resets := by
  refine ⟨fun s dt levels => ⟨_, rfl, rfl, State.afterReset_atReset _ _ _ _, fun a outside => ?_, rfl⟩, fun s dt => ?_⟩
  · rw [State.afterReset_read _ _ _ _ outside]
    rfl
  · refine ⟨_, rfl, rfl, State.afterReset_atReset _ _ _ _, rfl, fun a apart => ?_, fun i =>
      State.controllerReset_ticket s _ _ _ i rfl⟩
    rw [State.afterReset_read _ _ _ _ (by omega), scanTickets_read_outside s.mem (by omega)]

end Sys2Proof.Machine
end

section
/-!
The inputs of the stations, the converter and the glue pot (R62, R67, R89 to R91, R106, R108, R110 to R116, R120, R121,
R159).
-/

namespace Sys2Proof.Machine

/-! ### Causes reported (R161, R162) -/

/-- What a cause reported set makes of the card: the cause, the header, and from a mode that halts HALTED (R161, R162). -/
structure CauseRaised (c : Cause) (s t : State) : Prop where
  causes : t.line.causes = s.line.causes.put true c
  word : s.line.causes.has c = false → t.word Header.causes = t.line.causes.word
  halted : s.line.mode.halts = true →
    Entered .halted s t ∧ t.line.haltStart = some s.now ∧ Noticed (fun c => if c = 3 ∨ c = 4 then 1 else 0) s t
  stays : s.line.mode.halts = false → SameBut [.line] s t ∧ t.line = { s.line with causes := t.line.causes }
  works : WorksKept s t
  same : SameBut [.stations, .gathering, .carousel, .format, .miller, .glue, .cover, .line, .port] s t
  bytes : BytesBut (Header.causes :: modeWords) s t

theorem State.causeSet_word {c : Cause} {s : State} (h : s.line.causes.has c = false) :
    (s.causeSet c).word Header.causes = (s.causeSet c).line.causes.word := by
  unfold State.causeSet
  rw [h]
  exact (s.setCauses_effect _).2.1

theorem State.raiseCause_whole (c : Cause) (s : State) : CauseRaised c s (s.raiseCause c) := by
  obtain ⟨set, line⟩ := s.causeSet_effect c
  have bytes := (s.raiseCause_effect c).2.2
  have works : WorksKept s (s.causeSet c) := by
    unfold State.causeSet
    split <;> simp [WorksKept]
  have port : (s.causeSet c).port = s.port := set .port (by decide)
  have now : (s.causeSet c).now = s.now := set .now (by decide)
  cases halts : s.line.mode.halts
  · have eq : s.raiseCause c = s.causeSet c := by rw [State.raiseCause_eq, halts]; rfl
    rw [eq] at bytes ⊢
    exact ⟨by rw [line], State.causeSet_word, fun k => absurd k (by simp [halts]), fun _ => ⟨set, by rw [line]⟩, works,
      set.mono (by decide), bytes⟩
  · have eq : s.raiseCause c = (s.causeSet c).enterHalt := by rw [State.raiseCause_eq, halts]; rfl
    obtain ⟨entered, noticed, kept, same⟩ := (s.causeSet c).enterHalt_whole
    obtain ⟨halted, modeBytes⟩ := (s.causeSet c).enterHalt_effect
    rw [eq] at bytes ⊢
    refine ⟨by rw [halted, line]; rfl, fun fresh => ?_, fun _ => ⟨?_, ?_, ?_⟩, fun k => absurd k (by simp [halts]),
      works.trans kept, (set.trans same).mono (by decide), bytes⟩
    · rw [modeBytes.word (by decide), State.causeSet_word fresh, halted]
      rfl
    · exact entered.congr (set.mono (by decide)) (by rw [line]) (by rw [port]) (SameBut.refl _ _) rfl rfl
    · rw [halted]
      exact congrArg some now
    · exact noticed.of_counts (by rw [port])

/-- What a cause reported cleared makes of the card: the cause and the header, and no change of the mode (R161). -/
theorem State.clearCause_whole (c : Cause) (s : State) :
    (s.clearCause c).line = { s.line with causes := s.line.causes.put false c } ∧
      (s.line.causes.has c = true → (s.clearCause c).word Header.causes = (s.clearCause c).line.causes.word) ∧
      SameBut [.line] s (s.clearCause c) ∧ BytesBut [Header.causes] s (s.clearCause c) := by
  refine ⟨State.clearCause_line c s, fun has => ?_, fun p hp => ?_, (s.clearCause_effect c).2⟩
  · rw [State.clearCause, if_pos has]
    exact (s.setCauses_effect _).2.1
  · cases p <;> simp [Part.same] at hp ⊢

/-! ### Pockets and magazines (R62, R67, R120) -/

/-- A pocket changed by its input: that pocket alone. -/
theorem State.modPocket_effect (k : Fin 16) (f : Pocket → Pocket) (s : State) :
    (s.modPocket k f).gathering.pockets[k] = f s.gathering.pockets[k] ∧
      (∀ j : Fin 16, j ≠ k → (s.modPocket k f).gathering.pockets[j] = s.gathering.pockets[j]) ∧
      (s.modPocket k f).gathering.cells = s.gathering.cells ∧ SameBut [.gathering] s (s.modPocket k f) := by
  refine ⟨by simp [State.modPocket], fun j ne => ?_, rfl, fun p hp => ?_⟩
  · have apart : k.val ≠ j.val := fun eq => ne (Fin.ext eq.symm)
    simp [State.modPocket, apart]
  · cases p <;> simp [Part.same, State.modPocket] at hp ⊢

theorem Pocket.takeCode_eq (code : Word) (p : Pocket) :
    p.takeCode code = if p.feed = none then p else { p with code := some code } := by
  unfold Pocket.takeCode
  cases p.feed <;> simp

theorem State.elapse_same (dt : Nat) (s : State) : SameBut [.now] s (s.elapse dt) := by
  intro p hp
  cases p <;> simp [Part.same] at hp ⊢

theorem State.magazineLevel_effect (m : Magazine) (empty : Bool) (s : State) :
    (s.magazineLevel m empty).cover =
        (match m with | .a => { s.cover with emptyA := empty } | .b => { s.cover with emptyB := empty }) ∧
      (s.magazineLevel m empty).pins =
        (match m with | .a => { s.pins with emptyA := empty } | .b => { s.pins with emptyB := empty }) ∧
      (if empty = true ∧ s.magazineEmpty m = false then
        Noticed (oneNotice .magazineEmpty) s (s.magazineLevel m empty) ∧ AttentionInv (s.magazineLevel m empty) ∧
          (s.magazineLevel m empty).port =
            { s.port with
              counts := (s.magazineLevel m empty).port.counts, attention := (s.magazineLevel m empty).port.attention } ∧
          SameBut [.cover, .pins, .port] s (s.magazineLevel m empty) ∧ BytesBut [Header.count 6] s (s.magazineLevel m empty)
       else SameBut [.cover, .pins] s (s.magazineLevel m empty) ∧ BytesBut [] s (s.magazineLevel m empty)) := by
  have level : ∃ u : State, u = (s.updPins (Pins.setMagazine m empty)).updCover (CoverStation.setMagazine m empty) ∧
      u.cover = (match m with | .a => { s.cover with emptyA := empty } | .b => { s.cover with emptyB := empty }) ∧
      u.pins = (match m with | .a => { s.pins with emptyA := empty } | .b => { s.pins with emptyB := empty }) ∧
      u.port = s.port ∧ u.mem = s.mem ∧ SameBut [.cover, .pins] s u := by
    refine ⟨_, rfl, by cases m <;> rfl, by cases m <;> rfl, rfl, rfl, fun p hp => ?_⟩
    cases p <;> simp [Part.same] at hp ⊢
  obtain ⟨u, hu, cover, pins, port, mem, same⟩ := level
  unfold State.magazineLevel
  dsimp only
  rw [← hu]
  split
  · refine ⟨by simp [cover], by simp [pins], (State.notify_noticed .magazineEmpty u).of_counts (by rw [port]),
      (u.notify_effect _).2.2.1, ?_, (same.trans (w := [.port]) fun p hp => ?_).mono (by decide), ?_⟩
    · rw [← port]
      exact (u.notify_effect _).2.2.2
    · cases p <;> simp [Part.same] at hp ⊢
    · exact ((BytesBut.of_mem (w := []) mem).trans (u.notify_bytes .magazineEmpty)).mono (by decide)
  · exact ⟨cover, pins, same, BytesBut.of_mem mem⟩

/-- Settles O33: the two pocket inputs change one pocket, a magazine sensor its level, with a notice when it goes EMPTY. -/
theorem stockInputs : Obligations.StockInputs := by
  refine ⟨fun s dt k code => ?_, fun s dt k => ?_, fun s dt m empty => ?_⟩
  · obtain ⟨own, others, cells, same⟩ := (s.elapse dt).modPocket_effect k (Pocket.takeCode code)
    refine ⟨_, rfl, rfl, own.trans ?_, others, cells, ((s.elapse_same dt).trans same).mono (by decide), BytesBut.of_mem rfl⟩
    exact Pocket.takeCode_eq code s.gathering.pockets[k]
  · obtain ⟨own, others, cells, same⟩ := (s.elapse dt).modPocket_effect k Pocket.reload
    exact ⟨_, rfl, rfl, own, others, cells, ((s.elapse_same dt).trans same).mono (by decide), BytesBut.of_mem rfl⟩
  · obtain ⟨cover, pins, rest⟩ := (s.elapse dt).magazineLevel_effect m empty
    refine ⟨_, rfl, ?_, cover, pins, ?_⟩
    · change ((s.elapse dt).magazineLevel m empty).now = s.now + dt
      unfold State.magazineLevel
      dsimp only
      split <;> simp
    · by_cases going : empty = true ∧ (s.elapse dt).magazineEmpty m = false
      · rw [if_pos going] at rest
        obtain ⟨noticed, judged, port, same, bytes⟩ := rest
        have whole := ((s.elapse_same dt).trans same).mono (w := [.now, .cover, .pins, .port]) (by decide)
        cases m <;> exact (if_pos going).mpr ⟨noticed, judged, port, whole, bytes⟩
      · rw [if_neg going] at rest
        have whole := ((s.elapse_same dt).trans rest.1).mono (w := [.now, .cover, .pins]) (by decide)
        cases m <;> exact (if_neg going).mpr ⟨whole, rest.2⟩

/-! ### Pulses and motion reports (R106, R108, R116, R121) -/

theorem min_count {n : Nat} (h : n ≤ 65535) : min 65535 (n + 1) = if n < 65535 then n + 1 else n := by
  split <;> omega

/-- A pump pulse is counted while the valve is open (R116). -/
theorem Valve.pulse_eq (v : Valve) (bound : v.flow ≤ 65535) :
    (if v.isOpen then { v with flow := min 65535 (v.flow + 1) } else v) =
      { v with flow := if v.isOpen = true ∧ v.flow < 65535 then v.flow + 1 else v.flow } := by
  obtain ⟨openAt, closeAt, isOpen, opened, flow, emptyLine⟩ := v
  cases isOpen <;> simp [min_count bound]

/-- A comparator pulse is counted while the load is integrated (R108). -/
theorem Miller.pulse_eq (m : Miller) (bound : m.load ≤ 65535) :
    (if m.integrating then { m with load := min 65535 (m.load + 1) } else m) =
      { m with load := if m.integrating = true ∧ m.load < 65535 then m.load + 1 else m.load } := by
  obtain ⟨drive, integrating, load, wear, armed, pending⟩ := m
  cases integrating <;> simp [min_count bound]

/-- A report while a motion runs: the setting becomes the target, and another next target sets the drive moving again. -/
theorem Drive.report_of_target {α : Type} [DecidableEq α] {d : Drive α} {k : α} (h : d.target = some k) :
    d.report = if d.next = none ∨ d.next = some k then ⟨some k, none, none⟩ else ⟨some k, d.next, none⟩ := by
  unfold Drive.report
  rw [h]
  cases next : d.next with
  | none => rfl
  | some n => by_cases same : n = k <;> simp [same]

theorem Drive.report_of_idle {α : Type} [DecidableEq α] {d : Drive α} (h : d.target = none) : d.report = d := by
  unfold Drive.report
  rw [h]

/-- Settles O34: the pulse counts are held at 65,535, and a motion report makes the target the setting. -/
theorem pulsesAndMotionReports : Obligations.PulsesAndMotionReports := by
  refine ⟨fun s dt bound => ⟨_, rfl, rfl, ?_, fun p hp => ?_, BytesBut.of_mem rfl⟩,
    fun s dt bound => ⟨_, rfl, rfl, ?_, fun p hp => ?_, BytesBut.of_mem rfl⟩,
    fun s dt => ⟨_, rfl, rfl, fun idle => ?_, fun d moving => ?_, fun p hp => ?_, BytesBut.of_mem rfl⟩,
    fun s dt => ⟨_, rfl, rfl, fun idle => ?_, fun d moving => ?_, fun p hp => ?_, BytesBut.of_mem rfl⟩⟩
  · exact congrArg (fun v => { s.glue with spine := v }) (s.glue.spine.pulse_eq bound)
  · cases p <;> simp [Part.same] at hp ⊢
  · exact s.miller.pulse_eq bound
  · cases p <;> simp [Part.same] at hp ⊢
  · change ({ s.miller with drive := s.miller.drive.report } : Miller) = _
    rw [Drive.report_of_idle idle]
  · change ({ s.miller with drive := s.miller.drive.report } : Miller) = _
    rw [Drive.report_of_target moving]
  · cases p <;> simp [Part.same] at hp ⊢
  · change ({ s.cover with scorer := s.cover.scorer.report } : CoverStation) = _
    rw [Drive.report_of_idle idle]
  · change ({ s.cover with scorer := s.cover.scorer.report } : CoverStation) = _
    rw [Drive.report_of_target moving]
  · cases p <;> simp [Part.same] at hp ⊢

/-! ### The converter (R89 to R91, R110, R114) -/

/-- A completion that is due hands its result on, then the converter chooses the next conversion (R90). -/
theorem State.conversionEnd_of_due (r : Option (BitVec 10)) {s : State} (busy : s.format.converter.doing ≠ .idle)
    (due : s.format.converter.endsAt ≤ s.now) :
    s.conversionEnd r =
      (match s.format.converter.doing with
       | .gauge =>
         if s.format.converter.kept then s.updFormat fun f => { f with gauge := f.gauge.map (GaugeSeq.take r) } else s
       | .temp => s.takeTemperature r
       | .idle => s).updFormat fun f => { f with converter := f.converter.chooseNext s.now } :=
  if_pos ⟨busy, due⟩

/-- The next conversion after one that ends (R90). -/
theorem Converter.chooseNext_eq (now : Nat) (c : Converter) :
    c.chooseNext now =
      if c.outstanding ≠ 0 then
        { c with doing := .gauge, outstanding := c.outstanding - 1, kept := true, endsAt := now + 25 }
      else if c.tempWaiting then { c with doing := .temp, tempWaiting := false, kept := false, endsAt := now + 25 }
      else { c with doing := .idle, kept := false } := by
  unfold Converter.chooseNext
  simp only [Nat.pos_iff_ne_zero]
  rfl

theorem Converter.chooseNext_of_gauge (now : Nat) {c : Converter} (h : c.doing = .gauge) :
    c.chooseNext now =
      if c.outstanding ≠ 0 then { c with outstanding := c.outstanding - 1, kept := true, endsAt := now + 25 }
      else if c.tempWaiting then { c with doing := .temp, tempWaiting := false, kept := false, endsAt := now + 25 }
      else { c with doing := .idle, kept := false } := by
  obtain ⟨doing, outstanding, tempWaiting, kept, endsAt⟩ := c
  subst h
  exact Converter.chooseNext_eq now _

/-- What a gauge completion makes of the sequence and the converter (R91). -/
theorem State.conversionEnd_gauge (r : Option (BitVec 10)) {s : State} (gauge : s.format.converter.doing = .gauge)
    (due : s.format.converter.endsAt ≤ s.now) :
    s.conversionEnd r = s.updFormat fun f =>
      ⟨f.converter.chooseNext s.now, if f.converter.kept then f.gauge.map (GaugeSeq.take r) else f.gauge⟩ := by
  rw [State.conversionEnd_of_due r (by simp [gauge]) due, gauge]
  dsimp only
  split
  · next kept => simp [State.updFormat, kept]
  · next kept => simp [State.updFormat, kept]

/-- Settles O38: the reading joins the sequence it was made for, and the next conversion is chosen. -/
theorem gaugeConversionEnds : Obligations.GaugeConversionEnds := by
  intro s dt r gauge ends
  refine ⟨_, congrArg Host.Outcome.next (State.conversionEnd_gauge r (s := s.elapse dt) gauge ends), rfl, ?_, ?_,
    fun p hp => ?_, BytesBut.of_mem rfl⟩
  · change (if s.format.converter.kept then s.format.gauge.map (GaugeSeq.take r) else s.format.gauge) = _
    cases s.format.gauge <;> cases r <;> cases s.format.converter.kept <;> rfl
  · exact Converter.chooseNext_of_gauge (s.now + dt) gauge
  · cases p <;> simp [Part.same] at hp ⊢

theorem Converter.tempRequest_eq (now : Nat) (c : Converter) :
    c.tempRequest now =
      if c.doing = .idle then { c with doing := .temp, kept := false, endsAt := now + 25 }
      else { c with tempWaiting := true } := by
  obtain ⟨doing, outstanding, tempWaiting, kept, endsAt⟩ := c
  cases doing <;> rfl

/-- Settles O41: the timers run again, and the duty applied is the computed one where neither COLD nor OVERHEAT takes it. -/
theorem converterAndHeaterTimers : Obligations.ConverterAndHeaterTimers := by
  refine ⟨fun s dt due => ?_, fun s dt due => ?_, fun s dt due => ?_⟩
  · refine ⟨_, congrArg Host.Outcome.next (if_pos (c := (s.elapse dt).pot.conversionAt ≤ (s.elapse dt).now) due), rfl, rfl, rfl, ?_,
      fun p hp => ?_, BytesBut.of_mem rfl⟩
    · exact s.format.converter.tempRequest_eq (s.now + dt)
    · cases p <;> simp [Part.same] at hp ⊢
  · refine ⟨_, congrArg Host.Outcome.next
      (if_pos (c := (s.elapse dt).pot.periodStart + heaterPeriod ≤ (s.elapse dt).now) due), rfl, rfl,
      fun p hp => ?_, BytesBut.of_mem rfl⟩
    cases p <;> simp [Part.same] at hp ⊢
  · refine ⟨_, congrArg Host.Outcome.next
      (if_pos (c := (s.elapse dt).pot.applied * heaterPeriod ≤ ((s.elapse dt).now - (s.elapse dt).pot.periodStart) * 256) due),
      rfl, rfl, fun p hp => ?_, BytesBut.of_mem rfl⟩
    cases p <;> simp [Part.same] at hp ⊢

/-! ### The glue pot (R110 to R113, R159) -/

/-- The duty of R112 in signed arithmetic. -/
theorem dutyFor_eq (c : Settings) (sp t : Nat) :
    dutyFor c sp t = (min 255 (max 0 (((sp : Int) - t) * c.gain / 16))).toNat := by
  unfold dutyFor
  rcases Nat.le_total sp t with low | high
  · have none_left : sp - t = 0 := by omega
    have negative : ((sp : Int) - t) * c.gain / 16 ≤ 0 := by
      refine Int.ediv_nonpos_of_nonpos_of_neg ?_ (by decide)
      exact mul_nonpos_of_nonpos_of_nonneg (by omega) (by omega)
    rw [none_left, max_eq_left negative]
    simp
  · have exact_ : ((sp : Int) - t) * c.gain / 16 = ((sp - t) * c.gain / 16 : Nat) := by
      push_cast [high]
      rfl
    rw [exact_]
    omega

/-- The computed duty in the numbers of R112. -/
theorem computedDuty_eq (c : Settings) (mode : LineMode) (overheat : Bool) (t : Option Nat) :
    computedDuty c mode overheat t =
      match t with
      | none => 0
      | some v =>
        if mode = .cold ∨ overheat = true then 0
        else
          (min 255 (max 0 ((((if mode = .setback then c.setbackSet else c.workingSet) : Nat) - v : Int) * c.gain / 16))).toNat := by
  cases t with
  | none => cases mode <;> rfl
  | some v =>
    have duty := fun sp => dutyFor_eq c sp v
    cases mode <;> cases overheat <;> simp [computedDuty, setpoint, duty]

theorem bandJudgement_eq (c : Settings) (t : Option Nat) :
    bandJudgement c t = match t with | some v => decide (|(v : Int) - c.workingSet| ≤ c.band) | none => false := by
  cases t with
  | none => rfl
  | some v =>
    unfold bandJudgement gap
    exact decide_eq_decide.mpr (by rw [abs_le]; omega)

theorem LineControl.stableTimer_eq (l : LineControl) (inBand : Bool) (expiry : Nat) (warming : l.mode = .warming) :
    { l with stableAt := if inBand then (match l.stableAt with | some t => some t | none => some expiry) else none } =
      { l with
        stableAt :=
          if l.mode = .warming then if inBand then some (l.stableAt.getD expiry) else none else l.stableAt } := by
  rw [if_pos warming]
  cases l.stableAt <;> rfl

theorem State.judgeStable_eq (s : State) :
    s.judgeStable = s.updLine fun l =>
      { l with
        stableAt :=
          if l.mode = .warming then
            if s.pot.inBand then some (l.stableAt.getD (s.now + s.config.settings.stableTime * 1000000)) else none
          else l.stableAt } := by
  by_cases warming : s.line.mode = .warming
  · rw [State.judgeStable, if_pos warming]
    exact congrArg (fun l => { s with line := l }) (LineControl.stableTimer_eq s.line s.pot.inBand _ warming)
  · rw [State.judgeStable, if_neg warming]
    simp [State.updLine, warming]

theorem State.judgeStable_of_ne {s : State} (h : s.line.mode ≠ .warming) : s.judgeStable = s := if_neg h

/-- A temperature completion that is due (R90, R110). -/
theorem State.conversionEnd_temp (r : Option (BitVec 10)) {s : State} (temp : s.format.converter.doing = .temp)
    (due : s.format.converter.endsAt ≤ s.now) :
    s.conversionEnd r =
      (s.takeTemperature r).updFormat fun f => { f with converter := f.converter.chooseNext s.now } := by
  rw [State.conversionEnd_of_due r (by simp [temp]) due, temp]

/-- The pot as a temperature result leaves it, before OVERHEAT is judged (R110 to R112). -/
def State.sensed (r : Option (BitVec 10)) (s : State) : State :=
  s.updPot fun p =>
    { p with
      temp := r.map potTemperature
      inBand := bandJudgement s.config.settings (r.map potTemperature)
      computed := computedDuty s.config.settings s.line.mode p.overheat (r.map potTemperature) }

theorem State.takeTemperature_eq (r : Option (BitVec 10)) (s : State) :
    s.takeTemperature r = ((s.sensed r).judgeOverheat (r.map potTemperature)).judgeStable := rfl

/-- OVERHEAT does not change on a temperature within its bounds (R113). -/
theorem State.judgeOverheat_of_within {s : State} {t : Option Nat}
    (within : ∀ v ∈ t, (s.pot.overheat = false → v ≤ s.config.settings.workingSet + 300) ∧
      (s.pot.overheat = true → s.config.settings.workingSet < v)) : s.judgeOverheat t = s := by
  cases t with
  | none => rfl
  | some v =>
    obtain ⟨below, above⟩ := within v rfl
    unfold State.judgeOverheat
    dsimp only
    rw [if_neg fun h => absurd (below h.1) (by omega), if_neg fun h => absurd (above h.1) (by omega)]

theorem Converter.chooseNext_doing (now : Nat) (c : Converter) :
    (c.chooseNext now).doing = if c.outstanding ≠ 0 then .gauge else if c.tempWaiting then .temp else .idle := by
  rw [Converter.chooseNext_eq]
  split
  · rfl
  · split <;> rfl

/-- Settles O39: temperature, band and duty are those of the reading, and the stable timer runs on or begins in band. -/
theorem temperatureCompletion : Obligations.TemperatureCompletion := by
  intro s dt r temp ends t ht within inBand hb
  subst ht hb
  have quiet : ((s.elapse dt).sensed r).judgeOverheat (r.map potTemperature) = (s.elapse dt).sensed r :=
    State.judgeOverheat_of_within within
  refine ⟨_, congrArg Host.Outcome.next (State.conversionEnd_temp r (s := s.elapse dt) temp ends), ?_⟩
  rw [State.takeTemperature_eq, quiet, State.judgeStable_eq]
  refine ⟨rfl, ?_, ?_, rfl, Converter.chooseNext_doing _ _, fun p hp => ?_, BytesBut.of_mem rfl⟩
  · change ({ s.pot with
      temp := r.map potTemperature
      inBand := bandJudgement s.config.settings (r.map potTemperature)
      computed := computedDuty s.config.settings s.line.mode s.pot.overheat (r.map potTemperature) } : GluePot) = _
    rw [bandJudgement_eq, computedDuty_eq]
    rfl
  · change ({ s.line with
      stableAt :=
        if s.line.mode = .warming then
          if bandJudgement s.config.settings (r.map potTemperature) then
            some (s.line.stableAt.getD (s.now + dt + s.config.settings.stableTime * 1000000))
          else none
        else s.line.stableAt } : LineControl) = _
    rw [bandJudgement_eq]
    rfl
  · cases p <;> simp [Part.same, State.sensed] at hp ⊢

/-! ### OVERHEAT (R113, R114, R161) -/

/-- An entry to a mode, seen from states that differ before it in nothing it looks at, and after it in nothing it says. -/
theorem Entered.between {ps qs : List Part} {m : LineMode} {s u v t : State} (h : Entered m u v) (cool : m ≠ .warming)
    (before : SameBut ps s u) (apart : ∀ p ∈ [Part.config, .miller, .cover], p ∉ ps)
    (acting : u.line.mode.acting = s.line.mode.acting) (drive : u.line.drive = s.line.drive)
    (reference : u.line.reference = s.line.reference) (idle : u.line.idle = s.line.idle)
    (seqBefore : u.port.snapSeq = s.port.snapSeq) (after : SameBut qs v t)
    (kept : ∀ p ∈ [Part.now, .phase, .stations, .miller, .pot, .cover, .line], p ∉ qs)
    (word : t.word Header.mode = v.word Header.mode) (seqAfter : t.port.snapSeq = v.port.snapSeq) : Entered m s t := by
  have config : u.config = s.config := before .config (apart _ (by decide))
  have miller : u.miller = s.miller := before .miller (apart _ (by decide))
  have cover : u.cover = s.cover := before .cover (apart _ (by decide))
  have now' : t.now = v.now := after .now (kept _ (by decide))
  have phase' : t.phase = v.phase := after .phase (kept _ (by decide))
  have stations' : t.stations = v.stations := after .stations (kept _ (by decide))
  have miller' : t.miller = v.miller := after .miller (kept _ (by decide))
  have pot' : t.pot = v.pot := after .pot (kept _ (by decide))
  have cover' : t.cover = v.cover := after .cover (kept _ (by decide))
  have line' : t.line = v.line := after .line (kept _ (by decide))
  unfold Entered at h ⊢
  rw [now', phase', stations', miller', pot', cover', line', word, seqAfter, ← acting, ← drive, ← reference, ← idle,
    ← config, ← miller, ← cover, ← seqBefore]
  rw [if_neg (c := m = .warming ∧ u.pot.inBand = true) fun k => cool k.1] at h
  rw [if_neg (c := m = .warming ∧ s.pot.inBand = true) fun k => cool k.1]
  exact h

/-- The pot with OVERHEAT found (R113, R114). -/
def State.overheated (s : State) : State := s.updPot fun p => { p with overheat := true, applied := 0, heaterOn := false }

theorem State.judgeOverheat_set {s : State} {t : Nat} (calm : s.pot.overheat = false)
    (hot : s.config.settings.workingSet + 300 < t) : s.judgeOverheat (some t) = s.overheated.raiseCause .overheat :=
  if_pos ⟨calm, hot⟩

theorem State.judgeOverheat_cleared {s : State} {t : Nat} (hot : s.pot.overheat = true)
    (below : t ≤ s.config.settings.workingSet) :
    s.judgeOverheat (some t) = (s.updPot fun p => { p with overheat := false }).clearCause .overheat := by
  unfold State.judgeOverheat
  dsimp only
  rw [if_neg fun h => absurd h.2 (by omega), if_pos ⟨hot, below⟩]

/-- A cause reported in WARMING halts, so that no stable timer runs after it. -/
theorem State.raiseCause_not_warming (c : Cause) (s : State) : (s.raiseCause c).line.mode ≠ .warming := by
  rw [(s.raiseCause_effect c).2.1]
  split
  · exact fun h => nomatch h
  · next calm => exact fun warming => calm (by rw [warming]; rfl)

/-- Settles O40: OVERHEAT is judged between the band and the stable timer; set it takes the heater off and is reported as a
cause, gone it leaves the mode. -/
theorem overheatHalts : Obligations.OverheatHalts := by
  refine ⟨fun s dt r temp ends calm hot => ?_, fun s dt r temp ends hot cool below => ?_⟩
  · have raised : ((s.elapse dt).sensed (some r)).judgeOverheat (some (potTemperature r)) =
        ((s.elapse dt).sensed (some r)).overheated.raiseCause .overheat := State.judgeOverheat_set calm hot
    have found : ∃ u : State, u = ((s.elapse dt).sensed (some r)).overheated ∧ SameBut [.now, .pot] s u ∧ u.now = s.now + dt ∧
        u.mem = s.mem ∧ u.pot.overheat = true ∧ u.pot.temp = some (r.toNat * 3000 / 1024) ∧ u.pot.applied = 0 ∧
        u.pot.heaterOn = false := by
      refine ⟨_, rfl, fun p hp => ?_, rfl, rfl, rfl, rfl, rfl, rfl⟩
      cases p <;> simp [Part.same, State.sensed, State.overheated] at hp ⊢
    obtain ⟨u, hu, same, now, mem, overheat, temperature, applied, off⟩ := found
    have ended : (s.elapse dt).conversionEnd (some r) = (u.raiseCause .overheat).updFormat fun f =>
        { f with converter := f.converter.chooseNext (s.elapse dt).now } := by
      rw [State.conversionEnd_temp (some r) (s := s.elapse dt) temp ends, State.takeTemperature_eq]
      dsimp only [Option.map_some]
      rw [raised, ← hu, State.judgeStable_of_ne (u.raiseCause_not_warming _)]
    have whole := u.raiseCause_whole .overheat
    generalize u.raiseCause .overheat = v at ended whole
    obtain ⟨causes, word, halted, stays, ⟨cells, places, -⟩, kept, bytes⟩ := whole
    have line : u.line = s.line := same .line (by decide)
    have port : u.port = s.port := same .port (by decide)
    have gathering : u.gathering = s.gathering := same .gathering (by decide)
    have carousel : u.carousel = s.carousel := same .carousel (by decide)
    have pot : v.pot = u.pot := kept .pot (by decide)
    have later : v.now = u.now := kept .now (by decide)
    have sameMem : BytesBut [] s u := BytesBut.of_mem mem
    have formatted : SameBut [.format] v (v.updFormat fun f =>
        { f with converter := f.converter.chooseNext (s.elapse dt).now }) := fun p hp => by
      cases p <;> simp [Part.same] at hp ⊢
    rw [line] at causes word halted stays
    refine ⟨_, congrArg Host.Outcome.next ended, later.trans now, ?_, ?_, ?_, ?_, causes, word, fun halts => ?_,
      fun calm => ?_, cells.trans (by rw [gathering]), places.trans (by rw [carousel]),
      ((same.trans kept).trans formatted).mono (by decide), (sameMem.trans bytes).mono (by decide)⟩
    · exact (congrArg GluePot.overheat pot).trans overheat
    · exact (congrArg GluePot.temp pot).trans temperature
    · exact (congrArg GluePot.applied pot).trans applied
    · exact (congrArg GluePot.heaterOn pot).trans off
    · obtain ⟨entered, start, noticed⟩ := halted halts
      refine ⟨entered.between (by decide) same (by decide) (by rw [line]) (by rw [line]) (by rw [line]) (by rw [line])
        (by rw [port]) formatted (by decide) rfl rfl, ?_, ?_⟩
      · rw [← now]
        exact start
      · exact (noticed.of_counts (by rw [port])).congr (by simp)
    · obtain ⟨quiet, lineSame⟩ := stays calm
      exact ⟨lineSame, (quiet .port (by decide)).trans port⟩
  · have gone : ((s.elapse dt).sensed (some r)).judgeOverheat (some (potTemperature r)) =
        (((s.elapse dt).sensed (some r)).updPot fun p => { p with overheat := false }).clearCause .overheat :=
      State.judgeOverheat_cleared hot below
    have found : ∃ u : State, u = (((s.elapse dt).sensed (some r)).updPot fun p => { p with overheat := false }) ∧
        SameBut [.now, .pot] s u ∧ u.now = s.now + dt ∧ u.mem = s.mem ∧ u.pot.overheat = false ∧
        u.pot.applied = s.pot.applied := by
      refine ⟨_, rfl, fun p hp => ?_, rfl, rfl, rfl, rfl⟩
      cases p <;> simp [Part.same, State.sensed] at hp ⊢
    obtain ⟨u, hu, same, now, mem, overheat, applied⟩ := found
    obtain ⟨line, word, kept, bytes⟩ := u.clearCause_whole .overheat
    have lineBefore : u.line = s.line := same .line (by decide)
    rw [lineBefore] at line word
    have ended : (s.elapse dt).conversionEnd (some r) = (u.clearCause .overheat).updFormat fun f =>
        { f with converter := f.converter.chooseNext (s.elapse dt).now } := by
      have mode : (u.clearCause .overheat).line.mode ≠ .warming := by rw [line]; exact cool
      rw [State.conversionEnd_temp (some r) (s := s.elapse dt) temp ends, State.takeTemperature_eq]
      dsimp only [Option.map_some]
      rw [gone, ← hu, State.judgeStable_of_ne mode]
    generalize u.clearCause .overheat = v at ended line word kept bytes
    have pot : v.pot = u.pot := kept .pot (by decide)
    have later : v.now = u.now := kept .now (by decide)
    have sameMem : BytesBut [] s u := BytesBut.of_mem mem
    have formatted : SameBut [.format] v (v.updFormat fun f =>
        { f with converter := f.converter.chooseNext (s.elapse dt).now }) := fun p hp => by
      cases p <;> simp [Part.same] at hp ⊢
    exact ⟨_, congrArg Host.Outcome.next ended, later.trans now, (congrArg GluePot.overheat pot).trans overheat,
      (congrArg GluePot.applied pot).trans applied, line, word, ((same.trans kept).trans formatted).mono (by decide),
      (sameMem.trans bytes).mono (by decide)⟩

end Sys2Proof.Machine
end

section
/-!
The events that change the line mode: the mode commands, the timers, the start key, the schedule notice and RESUME (R10,
R16, R156 to R160, R164, R165, R167, R168).
-/

namespace Sys2Proof.Machine

/-! ### A change of the line mode, seen from around it -/

/-- A frame of a change of the line mode, seen from states that differ before it in the time, the slot and the line, and
after it in the line and the slot. -/
theorem ModeFrame.between {m : LineMode} {s u v t : State} (h : ModeFrame m u v) (before : SameBut [.now, .line, .port] s u)
    (acting : u.line.mode.acting = s.line.mode.acting) (readingBefore : u.port.reading = s.port.reading)
    (after : SameBut [.line, .port] v t) (readingAfter : t.port.reading = v.port.reading) : ModeFrame m s t := by
  have phase : u.phase = s.phase := before .phase (by decide)
  have stations : u.stations = s.stations := before .stations (by decide)
  have gathering : u.gathering = s.gathering := before .gathering (by decide)
  have carousel : u.carousel = s.carousel := before .carousel (by decide)
  have format : u.format = s.format := before .format (by decide)
  have glue : u.glue = s.glue := before .glue (by decide)
  have miller : u.miller = s.miller := before .miller (by decide)
  have cover : u.cover = s.cover := before .cover (by decide)
  have pot : u.pot = s.pot := before .pot (by decide)
  have clamps : ∀ p, s.clampAt p = u.clampAt p := fun p => by rw [State.clampAt, State.clampAt, carousel]
  have phase' : t.phase = v.phase := after .phase (by decide)
  have stations' : t.stations = v.stations := after .stations (by decide)
  have gathering' : t.gathering = v.gathering := after .gathering (by decide)
  have carousel' : t.carousel = v.carousel := after .carousel (by decide)
  have format' : t.format = v.format := after .format (by decide)
  have glue' : t.glue = v.glue := after .glue (by decide)
  have miller' : t.miller = v.miller := after .miller (by decide)
  have cover' : t.cover = v.cover := after .cover (by decide)
  have pot' : t.pot = v.pot := after .pot (by decide)
  obtain ⟨same, rest⟩ := h
  refine ⟨((before.trans same).trans after).mono (by decide), ?_⟩
  unfold PendingTaken at rest ⊢
  rw [phase', stations', gathering', carousel', format', glue', miller', cover', pot', readingAfter, clamps, clamps, ← phase,
    ← stations, ← gathering, ← carousel, ← format, ← glue, ← miller, ← cover, ← pot, ← readingBefore, ← acting]
  exact rest

theorem Noticed.modeChanged {m : LineMode} {s t : State}
    (h : Noticed (fun c => if c = 3 ∨ (c = 4 ∧ m = .halted) then 1 else 0) s t) (other : m ≠ .halted) :
    Noticed (oneNotice .modeChanged) s t :=
  h.congr fun c => by by_cases three : c = 3 <;> simp [three, other, oneNotice, Attention.number]

/-! ### The timers of Line control (R159, R167) -/

theorem State.stableExpiry_of_due {s : State} (warming : s.line.mode = .warming) {u : Nat} (runs : s.line.stableAt = some u)
    (passed : u ≤ s.now) : s.stableExpiry = s.changeMode (if s.line.runWhenReady then .running else .ready) :=
  if_pos ⟨warming, by rw [runs]; exact decide_eq_true passed⟩

theorem State.restExpiry_of_due {s : State} (rests : s.line.mode = .ready ∨ s.line.mode = .setback) {u : Nat}
    (runs : s.line.restAt = some u) (passed : u ≤ s.now) :
    s.restExpiry = s.changeMode (if s.line.mode = .ready then .setback else .cold) := by
  rw [State.restExpiry, if_pos (by rw [runs]; exact decide_eq_true passed)]
  rcases rests with mode | mode <;> simp [mode]

/-- What a change of the line mode at an event is, the time of the event having passed. -/
theorem State.later_changeMode (m : LineMode) (other : m ≠ .halted) (dt : Nat) (s : State) :
    Later dt s ((s.elapse dt).changeMode m) ∧ Entered m s ((s.elapse dt).changeMode m) ∧
      ModeFrame m s ((s.elapse dt).changeMode m) ∧ Noticed (oneNotice .modeChanged) s ((s.elapse dt).changeMode m) ∧
      BytesBut modeWords s ((s.elapse dt).changeMode m) :=
  ⟨by simp [Later], (s.elapse dt).changeMode_entered m,
    ((s.elapse dt).changeMode_modeFrame m).between ((s.elapse_same dt).mono (by decide)) rfl rfl (SameBut.refl _ _) rfl,
    Noticed.modeChanged ((s.elapse dt).changeMode_noticed m) other, State.changeMode_bytes m (s.elapse dt)⟩

/-- Settles O49: each expiry is one change of the line mode. -/
theorem lineTimersChangeMode : Obligations.LineTimersChangeMode := by
  refine ⟨fun s dt warming ⟨u, runs, passed⟩ m hm => ?_, fun s dt rests ⟨u, runs, passed⟩ m hm => ?_⟩
  · have run := State.stableExpiry_of_due (s := s.elapse dt) warming runs passed
    rw [show (if (s.elapse dt).line.runWhenReady then LineMode.running else .ready) = m from hm.symm] at run
    have other : m ≠ .halted := by rw [hm]; split <;> decide
    obtain ⟨later, entered, frame, noticed, bytes⟩ := State.later_changeMode m other dt s
    refine ⟨_, congrArg Host.Outcome.next run, later, entered, frame, ?_, noticed, bytes⟩
    rw [State.changeMode_line]
    simp [changeTimers, warming]
  · have run := State.restExpiry_of_due (s := s.elapse dt) rests runs passed
    rw [show (if (s.elapse dt).line.mode = .ready then LineMode.setback else .cold) = m from hm.symm] at run
    have other : m ≠ .halted := by rw [hm]; split <;> decide
    exact ⟨_, congrArg Host.Outcome.next run, State.later_changeMode m other dt s⟩

/-! ### The start key (R158) -/

/-- A press in READY: the line runs. -/
theorem State.keyPress_ready {s : State} (up : s.pins.startKey = false) (ready : s.line.mode = .ready) :
    s.keyPress = (s.updPins fun p => { p with startKey := true }).changeMode .running := by
  rw [State.keyPress, if_neg (by simp [up])]
  simp [ready]

theorem State.keyPress_halted {s : State} (up : s.pins.startKey = false) (halted : s.line.mode = .halted) :
    s.keyPress = if s.line.causes.estop then s.updPins fun p => { p with startKey := true }
      else (s.updPins fun p => { p with startKey := true }).beginInch := by
  rw [State.keyPress, if_neg (by simp [up])]
  simp [halted]

theorem State.keyPress_other {s : State} (up : s.pins.startKey = false) (ready : s.line.mode ≠ .ready)
    (halted : s.line.mode ≠ .halted) : s.keyPress = s.updPins fun p => { p with startKey := true } := by
  rw [State.keyPress, if_neg (by simp [up])]
  cases mode : s.line.mode <;> simp_all

/-- The key down, the time of the press having passed. -/
theorem State.pressed_same (dt : Nat) (s : State) :
    SameBut [.now, .pins] s ((s.elapse dt).updPins fun p => { p with startKey := true }) := by
  intro p hp
  cases p <;> simp [Part.same] at hp ⊢

/-- Settles O48: a press by the mode, and a release. -/
theorem startKeyRunsAndInches : Obligations.StartKeyRunsAndInches := by
  refine ⟨fun s dt up => ⟨(s.elapse dt).keyPress, rfl, ?_⟩, fun s dt => ⟨_, rfl, rfl, rfl, ?_, fun p hp => ?_,
    BytesBut.of_mem rfl⟩⟩
  · have up' : (s.elapse dt).pins.startKey = false := up
    have pressed := s.pressed_same dt
    by_cases ready : s.line.mode = .ready
    · rw [State.keyPress_ready up' ready]
      generalize hu : (s.elapse dt).updPins (fun p => { p with startKey := true }) = u at pressed
      have now : u.now = s.now + dt := by rw [← hu]; rfl
      have pins : u.pins = { s.pins with startKey := true } := by rw [← hu]; rfl
      have port : u.port = s.port := pressed .port (by decide)
      have line : u.line = s.line := pressed .line (by decide)
      have mem : u.mem = s.mem := by rw [← hu]; rfl
      refine ⟨by simpa [Later] using now, by simp [pins], fun _ => ⟨?_, ?_, ?_, ?_⟩, fun halted => ?_, fun other => absurd ready other⟩
      · exact (u.changeMode_entered .running).between (by decide) pressed (by decide) (by rw [line]) (by rw [line])
          (by rw [line]) (by rw [line]) (by rw [port]) (SameBut.refl [] _) (by decide) rfl rfl
      · refine (u.changeMode_modeFrame .running).between (fun p hp => ?_) (by rw [line]) (by rw [port]) (SameBut.refl _ _) rfl
        rw [← hu]
        cases p <;> simp [Part.same] at hp ⊢
      · exact Noticed.modeChanged ((u.changeMode_noticed .running).of_counts (by rw [port])) (by decide)
      · exact ((BytesBut.of_mem (w := []) mem).trans (State.changeMode_bytes .running u)).mono (by decide)
      · rw [ready] at halted; cases halted
    · by_cases halted : s.line.mode = .halted
      · rw [State.keyPress_halted up' halted]
        cases estop : s.line.causes.estop
        · rw [if_neg (by simp [estop])]
          refine ⟨rfl, rfl, fun k => absurd k ready, fun _ _ => ⟨rfl, rfl, fun p hp => ?_, BytesBut.of_mem rfl⟩,
            fun _ k => absurd ⟨halted, rfl⟩ k⟩
          cases p <;> simp [Part.same, State.beginInch] at hp ⊢
        · rw [if_pos (by simp [estop])]
          exact ⟨rfl, rfl, fun k => absurd k ready, fun _ k => (by cases k), fun _ _ => ⟨pressed, BytesBut.of_mem rfl⟩⟩
      · rw [State.keyPress_other up' ready halted]
        exact ⟨rfl, rfl, fun k => absurd k ready, fun k => absurd k halted, fun _ _ => ⟨pressed, BytesBut.of_mem rfl⟩⟩
  · change s.line.stopInch = _
    unfold LineControl.stopInch
    split <;> simp_all
  · cases p <;> simp [Part.same] at hp ⊢

/-! ### The schedule notice (R168) -/

/-- The state in which Line control meets a schedule notice: the word stands, the time has passed. -/
def State.noticed (dt : Nat) (value : Word) (s : State) : State := (s.elapse dt).putWord Header.scheduleNotice value

theorem State.noticed_effect (dt : Nat) (value : Word) (s : State) :
    SameBut [.now] s (s.noticed dt value) ∧ BytesBut [Header.scheduleNotice] s (s.noticed dt value) ∧
      (s.noticed dt value).now = s.now + dt ∧ (s.noticed dt value).word Header.scheduleNotice = value ∧
      (s.noticed dt value).word Header.wakeEnables = s.word Header.wakeEnables := by
  have bytes : BytesBut [Header.scheduleNotice] s (s.noticed dt value) := State.putWord_bytes _ value (s.elapse dt)
  refine ⟨fun p hp => ?_, bytes, rfl, State.word_putWord_same _ _ _, bytes.word (by decide)⟩
  cases p <;> simp [Part.same, State.noticed] at hp ⊢

theorem exec_scheduleNotice (dt : Nat) (value : Word) (s : State) :
    exec (.scheduleNotice dt value) s = .next (s.noticed dt value).notice := by
  have write : (s.elapse dt).hostWrite Header.scheduleNotice value = s.noticed dt value :=
    State.hostWrite_header value (s.elapse dt) (by decide)
  rw [← write]
  rfl

/-- Line control's answer by the mode, its enable and the causes (R168). -/
theorem State.notice_eq {s : State} {w : Word} (hw : w = s.word Header.wakeEnables) :
    s.notice =
      if s.line.mode = .ready ∧ w.getLsbD 0 = true then s.changeMode .running
      else if s.line.mode = .warming ∧ w.getLsbD 0 = true then s.updLine fun l => { l with runWhenReady := true }
      else if ((s.line.mode = .setback ∧ w.getLsbD 1 = true) ∨ (s.line.mode = .cold ∧ w.getLsbD 2 = true)) ∧
          s.line.causes.any = false then s.beginWarming true
      else s := by
  unfold State.notice
  rw [← hw]
  cases mode : s.line.mode <;> simp

theorem Entered.runWhenReady {m : LineMode} {s t : State} (h : Entered m s t) (r : Bool) :
    Entered m s (t.updLine fun l => { l with runWhenReady := r }) := h

/-- What waking from a rest with the mark given is (R157, R168). -/
theorem State.beginWarming_effect (r : Bool) (s : State) :
    Entered .warming s (s.beginWarming r) ∧ ModeFrame .warming s (s.beginWarming r) ∧
      (s.beginWarming r).line.runWhenReady = r ∧ Noticed (oneNotice .modeChanged) s (s.beginWarming r) ∧
      BytesBut modeWords s (s.beginWarming r) := by
  have entered := s.changeMode_entered .warming
  have frame := s.changeMode_modeFrame .warming
  have noticed := Noticed.modeChanged (s.changeMode_noticed .warming) (by decide)
  have bytes := State.changeMode_bytes .warming s
  unfold State.beginWarming
  generalize s.changeMode .warming = v at *
  have marked : SameBut [.line, .port] v (v.updLine fun l => { l with runWhenReady := r }) := fun p hp => by
    cases p <;> simp [Part.same] at hp ⊢
  exact ⟨entered.runWhenReady r, frame.between (SameBut.refl _ s) rfl rfl marked rfl, rfl, noticed, bytes⟩

/-- Settles O50: Line control's answer by the mode and its enable, in the state in which the word stands. -/
theorem scheduleNoticeWakes : Obligations.ScheduleNoticeWakes := by
  intro s dt value w hw
  obtain ⟨same, bytes, now, written, enables⟩ := s.noticed_effect dt value
  refine ⟨_, exec_scheduleNotice dt value s, ?_⟩
  have line : (s.noticed dt value).line = s.line := same .line (by decide)
  have port : (s.noticed dt value).port = s.port := same .port (by decide)
  have pot : (s.noticed dt value).pot = s.pot := same .pot (by decide)
  rw [← enables] at hw
  generalize s.noticed dt value = u at *
  have before : SameBut [.now, .line, .port] s u := same.mono (by decide)
  have counts : u.port.counts = s.port.counts := by rw [port]
  rw [State.notice_eq hw, line]
  split
  · have entered := (u.changeMode_entered .running).congr before (by rw [line]) (by rw [port]) (SameBut.refl _ _) rfl rfl
    have frame := (u.changeMode_modeFrame .running).between before (by rw [line]) (by rw [port]) (SameBut.refl _ _) rfl
    have modeBytes := State.changeMode_bytes .running u
    exact ⟨by simp [Later, now], (modeBytes.word (by decide)).trans written, entered, frame,
      Noticed.modeChanged ((u.changeMode_noticed .running).of_counts counts) (by decide),
      (bytes.trans modeBytes).mono (by decide)⟩
  · split
    · refine ⟨now, written, by rw [State.updLine_line, line], (same.trans (w := [.line]) fun p hp => ?_).mono (by decide), bytes⟩
      cases p <;> simp [Part.same] at hp ⊢
    · split
      · obtain ⟨entered, frame, mark, noticed, modeBytes⟩ := u.beginWarming_effect true
        exact ⟨by simp [Later, now, State.beginWarming], (modeBytes.word (by decide)).trans written,
          entered.congr before (by rw [line]) (by rw [port]) (SameBut.refl _ _) rfl rfl,
          frame.between before (by rw [line]) (by rw [port]) (SameBut.refl _ _) rfl, mark, noticed.of_counts counts,
          (bytes.trans modeBytes).mono (by decide)⟩
      · exact ⟨now, written, same, bytes⟩

/-! ### The mode commands (R157, R160) -/

/-- A command whose effect is a change of the line mode, from the host's write to the answer (R156, R157, R172). -/
theorem State.taking_mode {dt : Nat} {code : Word} {m : LineMode} {s v t : State}
    (entered : Entered m (s.taking dt code none) v) (frame : ModeFrame m (s.taking dt code none) v)
    (noticed : Noticed (oneNotice .modeChanged) (s.taking dt code none) v)
    (bytes : BytesBut modeWords (s.taking dt code none) v) (now : v.now = (s.taking dt code none).now)
    (answer : t = v.slotDone (.plain .ok)) : Later dt s t ∧ ModeCommandDone m s t ∧ t.line = v.line := by
  subst answer
  obtain ⟨takenNow, takenPort, takenSame, takenBytes⟩ := s.taking_effect dt code none
  generalize s.taking dt code none = a at *
  have line : a.line = s.line := takenSame .line (by decide)
  have before : SameBut [.now, .line, .port] s a := takenSame.mono (by decide)
  have doneSame := v.slotDone_sameBut (.plain .ok)
  have doneBytes := v.slotDone_bytes (.plain .ok)
  refine ⟨?_, ⟨?_, ?_, (v.slotDone_effect (.plain .ok)).1, ?_, State.slotDone_judged _ v, ?_⟩, State.slotDone_line _ v⟩
  · exact (doneSame .now (by decide)).trans (now.trans takenNow)
  · exact entered.congr before (by rw [line]) (by rw [takenPort]) doneSame (doneBytes.word (by decide))
      (by rw [State.slotDone_port])
  · exact frame.between before (by rw [line]) (by rw [takenPort]) (doneSame.mono (by decide)) (by rw [State.slotDone_port])
  · exact ((noticed.of_counts (by rw [takenPort])).slotDone (.plain .ok)).congr (by decide)
  · exact ((takenBytes.trans bytes).trans doneBytes).mono (by decide)

theorem exec_warm_of_idle (dt : Nat) (s : State) (idle : s.port.taken = false) :
    exec (.warm dt) s = .next ((s.taking dt 2 none).runWarm.1.slotDone (s.taking dt 2 none).runWarm.2) :=
  congrArg Host.Outcome.next (s.command_of_idle dt 2 none State.runWarm idle)

theorem exec_start_of_idle (dt : Nat) (s : State) (idle : s.port.taken = false) :
    exec (.start dt) s = .next ((s.taking dt 3 none).runStart.1.slotDone (s.taking dt 3 none).runStart.2) :=
  congrArg Host.Outcome.next (s.command_of_idle dt 3 none State.runStart idle)

theorem exec_runOut_of_idle (dt : Nat) (s : State) (idle : s.port.taken = false) :
    exec (.runOut dt) s = .next ((s.taking dt 4 none).runRunOut.1.slotDone (s.taking dt 4 none).runRunOut.2) :=
  congrArg Host.Outcome.next (s.command_of_idle dt 4 none State.runRunOut idle)

theorem exec_resume_of_idle (dt : Nat) (s : State) (idle : s.port.taken = false) :
    exec (.resume dt) s = .next ((s.taking dt 5 none).runResume.1.slotDone (s.taking dt 5 none).runResume.2) :=
  congrArg Host.Outcome.next (s.command_of_idle dt 5 none State.runResume idle)

theorem exec_clearClamp_of_idle (dt : Nat) (arg : Word) (s : State) (idle : s.port.taken = false) :
    exec (.clearClamp dt arg) s =
      .next (((s.taking dt 6 (some arg)).runClearClamp arg).1.slotDone ((s.taking dt 6 (some arg)).runClearClamp arg).2) :=
  congrArg Host.Outcome.next (s.command_of_idle dt 6 (some arg) (State.runClearClamp arg) idle)

theorem exec_setback_of_idle (dt : Nat) (s : State) (idle : s.port.taken = false) :
    exec (.setback dt) s = .next ((s.taking dt 9 none).runSetback.1.slotDone (s.taking dt 9 none).runSetback.2) :=
  congrArg Host.Outcome.next (s.command_of_idle dt 9 none State.runSetback idle)

theorem exec_cool_of_idle (dt : Nat) (s : State) (idle : s.port.taken = false) :
    exec (.cool dt) s = .next ((s.taking dt 10 none).runCool.1.slotDone (s.taking dt 10 none).runCool.2) :=
  congrArg Host.Outcome.next (s.command_of_idle dt 10 none State.runCool idle)

/-- A code that is no command's selects none (R173). -/
theorem State.arrival_unknown {code : Word} (arg : Word) (s : State) (unknown : code.toNat = 0 ∨ 11 < code.toNat) :
    s.arrival code arg = if s.port.taken then s else s.carryOut State.runUnknown := by
  unfold State.arrival
  split
  · rfl
  · split
    case h_12 => rfl
    all_goals omega

theorem exec_unknownCommand_of_idle (dt : Nat) (code : Word) (s : State) (idle : s.port.taken = false)
    (unknown : code.toNat = 0 ∨ 11 < code.toNat) :
    exec (.unknownCommand dt code) s = .next ((s.taking dt code none).slotDone (.plain .unknownCommand)) :=
  congrArg Host.Outcome.next
    ((State.arrival_unknown _ _ unknown).trans (s.command_of_idle dt code none State.runUnknown idle))

theorem State.modeCommand_accepted {accepted : LineMode → Bool} {m : LineMode} {s : State}
    (h : accepted s.line.mode = true) : s.modeCommand accepted m = (s.changeMode m, .plain .ok) := if_pos h

theorem State.modeCommand_busy {accepted : LineMode → Bool} {m : LineMode} {s : State}
    (h : accepted s.line.mode = false) : s.modeCommand accepted m = (s, .plain .busy) := if_neg (by simp [h])

/-- A mode command accepted, from the host's write to the answer. -/
theorem State.taking_modeCommand {accepted : LineMode → Bool} {m : LineMode} (other : m ≠ .halted) (dt : Nat) (code : Word)
    {s : State} (h : accepted s.line.mode = true) {t : State}
    (answer : t = ((s.taking dt code none).modeCommand accepted m).1.slotDone ((s.taking dt code none).modeCommand accepted m).2) :
    Later dt s t ∧ ModeCommandDone m s t := by
  have line : (s.taking dt code none).line = s.line := (s.taking_effect dt code none).2.2.1 .line (by decide)
  rw [State.modeCommand_accepted (by rw [line]; exact h)] at answer
  obtain ⟨later, done, -⟩ := State.taking_mode ((s.taking dt code none).changeMode_entered m)
    ((s.taking dt code none).changeMode_modeFrame m)
    (Noticed.modeChanged ((s.taking dt code none).changeMode_noticed m) other) (State.changeMode_bytes m _) (by simp) answer
  exact ⟨later, done⟩

/-! ### RUN_OUT (R157, R160) -/

/-- Notices after others, where a word raised before and not after keeps its count. -/
theorem Noticed.after {m n : Fin 8 → Nat} {s t u : State} (h : Noticed m s t) (k : Noticed n t u)
    (stays : ∀ c, m c ≠ 0 → n c = 0 → u.word (Header.count c) = t.word (Header.count c)) :
    Noticed (fun c => m c + n c) s u := by
  intro c
  obtain ⟨first, written⟩ := h c
  obtain ⟨second, written'⟩ := k c
  refine ⟨?_, fun raised => ?_⟩
  · rw [second, first, BitVec.add_assoc, ← BitVec.ofNat_add]
  · by_cases quiet : n c = 0
    · have before : m c ≠ 0 := fun none => raised (by simp [none, quiet])
      rw [stays c before quiet, written before, second, quiet]
      simp
    · exact written' quiet

theorem State.inFlight_congr {s t : State} (cells : t.gathering.cells = s.gathering.cells)
    (places : t.carousel.places = s.carousel.places) (trim : t.trim = s.trim) : t.inFlight = s.inFlight := by
  simp only [State.inFlight, State.slots, cells, places, trim]

theorem State.anyUnknown_congr {s t : State} (cells : t.gathering.cells = s.gathering.cells)
    (places : t.carousel.places = s.carousel.places) : t.anyUnknown = s.anyUnknown := by
  simp only [State.anyUnknown, State.slots, cells, places]

theorem State.changeMode_inFlight (m : LineMode) (s : State) : (s.changeMode m).inFlight = s.inFlight := by
  obtain ⟨-, cells, places, -⟩ := s.changeMode_modeFrame m
  exact State.inFlight_congr cells places (by simp)

theorem State.emptyingCheck_stays {s : State} (h : s.line.mode = .emptying → s.inFlight ≠ 0) : s.emptyingCheck = s :=
  if_neg fun k => h k.1 k.2

theorem State.emptyingCheck_ends {s : State} (mode : s.line.mode = .emptying) (none_left : s.inFlight = 0) :
    s.emptyingCheck = s.changeMode .ready := if_pos ⟨mode, none_left⟩

/-- An entry to EMPTYING from RUNNING that ends at once in READY (R160). -/
theorem State.emptied_effect {s : State} (running : s.line.mode = .running) :
    Entered .ready s ((s.changeMode .emptying).changeMode .ready) ∧
      ModeFrame .ready s ((s.changeMode .emptying).changeMode .ready) ∧
      Noticed (fun c => if c = 3 then 2 else 0) s ((s.changeMode .emptying).changeMode .ready) ∧
      BytesBut modeWords s ((s.changeMode .emptying).changeMode .ready) := by
  have acting : s.line.mode.acting = true := by rw [running]; rfl
  obtain ⟨mode, -, drive, reference, -, -, idle, -, -, -, -, seq⟩ := s.changeMode_entered .emptying
  obtain ⟨same, -, -, -, phase, parts, works, -, -, -, -, -, pot, -, reading⟩ := s.changeMode_modeFrame .emptying
  obtain ⟨stations, gathering, carousel, format, glue⟩ := parts (.inl rfl)
  obtain ⟨miller, cover⟩ := works (by rw [acting]; rfl)
  have noticed := Noticed.modeChanged (s.changeMode_noticed .emptying) (by decide)
  have bytes := State.changeMode_bytes .emptying s
  have phaseSame := phase (.inr acting)
  have potSame := pot (by decide)
  rw [acting] at drive reference
  generalize s.changeMode .emptying = u at *
  have before : SameBut [.now, .line, .port] s u := by
    intro p hp
    cases p
    case now | line | port => simp at hp
    case phase => exact phaseSame
    case stations => exact stations
    case gathering => exact gathering
    case carousel => exact carousel
    case format => exact format
    case miller => exact miller
    case cover => exact cover
    case glue => exact glue
    case pot => exact potSame
    all_goals exact same _ (by decide)
  have noticed' := Noticed.modeChanged (u.changeMode_noticed .ready) (by decide)
  refine ⟨?_, ?_, ?_, (bytes.trans (State.changeMode_bytes .ready u)).mono (by decide)⟩
  · exact (u.changeMode_entered .ready).between (by decide) before (by decide) (by rw [mode, acting]; rfl) drive reference idle
      seq (SameBut.refl [] _) (by decide) rfl rfl
  · exact (u.changeMode_modeFrame .ready).between before (by rw [mode, acting]; rfl) reading (SameBut.refl _ _) rfl
  · exact (noticed.after noticed' fun c raised quiet => absurd quiet raised).congr (by decide)

/-- Settles O52: each command accepted is one change of the line mode between the host's write and the answer; a RUN_OUT of an
empty line is two. -/
theorem modeCommandsAccepted : Obligations.ModeCommandsAccepted := by
  intro s dt idle
  have taken := fun code => (s.taking_effect dt code none).2.2.1
  refine ⟨fun mode calm => ?_, fun mode => ?_, fun mode busy => ?_, fun mode free => ?_, fun mode => ?_, fun mode => ?_⟩
  · have line : (s.taking dt 2 none).line = s.line := taken 2 .line (by decide)
    obtain ⟨entered, frame, mark, noticed, bytes⟩ := (s.taking dt 2 none).beginWarming_effect false
    have warm : (s.taking dt 2 none).runWarm = ((s.taking dt 2 none).beginWarming false, .plain .ok) := by
      rw [State.runWarm, line, if_pos mode, calm]
      rfl
    refine ⟨_, exec_warm_of_idle dt s idle, ?_⟩
    rw [warm]
    obtain ⟨later, done, lineSame⟩ := State.taking_mode entered frame noticed bytes (by simp [State.beginWarming]) rfl
    exact ⟨later, done, by rw [lineSame]; exact mark⟩
  · exact ⟨_, exec_start_of_idle dt s idle, State.taking_modeCommand (by decide) dt 3 (by simp [mode]) rfl⟩
  · have line : (s.taking dt 4 none).line = s.line := taken 4 .line (by decide)
    have flight : (s.taking dt 4 none).inFlight = s.inFlight :=
      State.inFlight_congr (by rw [show (s.taking dt 4 none).gathering = s.gathering from taken 4 .gathering (by decide)])
        (by rw [show (s.taking dt 4 none).carousel = s.carousel from taken 4 .carousel (by decide)])
        (taken 4 .trim (by decide))
    have stays : ((s.taking dt 4 none).changeMode .emptying).emptyingCheck = (s.taking dt 4 none).changeMode .emptying :=
      State.emptyingCheck_stays fun _ => by rw [State.changeMode_inFlight, flight]; exact busy
    have run : (s.taking dt 4 none).runRunOut = ((s.taking dt 4 none).changeMode .emptying, .plain .ok) := by
      rw [State.runRunOut, State.modeCommand_accepted (by rw [line]; simp [mode])]
      dsimp only
      rw [stays]
    refine ⟨_, exec_runOut_of_idle dt s idle, ?_⟩
    rw [run]
    obtain ⟨later, done, -⟩ := State.taking_mode ((s.taking dt 4 none).changeMode_entered .emptying)
      ((s.taking dt 4 none).changeMode_modeFrame .emptying)
      (Noticed.modeChanged ((s.taking dt 4 none).changeMode_noticed .emptying) (by decide))
      (State.changeMode_bytes .emptying _) (by simp) rfl
    exact ⟨later, done⟩
  · obtain ⟨takenNow, takenPort, takenSame, takenBytes⟩ := s.taking_effect dt 4 none
    have run := exec_runOut_of_idle dt s idle
    generalize s.taking dt 4 none = a at *
    have line : a.line = s.line := takenSame .line (by decide)
    have flight : a.inFlight = s.inFlight :=
      State.inFlight_congr (by rw [show a.gathering = s.gathering from takenSame .gathering (by decide)])
        (by rw [show a.carousel = s.carousel from takenSame .carousel (by decide)]) (takenSame .trim (by decide))
    have ends : (a.changeMode .emptying).emptyingCheck = (a.changeMode .emptying).changeMode .ready :=
      State.emptyingCheck_ends (a.changeMode_entered .emptying).1 (by rw [State.changeMode_inFlight, flight]; exact free)
    have ran : a.runRunOut = ((a.changeMode .emptying).changeMode .ready, .plain .ok) := by
      rw [State.runRunOut, State.modeCommand_accepted (by rw [line]; simp [mode])]
      dsimp only
      rw [ends]
    obtain ⟨entered, frame, noticed, bytes⟩ := State.emptied_effect (s := a) (by rw [line]; exact mode)
    have now : ((a.changeMode .emptying).changeMode .ready).now = a.now := by simp
    rw [ran] at run
    dsimp only at run
    generalize (a.changeMode .emptying).changeMode .ready = v at *
    have before : SameBut [.now, .line, .port] s a := takenSame.mono (by decide)
    have doneSame := v.slotDone_sameBut (.plain .ok)
    have doneBytes := v.slotDone_bytes (.plain .ok)
    refine ⟨_, run, (doneSame .now (by decide)).trans (now.trans takenNow), ?_, ?_, (v.slotDone_effect (.plain .ok)).1, ?_,
      State.slotDone_judged _ v, ((takenBytes.trans bytes).trans doneBytes).mono (by decide)⟩
    · exact entered.congr before (by rw [line]) (by rw [takenPort]) doneSame (doneBytes.word (by decide))
        (by rw [State.slotDone_port])
    · exact frame.between before (by rw [line]) (by rw [takenPort]) (doneSame.mono (by decide)) (by rw [State.slotDone_port])
    · exact ((noticed.of_counts (by rw [takenPort])).slotDone (.plain .ok)).congr (by decide)
  · exact ⟨_, exec_setback_of_idle dt s idle, State.taking_modeCommand (by decide) dt 9 (by simp [mode]) rfl⟩
  · refine ⟨_, exec_cool_of_idle dt s idle, State.taking_modeCommand (by decide) dt 10 ?_ rfl⟩
    rcases mode with h | h | h <;> simp [h]

end Sys2Proof.Machine
end

section
/-!
Commands turned away (R85, R157, R163, R164, R172, R173, R175), and RESUME (R10, R16, R164, R165).
-/

namespace Sys2Proof.Machine

/-! ### Commands ignored (R172) -/

/-- The words the host writes for a command. -/
theorem State.hostIssue_words (code : Word) (arg : Option Word) (s : State) :
    (s.hostIssue code arg).word Header.commandState = 1 ∧ (s.hostIssue code arg).word Header.commandCode = code ∧
      (∀ w ∈ arg, (s.hostIssue code arg).word Header.arg1 = w) ∧
      BytesBut ([Header.commandState, Header.commandCode] ++ if arg.isSome then [Header.arg1] else []) s
        (s.hostIssue code arg) := by
  have state := fun u : State => State.hostWrite_header (a := Header.commandState) 1 u (by decide)
  cases arg with
  | none =>
    have eq : s.hostIssue code none = (s.putWord Header.commandCode code).putWord Header.commandState 1 := by
      rw [State.hostIssue, State.hostWrite_header code s (by decide), state]
    rw [eq]
    refine ⟨State.word_putWord_same _ _ _, ?_, fun w hw => (by cases hw), ?_⟩
    · rw [(State.putWord_bytes _ _ _).word (by decide), State.word_putWord_same]
    · exact ((State.putWord_bytes _ _ _).trans (State.putWord_bytes _ _ _)).mono (by decide)
  | some w =>
    have eq : s.hostIssue code (some w) =
        ((s.putWord Header.commandCode code).putWord Header.arg1 w).putWord Header.commandState 1 := by
      rw [State.hostIssue, State.hostWrite_header code s (by decide), state]
      exact congrArg (State.putWord Header.commandState 1) (State.hostWrite_header w _ (by decide))
    rw [eq]
    refine ⟨State.word_putWord_same _ _ _, ?_, fun v hv => ?_, ?_⟩
    · rw [(State.putWord_bytes _ _ _).word (by decide), (State.putWord_bytes _ _ _).word (by decide),
        State.word_putWord_same]
    · rw [(State.putWord_bytes _ _ _).word (by decide), State.word_putWord_same]
      exact Option.mem_some_iff.mp hv
    · exact (((State.putWord_bytes _ _ _).trans (State.putWord_bytes _ _ _)).trans (State.putWord_bytes _ _ _)).mono
        (w := [Header.commandState, Header.commandCode, Header.arg1]) (by decide)

/-- A command issued while the slot is TAKEN leaves what the host wrote. -/
theorem exec_slotCommand_of_taken {c : Instr} {x : Word × Option Word} (slot : slotCommand c = some x) (s : State)
    (taken : s.port.taken = true) : ∃ dt, exec c s = .next ((s.elapse dt).hostIssue x.1 x.2) := by
  obtain ⟨dt, w, arrives⟩ := exec_of_slotCommand slot s
  have port : ((s.elapse dt).hostIssue x.1 x.2).port = s.port := ((s.elapse dt).hostIssue_effect x.1 x.2).1 .port (by decide)
  exact ⟨dt, by rw [arrives, State.arrival, if_pos (by rw [port]; exact taken)]⟩

/-! ### Commands answered without effect -/

theorem State.runWarm_busy {s : State} (cold : s.line.mode ≠ .cold) (setback : s.line.mode ≠ .setback) :
    s.runWarm = (s, .plain .busy) := if_neg fun h => h.elim cold setback

theorem State.runWarm_faultPresent {s : State} (rests : s.line.mode = .cold ∨ s.line.mode = .setback)
    (causes : s.line.causes.any = true) : s.runWarm = (s, ⟨.faultPresent, s.line.causes.word⟩) := by
  rw [State.runWarm, if_pos rests, if_pos causes]

theorem State.runResume_busy {s : State} (h : s.line.mode ≠ .halted) : s.runResume = (s, .plain .busy) := if_pos h

theorem State.runResume_faultPresent {s : State} (halted : s.line.mode = .halted) (blocked : s.line.causes.blocking = true) :
    s.runResume = (s, ⟨.faultPresent, s.line.causes.word⟩) := by
  rw [State.runResume, if_neg (not_not.mpr halted), if_pos blocked]

theorem State.runRunOut_busy {s : State} (running : s.line.mode ≠ .running) (emptying : s.line.mode = .emptying → s.inFlight ≠ 0) :
    s.runRunOut = (s, .plain .busy) := by
  rw [State.runRunOut, State.modeCommand_busy (by simp [running])]
  dsimp only
  rw [State.emptyingCheck_stays emptying]

theorem State.runClearClamp_badArg {arg : Word} (s : State) (h : 23 < arg.toNat) : s.runClearClamp arg = (s, .plain .badArg) :=
  if_pos h

theorem State.runClearClamp_busy {arg : Word} {s : State} (range : arg.toNat ≤ 23) (h : s.line.mode ≠ .halted) :
    s.runClearClamp arg = (s, .plain .busy) := by
  rw [State.runClearClamp, if_neg (by omega), if_pos h]

theorem exec_loadConfig_of_idle (dt : Nat) (s : State) (idle : s.port.taken = false) :
    exec (.loadConfig dt) s = .next ((s.elapse dt).hostIssue 1 none).loadTaken := by
  have port : ((s.elapse dt).hostIssue 1 none).port = s.port := ((s.elapse dt).hostIssue_effect 1 none).1 .port (by decide)
  exact congrArg Host.Outcome.next (if_neg (by rw [port, idle]; decide))

/-- The acceptance of LOAD_CONFIG looks at the mode, the flight and the UNKNOWN places (R175). -/
theorem State.loadAccepted_iff (s : State) :
    s.loadAccepted = true ↔
      (s.line.mode = .cold ∨ s.line.mode = .ready ∨ s.line.mode = .setback) ∧ s.inFlight = 0 ∧ s.anyUnknown = false := by
  simp [State.loadAccepted, or_assoc, and_assoc]

theorem State.loadAccepted_congr {ps : List Part} {s t : State} (same : SameBut ps s t)
    (apart : ∀ p ∈ [Part.line, .gathering, .carousel, .trim], p ∉ ps) : t.loadAccepted = s.loadAccepted := by
  have line : t.line = s.line := same .line (apart _ (by decide))
  have gathering : t.gathering = s.gathering := same .gathering (apart _ (by decide))
  have carousel : t.carousel = s.carousel := same .carousel (apart _ (by decide))
  have flight : t.inFlight = s.inFlight :=
    State.inFlight_congr (by rw [gathering]) (by rw [carousel]) (same .trim (apart _ (by decide)))
  have unknown : t.anyUnknown = s.anyUnknown := State.anyUnknown_congr (by rw [gathering]) (by rw [carousel])
  rw [State.loadAccepted, State.loadAccepted, line, flight, unknown]

/-- Settles O51: a TAKEN slot leaves the host's words; an idle one answers in the state in which it has taken the command. -/
theorem commandsTurnedAway : Obligations.CommandsTurnedAway := by
  refine ⟨fun s c taken x slot => ?_, fun s dt arg idle => ?_⟩
  · obtain ⟨dt, run⟩ := exec_slotCommand_of_taken slot s taken
    obtain ⟨state, code, arg, bytes⟩ := (s.elapse dt).hostIssue_words x.1 x.2
    have same := ((s.elapse dt).hostIssue_effect x.1 x.2).1
    exact ⟨_, run, (Nat.le_add_right s.now dt).trans_eq (same .now (by decide)).symm, state, code, arg,
      ((s.elapse_same dt).trans same).mono (by decide), bytes⟩
  · have line := fun code => (s.taking_effect dt code none).2.2.1 .line (by decide)
    have lineArg := (s.taking_effect dt 6 (some arg)).2.2.1 .line (by decide)
    have onlyAnswered := fun code r => s.taking_onlyAnswered dt code none r
    refine ⟨fun cold setback => ?_, fun rests causes => ?_, fun h => ?_, fun running emptying => ?_, fun h => ?_,
      fun ready setback warming => ?_, fun h => ?_, fun h => ?_, fun halted blocked => ?_, fun high => ?_, fun range h => ?_,
      fun refused => ?_, fun unknown => ?_⟩
    · have run := exec_warm_of_idle dt s idle
      rw [State.runWarm_busy (by rwa [line]) (by rwa [line])] at run
      exact ⟨_, run, onlyAnswered 2 (.plain .busy)⟩
    · have run := exec_warm_of_idle dt s idle
      rw [State.runWarm_faultPresent (by rwa [line]) (by rwa [line]), line] at run
      exact ⟨_, run, onlyAnswered 2 ⟨.faultPresent, s.line.causes.word⟩⟩
    · have run := exec_start_of_idle dt s idle
      rw [State.runStart, State.modeCommand_busy (by rw [line]; simpa using h)] at run
      exact ⟨_, run, onlyAnswered 3 (.plain .busy)⟩
    · have run := exec_runOut_of_idle dt s idle
      have same := (s.taking_effect dt 4 none).2.2.1
      have flight : (s.taking dt 4 none).inFlight = s.inFlight :=
        State.inFlight_congr (by rw [show (s.taking dt 4 none).gathering = s.gathering from same .gathering (by decide)])
          (by rw [show (s.taking dt 4 none).carousel = s.carousel from same .carousel (by decide)]) (same .trim (by decide))
      rw [State.runRunOut_busy (by rwa [line]) (by rwa [line, flight])] at run
      exact ⟨_, run, onlyAnswered 4 (.plain .busy)⟩
    · have run := exec_setback_of_idle dt s idle
      rw [State.runSetback, State.modeCommand_busy (by rw [line]; simpa using h)] at run
      exact ⟨_, run, onlyAnswered 9 (.plain .busy)⟩
    · have run := exec_cool_of_idle dt s idle
      rw [State.runCool, State.modeCommand_busy (by rw [line]; simp [ready, setback, warming])] at run
      exact ⟨_, run, onlyAnswered 10 (.plain .busy)⟩
    · have run := exec_halt_of_idle dt s idle
      rw [State.runHalt_busy _ (by rw [line]; rcases h with h | h | h <;> rw [h] <;> rfl)] at run
      exact ⟨_, run, onlyAnswered 11 (.plain .busy)⟩
    · have run := exec_resume_of_idle dt s idle
      rw [State.runResume_busy (by rwa [line])] at run
      exact ⟨_, run, onlyAnswered 5 (.plain .busy)⟩
    · have run := exec_resume_of_idle dt s idle
      rw [State.runResume_faultPresent (by rwa [line]) (by rwa [line]), line] at run
      exact ⟨_, run, onlyAnswered 5 ⟨.faultPresent, s.line.causes.word⟩⟩
    · have run := exec_clearClamp_of_idle dt arg s idle
      rw [State.runClearClamp_badArg _ high] at run
      exact ⟨_, run, s.taking_onlyAnswered dt 6 (some arg) (.plain .badArg)⟩
    · have run := exec_clearClamp_of_idle dt arg s idle
      rw [State.runClearClamp_busy range (by rwa [lineArg])] at run
      exact ⟨_, run, s.taking_onlyAnswered dt 6 (some arg) (.plain .busy)⟩
    · have same := (s.elapse_same dt).trans ((s.elapse dt).hostIssue_effect 1 none).1
      have accepted : ((s.elapse dt).hostIssue 1 none).loadAccepted = false := by
        rw [State.loadAccepted_congr same (by decide), Bool.eq_false_iff, Ne, State.loadAccepted_iff]
        rintro ⟨modes, flight, unknown⟩
        rcases refused with other | busy | lost
        · rcases modes with h | h | h <;> simp [h] at other
        · exact busy flight
        · simp [unknown] at lost
      have run := exec_loadConfig_of_idle dt s idle
      rw [State.loadTaken, if_neg (by rw [accepted]; decide)] at run
      exact ⟨_, run, onlyAnswered 1 (.plain .busy)⟩
    · have run := exec_unknownCommand_of_idle dt arg s idle unknown
      obtain ⟨later, only⟩ := onlyAnswered arg (.plain .unknownCommand)
      refine ⟨_, run, later, ?_, only⟩
      rw [(State.slotDone_effect _ _).2.2.2.word (by decide), State.taking,
        ((s.elapse dt).hostIssue arg none).slotTaken_effect.2.2.word (by decide)]
      exact ((s.elapse dt).hostIssue_words arg none).2.1

/-! ### RESUME (R10, R16, R164, R165) -/

/-- The causes that a RESUME removes are gone. -/
def State.causesLifted (s : State) : State := (s.clearCause .coverSequence).clearCause .hostHalt

theorem Causes.lifted_eq {c : Causes} (free : c.blocking = false) :
    (c.put false .coverSequence).put false .hostHalt = ⟨false, false, false, false, false, false, false⟩ := by
  obtain ⟨estop, guardOpen, jam, trimmer, coverSequence, overheat, hostHalt⟩ := c
  simpa [Causes.blocking, Causes.put, and_assoc] using free

theorem Causes.lifted_of_only {c : Causes} (free : c.blocking = false) (other : c.hostHalt = false) :
    c.put false .coverSequence = ⟨false, false, false, false, false, false, false⟩ := by
  obtain ⟨estop, guardOpen, jam, trimmer, coverSequence, overheat, hostHalt⟩ := c
  simp_all [Causes.blocking, Causes.put]

theorem State.causesLifted_effect {s : State} (free : s.line.causes.blocking = false) :
    s.causesLifted.line = { s.line with causes := ⟨false, false, false, false, false, false, false⟩ } ∧
      (s.line.causes.any = true → s.causesLifted.word Header.causes = 0) ∧ SameBut [.line] s s.causesLifted ∧
      BytesBut [Header.causes] s s.causesLifted := by
  obtain ⟨line, word, same, bytes⟩ := s.clearCause_whole .coverSequence
  obtain ⟨line', word', same', bytes'⟩ := (s.clearCause .coverSequence).clearCause_whole .hostHalt
  have causes : (s.clearCause .coverSequence).line.causes = s.line.causes.put false .coverSequence := by rw [line]
  have ends : s.causesLifted.line = { s.line with causes := ⟨false, false, false, false, false, false, false⟩ } := by
    rw [State.causesLifted, line', line, Causes.lifted_eq free]
  refine ⟨ends, fun any => ?_, (same.trans same').mono (by decide), (bytes.trans bytes').mono (by decide)⟩
  cases host : s.line.causes.hostHalt with
  | true =>
    have word := word' (by rw [causes]; exact host)
    rw [← State.causesLifted, ends] at word
    exact word.trans (show Causes.word ⟨false, false, false, false, false, false, false⟩ = 0 by decide)
  | false =>
    have cover : s.line.causes.has .coverSequence = true := by
      simp only [Causes.blocking, Bool.or_eq_false_iff] at free
      simpa [Causes.any, Causes.has, free, host] using any
    have second : s.causesLifted = s.clearCause .coverSequence :=
      if_neg (by rw [causes]; simp [Causes.has, Causes.put, host])
    rw [second, word cover, causes, Causes.lifted_of_only free host]
    rfl

/-- A clamp's book under the open-time rule (R165). -/
theorem Book.openTime_eq (point : DetectionPoint) (duration : Nat) (b : Book) :
    b.openTime point duration =
      if b.glued = true ∧ b.nipped = false ∧ b.spoil = none then
        { b with spoil := some ⟨.haltSpoil, point, BitVec.ofNat 32 (min 4294967295 duration), false⟩ }
      else b := by
  by_cases open_ : b.glued = true ∧ b.nipped = false
  · by_cases clean : b.spoil = none
    · rw [Book.openTime, if_pos open_, if_pos ⟨open_.1, open_.2, clean⟩, Book.spoilWith, clean]
    · obtain ⟨m, hm⟩ := Option.ne_none_iff_exists'.mp clean
      rw [Book.openTime, if_pos open_, if_neg fun k => clean k.2.2, Book.spoilWith, hm]
  · rw [Book.openTime, if_neg open_, if_neg fun k => open_ ⟨k.1, k.2.1⟩]

/-- A change of the carousel is one of the carousel alone. -/
theorem State.updCarousel_effect (f : Carousel → Carousel) (s : State) :
    SameBut [.carousel] s (s.updCarousel f) ∧ (s.updCarousel f).mem = s.mem :=
  ⟨fun p hp => by cases p <;> simp [Part.same] at hp ⊢, rfl⟩

/-- Every clamp's book changed by a function of its position. -/
theorem State.mapClamps_effect (f : Fin 24 → Book → Book) (s : State) :
    let g : Carousel → Carousel := fun c =>
      { c with places := Vector.ofFn fun p : Fin 24 => { c.places[p] with slot := c.places[p].slot.mapBook (f p) } }
    let t := s.updCarousel g
    (∀ p : Fin 24, t.clampAt p = (s.clampAt p).mapBook (f p)) ∧
      (∀ p : Fin 24, t.carousel.places[p].number = s.carousel.places[p].number) ∧
      t.carousel = { s.carousel with places := t.carousel.places } ∧ SameBut [.carousel] s t ∧ t.mem = s.mem := by
  intro g t
  refine ⟨fun p => ?_, fun p => ?_, rfl, s.updCarousel_effect g⟩
  · simp [t, g, State.clampAt]
  · simp [t, g]

theorem State.openTimeRule_effect (duration : Nat) (s : State) :
    (∀ p : Fin 24, (s.openTimeRule duration).clampAt p =
      match s.clampAt p with
      | .holding b =>
        if s.config.settings.openTime ≤ duration ∧ b.glued = true ∧ b.nipped = false ∧ b.spoil = none then
          .holding { b with spoil := some ⟨.haltSpoil, ⟨true, p.val⟩, BitVec.ofNat 32 (min 4294967295 duration), false⟩ }
        else .holding b
      | x => x) ∧
      (∀ p : Fin 24, (s.openTimeRule duration).carousel.places[p].number = s.carousel.places[p].number) ∧
      (s.openTimeRule duration).carousel = { s.carousel with places := (s.openTimeRule duration).carousel.places } ∧
      SameBut [.carousel] s (s.openTimeRule duration) ∧ (s.openTimeRule duration).mem = s.mem := by
  by_cases due : s.config.settings.openTime ≤ duration
  · rw [State.openTimeRule, if_pos due]
    obtain ⟨clamps, numbers, frame, same, mem⟩ := s.mapClamps_effect fun p => Book.openTime (carouselPoint p) duration
    refine ⟨fun p => ?_, numbers, frame, same, mem⟩
    rw [clamps]
    cases s.clampAt p with
    | holding b => simp only [Slot.mapBook, Book.openTime_eq, due, true_and, carouselPoint, apply_ite Slot.holding]
    | empty => rfl
    | unknown => rfl
  · rw [State.openTimeRule, if_neg due]
    refine ⟨fun p => ?_, fun _ => rfl, rfl, SameBut.refl _ s, rfl⟩
    cases s.clampAt p with
    | holding b => simp only [due, false_and, if_false]
    | empty => rfl
    | unknown => rfl

/-- The line at a RESUME accepted, before the mode changes. -/
def State.resumed (s : State) : State :=
  (s.causesLifted.openTimeRule s.haltDuration).updLine fun l => { l with haltStart := none }

theorem State.runResume_accepted_eq {s : State} (halted : s.line.mode = .halted) (free : s.line.causes.blocking = false) :
    s.runResume = (s.resumed.changeMode .running, .plain .ok) := by
  rw [State.runResume, if_neg (not_not.mpr halted), if_neg (by rw [free]; decide)]
  rfl

theorem State.resumed_effect {s : State} (free : s.line.causes.blocking = false) :
    s.resumed.line = { s.line with causes := ⟨false, false, false, false, false, false, false⟩, haltStart := none } ∧
      (s.line.causes.any = true → s.resumed.word Header.causes = 0) ∧
      (∀ p : Fin 24, s.resumed.clampAt p =
        match s.clampAt p with
        | .holding b =>
          if s.config.settings.openTime ≤ s.haltDuration ∧ b.glued = true ∧ b.nipped = false ∧ b.spoil = none then
            .holding
              { b with
                spoil := some ⟨.haltSpoil, ⟨true, p.val⟩, BitVec.ofNat 32 (min 4294967295 s.haltDuration), false⟩ }
          else .holding b
        | x => x) ∧
      (∀ p : Fin 24, s.resumed.carousel.places[p].number = s.carousel.places[p].number) ∧
      s.resumed.carousel = { s.carousel with places := s.resumed.carousel.places } ∧
      SameBut [.carousel, .line] s s.resumed ∧ BytesBut [Header.causes] s s.resumed := by
  obtain ⟨line, word, same, bytes⟩ := State.causesLifted_effect free
  obtain ⟨clamps, numbers, frame, same', mem⟩ := s.causesLifted.openTimeRule_effect s.haltDuration
  have carousel : s.causesLifted.carousel = s.carousel := same .carousel (by decide)
  have config : s.causesLifted.config = s.config := same .config (by decide)
  have ruled : SameBut [.line] (s.causesLifted.openTimeRule s.haltDuration) s.resumed := fun p hp => by
    cases p <;> simp [Part.same, State.resumed] at hp ⊢
  have wholeMem : s.resumed.mem = s.causesLifted.mem := mem
  have before : ∀ p, s.causesLifted.clampAt p = s.clampAt p := fun p => by rw [State.clampAt, State.clampAt, carousel]
  rw [carousel] at numbers frame
  have after : s.resumed.carousel = (s.causesLifted.openTimeRule s.haltDuration).carousel := rfl
  have lineAfter : (s.causesLifted.openTimeRule s.haltDuration).line = s.causesLifted.line := same' .line (by decide)
  refine ⟨?_, fun any => ?_, fun p => ?_, fun p => ?_, ?_, ((same.trans same').trans ruled).mono (by decide), ?_⟩
  · have ended : s.resumed.line = { (s.causesLifted.openTimeRule s.haltDuration).line with haltStart := none } := rfl
    rw [ended, lineAfter, line]
  · rw [State.word, wholeMem]
    exact word any
  · rw [State.clampAt, after, ← State.clampAt, clamps, before, config]
  · rw [after]
    exact numbers p
  · rw [after]
    exact frame
  · exact fun x hx => (congrArg (fun m : Memory => m.read x) wholeMem).trans (bytes x hx)

/-- Settles O54: the causes go, the open-time rule marks the clamps, and the line enters RUNNING. -/
theorem resumeAppliesOpenTime : Obligations.ResumeAppliesOpenTime := by
  intro s dt idle halted estop guardOpen jam trimmer overheat h start
  have run := exec_resume_of_idle dt s idle
  obtain ⟨takenNow, takenPort, takenSame, takenBytes⟩ := s.taking_effect dt 5 none
  generalize s.taking dt 5 none = a at *
  have line : a.line = s.line := takenSame .line (by decide)
  have config : a.config = s.config := takenSame .config (by decide)
  have carousel : a.carousel = s.carousel := takenSame .carousel (by decide)
  have free : a.line.causes.blocking = false := by
    rw [line]; simp [Causes.blocking, estop, guardOpen, jam, trimmer, overheat]
  have duration : a.haltDuration = (s.now + dt - h) / 1000 := by rw [State.haltDuration, line, start, takenNow]
  rw [State.runResume_accepted_eq (by rw [line]; exact halted) free] at run
  obtain ⟨lineAfter, word, clamps, numbers, frame, same, bytes⟩ := State.resumed_effect free
  rw [duration, config] at clamps
  rw [carousel] at numbers frame
  rw [line] at lineAfter word
  generalize a.resumed = u at *
  have before := takenSame.trans same
  have portBefore : u.port = a.port := same .port (by decide)
  have entered := u.changeMode_entered .running
  obtain ⟨-, -, -, -, -, -, -, pending, -⟩ := u.changeMode_modeFrame .running
  have noticed := u.changeMode_noticed .running
  have modeBytes := u.changeMode_bytes .running
  have causes := u.changeMode_causes .running
  have modeLine := u.changeMode_line .running
  have mode : u.line.mode = .halted := by rw [lineAfter]; exact halted
  have modeSame : SameBut [.phase, .miller, .cover, .line, .port] u (u.changeMode .running) :=
    ((u.driven_starts (by rw [mode]; rfl) rfl).1.trans (u.changeMode_same .running)).mono (by decide)
  generalize u.changeMode .running = v at *
  have doneSame := v.slotDone_sameBut (.plain .ok)
  have doneBytes := v.slotDone_bytes (.plain .ok)
  have donePort := State.slotDone_port (.plain .ok) v
  have answered := (v.slotDone_effect (.plain .ok)).1
  have done := ((noticed.modeChanged (by decide)).of_counts (s := s) (by rw [portBefore, takenPort])).slotDone (.plain .ok)
  generalize v.slotDone (.plain .ok) = t at *
  have whole : t.carousel = u.carousel := (doneSame .carousel (by decide)).trans (modeSame .carousel (by decide))
  have lineWhole : t.line = v.line := doneSame .line (by decide)
  refine ⟨t, run, ?_, ?_, answered, ?_, ?_, fun any => ?_, fun p => ?_, fun p => ?_, ?_, ?_, done.congr (by decide), ?_, ?_⟩
  · exact (doneSame .now (by decide)).trans
      ((modeSame .now (by decide)).trans ((same .now (by decide)).trans takenNow))
  · exact entered.between (by decide) before (by decide) (by rw [mode, halted]) (by rw [lineAfter]) (by rw [lineAfter])
      (by rw [lineAfter]) (by rw [portBefore, takenPort]) doneSame (by decide) (doneBytes.word (by decide))
      (by rw [donePort])
  · rw [lineWhole, causes, lineAfter]
  · rw [lineWhole, modeLine]
    exact congrArg LineControl.haltStart lineAfter
  · rw [doneBytes.word (by decide), modeBytes.word (by decide), word any]
  · rw [State.clampAt, whole, ← State.clampAt, clamps, State.clampAt, carousel, ← State.clampAt] <;>
      cases s.clampAt p <;> rfl
  · rw [whole]
    exact numbers p
  · rw [whole]
    exact frame
  · obtain ⟨miller, cover⟩ := pending rfl (by rw [mode]; rfl)
    have clampsSame : ∀ p, u.clampAt p = ({ s with carousel := t.carousel } : State).clampAt p := fun p => by
      rw [State.clampAt, State.clampAt, whole]
    rw [clampsSame, show u.miller = s.miller from before .miller (by decide)] at miller
    rw [clampsSame, show u.cover = s.cover from before .cover (by decide)] at cover
    exact ⟨(doneSame .miller (by decide)).trans miller, (doneSame .cover (by decide)).trans cover⟩
  · exact ((before.trans modeSame).trans doneSame).mono (by decide)
  · exact (((takenBytes.trans bytes).trans modeBytes).trans doneBytes).mono (by decide)

end Sys2Proof.Machine
end

section
/-!
Held tickets, the defect log and postings (R19, R20, R33, R36 to R40, R148 to R152).
-/

namespace Sys2Proof.Machine

/-! ### Lists of word writes at addresses of their own -/

/-- What a word reads after words have been written at addresses that stand apart. -/
theorem Memory.readWord_writeWords_map {α : Type} [DecidableEq α] (addr : α → Nat) (v : α → Word)
    (apart : ∀ x y, x ≠ y → addr x + 4 ≤ addr y ∨ addr y + 4 ≤ addr x) (l : List α) (m : Memory) (x : α) :
    (m.writeWords (l.map fun y => (addr y, v y))).readWord (addr x) = if x ∈ l then v x else m.readWord (addr x) := by
  induction l generalizing m with
  | nil => rfl
  | cons y l ih =>
    change ((m.writeWord (addr y) (v y)).writeWords (l.map fun z => (addr z, v z))).readWord (addr x) = _
    rw [ih]
    by_cases later : x ∈ l
    · rw [if_pos later, if_pos (List.mem_cons_of_mem y later)]
    · rw [if_neg later]
      by_cases same : x = y
      · subst same
        rw [if_pos List.mem_cons_self, Memory.readWord_writeWord_same]
      · rw [if_neg (by simp [same, later]), Memory.readWord_writeWord_of_ne _ _ (apart x y same)]

theorem ticketAddr_apart (i : Nat) (f g : TicketField) (h : f ≠ g) :
    ticketAddr i f + 4 ≤ ticketAddr i g ∨ ticketAddr i g + 4 ≤ ticketAddr i f := by
  have offsets : f.offset + 4 ≤ g.offset ∨ g.offset + 4 ≤ f.offset := by
    revert h
    cases f <;> cases g <;> decide
  simp only [ticketAddr]
  omega

/-- A field of a ticket after some of its fields have been written. -/
theorem Memory.ticket_writeFields (i : Nat) (l : List TicketField) (v : TicketField → Word) (m : Memory) (f : TicketField) :
    (m.writeWords (l.map fun g => (ticketAddr i g, v g))).ticket i f = if f ∈ l then v f else m.ticket i f :=
  Memory.readWord_writeWords_map (ticketAddr i) v (ticketAddr_apart i) l m f

theorem ticketAddr_bounds (i : Nat) (f : TicketField) :
    ticketBase i ≤ ticketAddr i f ∧ ticketAddr i f + 4 ≤ ticketBase i + 64 := by
  have := f.offset_le
  simp only [ticketAddr]
  omega

/-- The words of a ticket stand above the header. -/
theorem ticketAddr_low (i : Nat) (f : TicketField) : 0x0200 ≤ ticketAddr i f := by
  have := (ticketAddr_bounds i f).1
  unfold ticketBase at this
  omega

/-- The words of a ticket of the table stand below the defect log. -/
theorem ticketAddr_high {i : Nat} (table : i < 256) (f : TicketField) : ticketAddr i f + 4 ≤ 0x8800 := by
  have := (ticketAddr_bounds i f).2
  unfold ticketBase at this
  omega

theorem ticketAddr_other {i k : Nat} (h : i ≠ k) (f g : TicketField) :
    ticketAddr i f + 4 ≤ ticketAddr k g ∨ ticketAddr k g + 4 ≤ ticketAddr i f := by
  have first := ticketAddr_bounds i f
  have second := ticketAddr_bounds k g
  unfold ticketBase at first second
  omega

theorem mem_ticketWordsAt (i : Nat) (f : TicketField) : ticketAddr i f ∈ ticketWordsAt i := by
  refine List.mem_map.mpr ⟨f.offset / 4, ?_, ?_⟩
  · cases f <;> decide
  · cases f <;> rfl

theorem logSlot_bounds (n : Word) : 0x8800 ≤ logSlot n ∧ logSlot n + 32 ≤ 0x9800 := by
  unfold logSlot
  omega

/-! ### Held entries (R20) -/

/-- The held tickets are tickets of the table (R33). -/
abbrev HeldInTable (s : State) : Prop := ∀ t ∈ s.sched.held, t.index < 256

theorem HeldInTable.lt {s : State} (h : HeldInTable s) {i : Nat} {x : HeldTicket} (held : s.held i = some x) : i < 256 := by
  have := h x (List.mem_of_find?_eq_some held)
  rwa [State.held_index held] at this

theorem Schedule.find_put_same {u x : HeldTicket} {c : Schedule} (held : c.find u.index = some x) :
    (c.put u).find u.index = some u := by
  rw [Schedule.find_put, held, Option.map_some, if_pos (Schedule.find_index held)]

theorem Schedule.find_put_of_ne {u : HeldTicket} {c : Schedule} {i : Nat} (h : i ≠ u.index) : (c.put u).find i = c.find i := by
  rw [Schedule.find_put]
  cases held : c.find i with
  | none => rfl
  | some x => rw [Option.map_some, if_neg fun k => h ((Schedule.find_index held).symm.trans k)]

/-! ### Changes of a held ticket (R19) -/

/-- The fields the part writes at a change of a held ticket. -/
def HeldTicket.written : List TicketField :=
  [.launched, .made, .spoiled, .remade, .short, .firstSerial, .lastSerial, .lastDefect, .stage]

/-- The word of a field of a held ticket. -/
def HeldTicket.value (t : HeldTicket) : TicketField → Word
  | .launched => BitVec.ofNat 32 t.launched
  | .made => BitVec.ofNat 32 t.made
  | .spoiled => BitVec.ofNat 32 t.spoiled
  | .remade => BitVec.ofNat 32 t.remade
  | .short => BitVec.ofNat 32 t.short
  | .firstSerial => t.firstSerial
  | .lastSerial => t.lastSerial
  | .lastDefect => BitVec.ofNat 32 t.lastDefect
  | .stage => t.stage.stage.word
  | _ => 0

theorem HeldTicket.fields_eq (t : HeldTicket) : t.fields = HeldTicket.written.map fun f => (f, t.value f) := rfl

/-- The fields a change writes. -/
def HeldTicket.changed (before after : HeldTicket) : List TicketField :=
  HeldTicket.written.filter fun f => decide (before.value f ≠ after.value f)

theorem changedFields_eq (t u : HeldTicket) :
    changedFields t u = (t.changed u).map fun f => (ticketAddr u.index f, u.value f) := by
  simp only [changedFields, HeldTicket.fields_eq, HeldTicket.changed, List.zip_map', List.filterMap_map,
    Function.comp_def]
  induction HeldTicket.written with
  | nil => rfl
  | cons f l ih =>
    by_cases same : t.value f = u.value f
    · simpa [same] using ih
    · simpa [same] using ih

theorem State.changeTicket_mem (t u : HeldTicket) (s : State) :
    (s.changeTicket t u).mem = s.mem.writeWords ((t.changed u).map fun f => (ticketAddr u.index f, u.value f)) := by
  rw [← changedFields_eq]
  exact State.putWords_mem (changedFields t u) _

/-- A field of a ticket after a change: its new word where it is written, the old one elsewhere. -/
theorem State.ticket_changeTicket (t u : HeldTicket) (s : State) (f : TicketField) :
    (s.changeTicket t u).mem.ticket u.index f = if f ∈ t.changed u then u.value f else s.mem.ticket u.index f := by
  rw [State.changeTicket_mem]
  exact Memory.ticket_writeFields u.index (t.changed u) u.value s.mem f

theorem State.changeTicket_bytes (t u : HeldTicket) (s : State) :
    BytesBut ((t.changed u).map (ticketAddr u.index)) s (s.changeTicket t u) := by
  refine (s.changeTicket_effect t u).2.mono fun x hx => ?_
  rw [changedFields_eq, List.map_map] at hx
  exact hx

theorem State.changeTicket_same (t u : HeldTicket) (s : State) : SameBut [.sched] s (s.changeTicket t u) := fun p hp => by
  cases p <;> simp [Part.same] at hp ⊢

/-- A consult: the stop mark of its ticket, and nothing else (R36). -/
theorem State.consult_effect (i : Nat) (s : State) :
    (s.consult i).held i = (s.held i).map (HeldTicket.consulted (s.mem.cancelled i)) ∧
      (∀ k, k ≠ i → (s.consult i).held k = s.held k) ∧ (s.consult i).mem = s.mem ∧
      (s.consult i).sched = { s.sched with held := (s.consult i).sched.held } ∧ SameBut [.sched] s (s.consult i) := by
  refine ⟨?_, fun k hk => ?_, ?_, ?_, fun p hp => ?_⟩
  · cases held : s.held i with
    | none => rw [State.consult, held]; exact held
    | some x =>
      have index : (x.consulted (s.mem.cancelled i)).index = i := by rw [HeldTicket.consulted_index, State.held_index held]
      rw [State.consult, held]
      simpa [State.held, index] using Schedule.find_put_same (u := x.consulted (s.mem.cancelled i)) (by rw [index]; exact held)
  · cases held : s.held i with
    | none => rw [State.consult, held]
    | some x =>
      rw [State.consult, held]
      exact Schedule.find_put_of_ne (by rw [HeldTicket.consulted_index, State.held_index held]; exact hk)
  · unfold State.consult; split <;> rfl
  · unfold State.consult; split <;> rfl
  · cases p <;> simp [Part.same] at hp ⊢

/-! ### The end of a ticket (R19, R33, R39, R40) -/

/-- The words of an end: the given fields, then end reason, finish number and stage. -/
theorem State.writeEnd_effect (i : Nat) (l : List TicketField) (v : TicketField → Word) (r : EndReason) (g : Stage) (s : State)
    {t : State} (ht : t = s.writeEnd i (l.map fun f => (f, v f)) r g) :
    t.mem.ticket i .stage = g.word ∧ t.mem.ticket i .endReason = BitVec.ofNat 32 r.number ∧
      t.mem.ticket i .finish = s.port.counts[(1 : Fin 8)] + 1 ∧
      (∀ f ∈ l, f ∉ [TicketField.endReason, .finish, .stage] → t.mem.ticket i f = v f) ∧
      Noticed (oneNotice .ticketFinished) s t ∧ SameBut [.port] s t ∧
      t.port = { s.port with counts := t.port.counts, attention := t.port.attention } ∧
      BytesBut (Header.count 1 :: (l ++ [TicketField.endReason, .finish, .stage]).map (ticketAddr i)) s t := by
  let last : TicketField → Word
    | .endReason => BitVec.ofNat 32 r.number
    | .finish => s.port.counts[(1 : Fin 8)] + 1
    | _ => g.word
  let u := (s.putWords (l.map fun f => (ticketAddr i f, v f))).putWords
    ([TicketField.endReason, .finish, .stage].map fun f => (ticketAddr i f, last f))
  have ended : t = u.notify .ticketFinished := by
    rw [ht, State.writeEnd, List.map_map]
    rfl
  have field : ∀ f, t.mem.ticket i f =
      if f ∈ [TicketField.endReason, .finish, .stage] then last f else if f ∈ l then v f else s.mem.ticket i f := fun f => by
    have low := ticketAddr_low i f
    have kept : t.mem.ticket i f = u.mem.ticket i f := by
      rw [ended]
      exact (u.notify_bytes .ticketFinished).word fun w hw => by
        simp only [List.mem_singleton, Attention.number, Header.count] at hw
        omega
    rw [kept, show u.mem = _ from State.putWords_mem _ _, Memory.ticket_writeFields, State.putWords_mem, Memory.ticket_writeFields]
  have same : SameBut [] s u := fun p _ => by cases p <;> simp [Part.same, u]
  have port : u.port = s.port := same .port (by decide)
  have noticed := u.notify_effect .ticketFinished
  rw [← ended, port] at noticed
  refine ⟨field .stage, field .endReason, field .finish, fun f hf other => ?_, ?_, ?_, noticed.2.2.2, ?_⟩
  · rw [field, if_neg other, if_pos hf]
  · rw [ended]
    exact (u.notify_noticed .ticketFinished).of_counts (by rw [port])
  · rw [ended]
    exact (same.trans (show SameBut [.port] u _ from fun p hp => by cases p <;> simp [Part.same] at hp ⊢)).mono (by simp)
  · rw [ended]
    refine (((State.putWords_bytes _ s).trans (State.putWords_bytes _ _)).trans (u.notify_bytes .ticketFinished)).mono fun x hx => ?_
    rw [List.map_map, List.map_map] at hx
    simp only [List.map_append, List.mem_cons, List.mem_append]
    rcases List.mem_append.mp hx with h | h
    · rcases List.mem_append.mp h with h | h
      · exact .inr (.inl h)
      · exact .inr (.inr h)
    · exact .inl (List.mem_singleton.mp h)

theorem Schedule.find_remove (c : Schedule) (i k : Nat) :
    Schedule.find { c with held := c.held.filter fun u => decide (u.index ≠ i) } k = if k = i then none else c.find k := by
  simp only [Schedule.find]
  induction c.held with
  | nil => simp
  | cons x l ih =>
    by_cases gone : x.index = i
    · rw [List.filter_cons_of_neg (by simp [gone]), ih]
      by_cases hit : k = i
      · rw [if_pos hit, if_pos hit]
      · rw [if_neg hit, if_neg hit, List.find?_cons_of_neg (by simp only [gone, decide_eq_true_eq]; exact fun k' => hit k'.symm)]
    · rw [List.filter_cons_of_pos (by simp [gone])]
      by_cases hit : x.index = k
      · rw [List.find?_cons_of_pos (by simp [hit]), if_neg (by rw [← hit]; exact gone), List.find?_cons_of_pos (by simp [hit])]
      · rw [List.find?_cons_of_neg (by simp [hit]), List.find?_cons_of_neg (by simp [hit]), ih]

/-- A held ticket ends: its entry goes, its words are written, and the cursor moves on from an ACTIVE one. -/
theorem State.endHeld_effect (x : HeldTicket) (r : EndReason) (g : Stage) (s : State) {t : State} (ht : t = s.endHeld x r g) :
    t.held x.index = none ∧ (∀ k, k ≠ x.index → t.held k = s.held k) ∧ t.mem.ticket x.index .stage = g.word ∧
      t.mem.ticket x.index .endReason = BitVec.ofNat 32 r.number ∧
      t.mem.ticket x.index .finish = s.port.counts[(1 : Fin 8)] + 1 ∧
      (∀ f ∈ HeldTicket.written, f ≠ .stage → t.mem.ticket x.index f = x.value f) ∧
      Noticed (oneNotice .ticketFinished) s t ∧
      t.sched.cursor = (if x.stage = .active then (s.sched.cursor + 1) % 256 else s.sched.cursor) ∧
      (x.stage = .active → t.word Header.cursor = BitVec.ofNat 32 t.sched.cursor) ∧
      t.sched = { s.sched with held := t.sched.held, cursor := t.sched.cursor } ∧
      t.port = { s.port with counts := t.port.counts, attention := t.port.attention } ∧ SameBut [.sched, .port] s t ∧
      BytesBut ([Header.count 1, Header.cursor] ++ ticketWordsAt x.index) s t := by
  let removed := s.updSched fun c => { c with held := c.held.filter fun u => decide (u.index ≠ x.index) }
  obtain ⟨e, he⟩ : ∃ e, e = removed.writeEnd x.index
      ((HeldTicket.written.filter fun f => decide (f ≠ .stage)).map fun f => (f, x.value f)) r g := ⟨_, rfl⟩
  have run : t = if x.stage = .active then e.advanceCursor else e := by rw [ht, he]; rfl
  obtain ⟨stage, reason, finish, fields, noticed, same, port, bytes⟩ := removed.writeEnd_effect x.index _ x.value r g he
  have sched : e.sched = removed.sched := same .sched (by decide)
  have cursorWord : e.advanceCursor.word Header.cursor = BitVec.ofNat 32 e.advanceCursor.sched.cursor :=
    (e.setCursor_effect _).2.1
  have after : t.sched.held = e.sched.held ∧ t.port = e.port ∧
      t.sched = { e.sched with cursor := if x.stage = .active then (e.sched.cursor + 1) % 256 else e.sched.cursor } ∧
      SameBut [.sched] e t ∧ BytesBut [Header.cursor] e t := by
    rw [run]
    by_cases active : x.stage = .active
    · rw [if_pos active, if_pos active]
      exact ⟨rfl, rfl, rfl, e.setCursor_sameBut _, (e.setCursor_effect _).2.2⟩
    · rw [if_neg active, if_neg active]
      exact ⟨rfl, rfl, rfl, SameBut.refl _ e, BytesBut.refl _ e⟩
  obtain ⟨held, portAfter, schedAfter, sameAfter, bytesAfter⟩ := after
  have holds : ∀ k, t.held k = if k = x.index then none else s.held k := fun k => by
    rw [State.held_of_sched held, State.held, sched]
    exact Schedule.find_remove s.sched x.index k
  have ticket : ∀ f, t.mem.ticket x.index f = e.mem.ticket x.index f := fun f => by
    have low := ticketAddr_low x.index f
    exact bytesAfter.word fun w hw => by
      rw [List.mem_singleton.mp hw]
      exact .inr (le_trans (by decide) low)
  have count : ∀ c : Fin 8, t.word (Header.count c) = e.word (Header.count c) := fun c => by
    have := c.isLt
    exact bytesAfter.word fun w hw => by
      rw [List.mem_singleton.mp hw]
      simp only [Header.count, Header.cursor]
      omega
  refine ⟨by rw [holds, if_pos rfl], fun k hk => by rw [holds, if_neg hk], by rw [ticket, stage], by rw [ticket, reason],
    by rw [ticket, finish]; rfl, fun f hf other => ?_, fun c => ?_, ?_, fun active => ?_, ?_, ?_, ?_, ?_⟩
  · rw [ticket]
    refine fields f (List.mem_filter.mpr ⟨hf, by simpa using other⟩) ?_
    intro named
    revert hf
    simp only [List.mem_cons, List.not_mem_nil, or_false] at named
    rcases named with rfl | rfl | rfl
    · decide
    · decide
    · exact absurd rfl other
  · rw [portAfter, count]
    exact noticed c
  · rw [schedAfter, sched]
    rfl
  · rw [run, if_pos active]
    exact cursorWord
  · rw [schedAfter, sched]
    rfl
  · rw [portAfter]
    exact port
  · exact fun p hp => ((show SameBut [.sched] s removed from fun p hp => by cases p <;> simp [Part.same, removed] at hp ⊢).trans
      (same.trans sameAfter)).mono (w := [.sched, .port]) (by decide) p hp
  · refine (((BytesBut.of_mem (w := []) (s := s) (t := removed) rfl).trans bytes).trans bytesAfter).mono fun a ha => ?_
    simp only [List.nil_append, List.cons_append, List.mem_append, List.mem_cons, List.not_mem_nil, or_false, List.mem_map] at ha ⊢
    rcases ha with rfl | ⟨f, -, rfl⟩ | rfl
    · exact .inl rfl
    · exact .inr (.inr (mem_ticketWordsAt _ f))
    · exact .inr (.inl rfl)

/-! ### The end check (R39) -/

/-- Something is left to come: the end check leaves the ticket. -/
theorem State.endCheck_stays {i : Nat} {s : State} {x : HeldTicket} (held : s.held i = some x) (short : x.made < x.qty)
    (left : x.exhausted = false) : s.endCheck i = s := by
  rw [State.endCheck, held]
  dsimp only
  rw [if_neg (by omega), if_neg (by rw [left]; decide)]

theorem HeldTicket.exhausted_of_inFlight {x : HeldTicket} (flight : x.made + x.spoiled < x.launched) : x.exhausted = false := by
  have : x.inFlight ≠ 0 := by unfold HeldTicket.inFlight; omega
  simp [HeldTicket.exhausted, this]

/-- The three counts of R17 in plain sums. -/
theorem HeldTicket.exhausted_iff (x : HeldTicket) :
    x.exhausted = true ↔ x.made < x.qty ∧ x.made + x.spoiled = x.launched ∧ x.spoiled = x.short + x.remade ∧
      (x.qty + x.remade = x.launched ∨ x.stop ≠ .noStop) := by
  simp only [HeldTicket.exhausted, HeldTicket.stopped, Bool.and_eq_true, Bool.or_eq_true, decide_eq_true_eq]
  unfold HeldTicket.inFlight HeldTicket.queued HeldTicket.unlaunched
  constructor
  · rintro ⟨⟨⟨short, flight⟩, queued⟩, last⟩
    exact ⟨short, by omega, by omega, last.imp (fun h => by omega) id⟩
  · rintro ⟨short, flight, queued, last⟩
    exact ⟨⟨⟨short, by omega⟩, by omega⟩, last.imp (fun h => by omega) id⟩

theorem HeldTicket.failReason_number (x : HeldTicket) :
    BitVec.ofNat 32 x.failReason.number = (match x.stop with | .noStop => 65 | .cancelled => 64 | .badJob => 66 : Word) := by
  unfold HeldTicket.failReason
  cases x.stop <;> rfl

/-- A ticket that ends at its end check: DONE at its quantity, FAILED with nothing left to come. -/
theorem State.endCheck_ends {i : Nat} {s : State} {x : HeldTicket} (held : s.held i = some x)
    (ends : x.made = x.qty ∨ x.exhausted = true) :
    s.endCheck i = s.endHeld x (if x.made = x.qty then .noReason else x.failReason) (if x.made = x.qty then .done else .failed) := by
  rw [State.endCheck, held]
  dsimp only
  by_cases done : x.made = x.qty
  · rw [if_pos done, if_pos done, if_pos done]
  · rw [if_neg done, if_neg done, if_neg done, if_pos (ends.resolve_left done)]

/-! ### The defect log (R148 to R151) -/

/-- An entry stands in the slot of its number. -/
def Logged (count : Word) (b : Book) (e : LogEntry) (t : State) : Prop :=
  t.word (logSlot count) = count + 1 ∧ ∀ i : Fin 7, t.word (logSlot count + 4 * (i + 1)) = (logWords b e)[i]

theorem Logged.of_bytes {ws : List Nat} {count : Word} {b : Book} {e : LogEntry} {t u : State} (h : Logged count b e t)
    (bytes : BytesBut ws t u) (clear : ∀ w ∈ ws, w + 4 ≤ logSlot count ∨ logSlot count + 32 ≤ w) : Logged count b e u := by
  refine ⟨?_, fun i => ?_⟩
  · rw [bytes.word fun w hw => by have := clear w hw; omega]
    exact h.1
  · have := i.isLt
    rw [bytes.word fun w hw => by have := clear w hw; omega]
    exact h.2 i

theorem State.logEntry_logged (b : Book) (e : LogEntry) (s : State) : Logged s.port.counts[(2 : Fin 8)] b e (s.logEntry b e) := by
  let slot := logSlot s.port.counts[(2 : Fin 8)]
  have bounds := logSlot_bounds s.port.counts[(2 : Fin 8)]
  let words : Fin 7 → Word := fun i => (logWords b e)[i]
  let u := ((s.putWord slot 0).putWords ((List.finRange 7).map fun i => (slot + 4 * (i.val + 1), words i))).putWord slot
    (s.port.counts[(2 : Fin 8)] + 1)
  have run : s.logEntry b e = u.notify .defectLogged := rfl
  have kept : ∀ a, slot ≤ a → (s.logEntry b e).word a = u.word a := fun a high => by
    rw [run]
    exact (u.notify_bytes .defectLogged).word fun w hw => by
      simp only [List.mem_singleton, Attention.number, Header.count] at hw
      dsimp only [slot] at high
      omega
  refine ⟨?_, fun i => ?_⟩
  · rw [kept _ (le_refl slot)]
    exact State.word_putWord_same _ _ _
  · rw [kept _ (Nat.le_add_right slot _)]
    refine (State.word_putWord_of_ne _ _ (.inr (by dsimp only [slot]; omega))).trans ?_
    rw [State.word, State.putWords_mem]
    have read := Memory.readWord_writeWords_map (fun i : Fin 7 => slot + 4 * (i.val + 1)) words
      (fun x y ne => by have : x.val ≠ y.val := fun k => ne (Fin.ext k); omega) (List.finRange 7) (s.putWord slot 0).mem i
    rw [if_pos (List.mem_finRange i)] at read
    exact read

theorem getLsbD_packBytes (b0 b1 b2 b3 : Byte) (j : Nat) :
    (packBytes b0 b1 b2 b3).getLsbD j =
      if j < 8 then b0.getLsbD j
      else if j - 8 < 8 then b1.getLsbD (j - 8)
      else if j - 8 - 8 < 8 then b2.getLsbD (j - 8 - 8)
      else b3.getLsbD (j - 8 - 8 - 8) := by
  change BitVec.getLsbD (w := 8 + 8 + 8 + 8) (b3 ++ b2 ++ b1 ++ b0) j = _
  rw [BitVec.getLsbD_append, BitVec.getLsbD_append, BitVec.getLsbD_append]

/-- The four bytes of a packed word. -/
theorem wordByte_packBytes (b0 b1 b2 b3 : Byte) :
    wordByte (packBytes b0 b1 b2 b3) 0 = b0 ∧ wordByte (packBytes b0 b1 b2 b3) 1 = b1 ∧
      wordByte (packBytes b0 b1 b2 b3) 2 = b2 ∧ wordByte (packBytes b0 b1 b2 b3) 3 = b3 := by
  have bit : ∀ k i, i < 8 → (wordByte (packBytes b0 b1 b2 b3) k).getLsbD i = (packBytes b0 b1 b2 b3).getLsbD (8 * k + i) :=
    fun k i hi => by simp [wordByte, hi]
  refine ⟨?_, ?_, ?_, ?_⟩ <;> refine BitVec.eq_of_getLsbD_eq fun i hi => ?_ <;> rw [bit _ i hi, getLsbD_packBytes]
  · rw [if_pos (by omega), Nat.mul_zero, Nat.zero_add]
  · rw [if_neg (by omega), if_pos (by omega), show 8 * 1 + i - 8 = i by omega]
  · rw [if_neg (by omega), if_neg (by omega), if_pos (by omega), show 8 * 2 + i - 8 - 8 = i by omega]
  · rw [if_neg (by omega), if_neg (by omega), if_neg (by omega), show 8 * 3 + i - 8 - 8 - 8 = i by omega]

/-- The bytes of a word that packs four. -/
theorem State.bytes_of_packed {t : State} {a : Nat} {b0 b1 b2 b3 : Byte} (h : t.word a = packBytes b0 b1 b2 b3) :
    t.mem.read a = b0 ∧ t.mem.read (a + 1) = b1 ∧ t.mem.read (a + 2) = b2 ∧ t.mem.read (a + 3) = b3 := by
  obtain ⟨first, second, third, fourth⟩ := wordByte_packBytes b0 b1 b2 b3
  rw [← h] at first second third fourth
  refine ⟨?_, ?_, ?_, ?_⟩
  · exact (wordByte_readWord t.mem a (i := 0) (by decide)).symm.trans first
  · exact (wordByte_readWord t.mem a (i := 1) (by decide)).symm.trans second
  · exact (wordByte_readWord t.mem a (i := 2) (by decide)).symm.trans third
  · exact (wordByte_readWord t.mem a (i := 3) (by decide)).symm.trans fourth

/-- The entry, byte by byte (11, section 11.2). -/
theorem Logged.entry {count : Word} {b : Book} {e : LogEntry} {t : State} (h : Logged count b e t) {slot : Nat}
    (hs : slot = logSlot count) :
    t.mem.readWord slot = count + 1 ∧ t.mem.readWord (slot + 4) = b.serial ∧
      (t.mem.read (slot + 8) = byte b.ticket ∧ t.mem.read (slot + 9) = byte b.job ∧
        t.mem.read (slot + 10) = (match b.clamp with | some n => byte n | none => 255) ∧
        t.mem.read (slot + 11) = byte b.kind.number) ∧
      (t.mem.read (slot + 12) = byte e.code ∧ t.mem.read (slot + 13) = (if e.warning then 1 else 0) ∧
        t.mem.read (slot + 14) = byte e.outcome.number ∧ t.mem.read (slot + 15) = byte e.posting.number) ∧
      (t.mem.read (slot + 16) = byte e.point.position ∧ t.mem.read (slot + 17) = (if e.point.onCarousel then 1 else 0) ∧
        t.mem.read (slot + 18) = (if e.noRead then 1 else 0)) ∧
      t.mem.readWord (slot + 20) = b.loggedThickness ∧ t.mem.readWord (slot + 24) = e.detail := by
  subst hs
  obtain ⟨first, rest⟩ := h
  have fourth := State.bytes_of_packed (rest 3)
  exact ⟨first, rest 0, State.bytes_of_packed (rest 1), State.bytes_of_packed (rest 2), ⟨fourth.1, fourth.2.1, fourth.2.2.1⟩,
    rest 4, rest 5⟩

/-! ### Spoiled postings (R36, R37, R152) -/

theorem SpoilCode.remakeable_eq (c : SpoilCode) : c.remakeable = decide (c ≠ .coverShort) := by cases c <;> rfl

theorem remakeQueued_eq (code : SpoilCode) (t : HeldTicket) (n : Nat) :
    remakeQueued code t n = (decide (code ≠ .coverShort) && decide (t.mode ≠ .personal) && decide (t.stop = .noStop) &&
      decide (t.spoiled ≤ t.remakeLimit) && decide (n < 32)) := by
  rw [remakeQueued, SpoilCode.remakeable_eq, HeldTicket.stopped]
  generalize t.stop = stop
  cases stop <;> rfl

theorem postedDetail_eq (b : Book) (m : SpoilMark) :
    postedDetail b m = if m.code = .unformatted ∨ m.code = .inched then b.mask.setWidth 32 else m.detail := by
  unfold postedDetail
  cases m.code <;> rfl

theorem HeldTicket.consulted_eq (cancel : Bool) (x : HeldTicket) :
    x.consulted cancel = { x with stop := if cancel = true ∧ x.stop = .noStop then .cancelled else x.stop } := by
  unfold HeldTicket.consulted
  split <;> rfl

/-- The end check: the words of an ended ticket, its notice and the cursor (R39, R40). -/
theorem State.endCheck_effect (i : Nat) (s : State) :
    SameBut [.sched, .port] s (s.endCheck i) ∧
      (s.endCheck i).port = { s.port with counts := (s.endCheck i).port.counts, attention := (s.endCheck i).port.attention } ∧
      (∀ c : Fin 8, c ≠ 1 → (s.endCheck i).port.counts[c] = s.port.counts[c]) ∧
      (s.endCheck i).sched = { s.sched with held := (s.endCheck i).sched.held, cursor := (s.endCheck i).sched.cursor } ∧
      BytesBut ([Header.count 1, Header.cursor] ++ ticketWordsAt i) s (s.endCheck i) := by
  cases held : s.held i with
  | none =>
    have stays : s.endCheck i = s := by rw [State.endCheck, held]
    rw [stays]
    exact ⟨SameBut.refl _ s, rfl, fun _ _ => rfl, rfl, BytesBut.refl _ s⟩
  | some x =>
    by_cases ends : x.made = x.qty ∨ x.exhausted = true
    · rw [State.endCheck_ends held ends]
      obtain ⟨-, -, -, -, -, -, noticed, -, -, sched, port, same, bytes⟩ := State.endHeld_effect x _ _ s rfl
      rw [State.held_index held] at bytes
      refine ⟨same, port, fun c hc => ?_, sched, bytes⟩
      rw [(noticed c).1, oneNotice, if_neg (by simpa [Attention.number] using hc)]
      simp
    · have stays : s.endCheck i = s := by
        rw [State.endCheck, held]
        dsimp only
        rw [if_neg fun k => ends (.inl k), if_neg fun k => ends (.inr k)]
      rw [stays]
      exact ⟨SameBut.refl _ s, rfl, fun _ _ => rfl, rfl, BytesBut.refl _ s⟩

theorem State.setRemakes_same (l : List Nat) (s : State) : SameBut [.sched] s (s.setRemakes l) := fun p hp => by
  cases p <;> simp [Part.same] at hp ⊢

/-- The length of the remake list is written when it changes. -/
theorem State.word_setRemakes {l : List Nat} {s : State} (h : l.length ≠ s.sched.remakes.length) :
    (s.setRemakes l).word Header.remakeLength = BitVec.ofNat 32 l.length := by
  rw [State.setRemakes, if_neg h]
  exact State.word_putWord_same _ _ _

theorem State.logEntry_noticed (b : Book) (e : LogEntry) (s : State) : Noticed (oneNotice .defectLogged) s (s.logEntry b e) := by
  refine Noticed.of_counts (t := ((s.putWord (logSlot s.port.counts[(2 : Fin 8)]) 0).putWords
    ((logWords b e).mapIdx fun i w => (logSlot s.port.counts[(2 : Fin 8)] + 4 * (i + 1), w))).putWord
    (logSlot s.port.counts[(2 : Fin 8)]) (s.port.counts[(2 : Fin 8)] + 1)) (State.notify_noticed .defectLogged _) ?_
  simp

theorem State.logEntry_port (b : Book) (e : LogEntry) (s : State) :
    (s.logEntry b e).port = { s.port with counts := (s.logEntry b e).port.counts, attention := (s.logEntry b e).port.attention } := by
  have noticed := State.notify_effect .defectLogged (((s.putWord (logSlot s.port.counts[(2 : Fin 8)]) 0).putWords
    ((logWords b e).mapIdx fun i w => (logSlot s.port.counts[(2 : Fin 8)] + 4 * (i + 1), w))).putWord
    (logSlot s.port.counts[(2 : Fin 8)]) (s.port.counts[(2 : Fin 8)] + 1))
  have before : (((s.putWord (logSlot s.port.counts[(2 : Fin 8)]) 0).putWords
    ((logWords b e).mapIdx fun i w => (logSlot s.port.counts[(2 : Fin 8)] + 4 * (i + 1), w))).putWord
    (logSlot s.port.counts[(2 : Fin 8)]) (s.port.counts[(2 : Fin 8)] + 1)).port = s.port := by simp
  obtain ⟨-, -, -, port⟩ := noticed
  rw [before] at port
  exact port

/-- A word outside the log reads as before. -/
theorem State.word_logEntry {a : Nat} (b : Book) (e : LogEntry) (s : State) (slot : a + 4 ≤ 0x8800 ∨ 0x9800 ≤ a)
    (count : a + 4 ≤ Header.count 2 ∨ Header.count 2 + 4 ≤ a) : (s.logEntry b e).word a = s.word a := by
  refine (s.logEntry_effect b e).2.2.word fun w hw => ?_
  rcases List.mem_append.mp hw with h | h
  · obtain ⟨i, hi, rfl⟩ := List.mem_map.mp h
    have bounds := logSlot_bounds s.port.counts[(2 : Fin 8)]
    have := List.mem_range.mp hi
    omega
  · rwa [List.mem_singleton.mp h]

theorem State.logEntry_same (b : Book) (e : LogEntry) (s : State) : SameBut [.port] s (s.logEntry b e) := fun p hp => by
  cases p <;> simp [Part.same] at hp ⊢

/-- A ticket after a spoiled posting, the remake queued or counted short (R37). -/
def HeldTicket.spoiledAs (code : SpoilCode) (queued : Bool) (t : HeldTicket) : HeldTicket :=
  { t with
    spoiled := t.spoiled + 1, lastDefect := code.number, short := if queued then t.short else t.short + 1 }

theorem HeldTicket.changed_spoiledAs (code : SpoilCode) (queued : Bool) (t : HeldTicket) :
    ∀ f ∈ t.changed (t.spoiledAs code queued), f ∈ [TicketField.spoiled, .short, .lastDefect] := by
  intro f hf
  have differs := of_decide_eq_true (List.mem_filter.mp hf).2
  cases f <;> first | decide | exact absurd rfl differs

theorem HeldTicket.mem_changed {t u : HeldTicket} {f : TicketField} :
    f ∈ t.changed u ↔ f ∈ HeldTicket.written ∧ t.value f ≠ u.value f := by
  rw [HeldTicket.changed, List.mem_filter, decide_eq_true_eq]

theorem ofNat32_succ_ne (n : Nat) : BitVec.ofNat 32 n ≠ BitVec.ofNat 32 (n + 1) := fun same => by
  have := congrArg BitVec.toNat same
  simp only [BitVec.toNat_ofNat] at this
  omega

theorem HeldTicket.spoiled_mem_changed (code : SpoilCode) (queued : Bool) (t : HeldTicket) :
    TicketField.spoiled ∈ t.changed (t.spoiledAs code queued) :=
  HeldTicket.mem_changed.mpr ⟨by decide, ofNat32_succ_ne t.spoiled⟩

theorem SpoilCode.number_lt (code : SpoilCode) : code.number < 256 := by cases code <;> decide

theorem HeldTicket.lastDefect_mem_changed {code : SpoilCode} {t : HeldTicket} (queued : Bool) (other : t.lastDefect ≠ code.number)
    (small : t.lastDefect < 256) : TicketField.lastDefect ∈ t.changed (t.spoiledAs code queued) := by
  refine HeldTicket.mem_changed.mpr ⟨by decide, fun same => other ?_⟩
  have := code.number_lt
  have equal := congrArg BitVec.toNat (show BitVec.ofNat 32 t.lastDefect = BitVec.ofNat 32 code.number from same)
  simp only [BitVec.toNat_ofNat] at equal
  omega

/-- A spoiled posting before its end check (R37). -/
def State.spoilCounted (b : Book) (m : SpoilMark) (p : PostPoint) (t : HeldTicket) (queued : Bool) (s : State) : State :=
  ((if queued then s.setRemakes (s.sched.remakes ++ [t.index]) else s).logEntry b
    (spoilEntry b m (if queued then .queued else .short) p)).changeTicket t (t.spoiledAs m.code queued)

theorem State.spoilHeld_eq (b : Book) (m : SpoilMark) (p : PostPoint) (t : HeldTicket) (queued : Bool) (s : State) :
    s.spoilHeld b m p t queued = (s.spoilCounted b m p t queued).endCheck b.ticket := by
  cases queued <;> rfl

theorem State.spoilCounted_effect {b : Book} {m : SpoilMark} {p : PostPoint} {t : HeldTicket} {queued : Bool} {s u : State}
    (held : s.held b.ticket = some t) (table : b.ticket < 256) (hu : u = s.spoilCounted b m p t queued) :
    u.held b.ticket = some (t.spoiledAs m.code queued) ∧ (∀ i, i ≠ b.ticket → u.held i = s.held i) ∧
      u.sched = { s.sched with
        held := u.sched.held, remakes := if queued then s.sched.remakes ++ [b.ticket] else s.sched.remakes } ∧
      (queued = true → u.word Header.remakeLength = BitVec.ofNat 32 u.sched.remakes.length) ∧
      Noticed (oneNotice .defectLogged) s u ∧
      u.port = { s.port with counts := u.port.counts, attention := u.port.attention } ∧
      Logged s.port.counts[(2 : Fin 8)] b (spoilEntry b m (if queued then .queued else .short) p) u ∧
      (∀ f, u.mem.ticket b.ticket f =
        if f ∈ t.changed (t.spoiledAs m.code queued) then (t.spoiledAs m.code queued).value f else s.mem.ticket b.ticket f) ∧
      SameBut [.sched, .port] s u ∧
      BytesBut
        ([Header.count 2, Header.remakeLength] ++ logWordsAt s.port.counts[(2 : Fin 8)] ++
          [TicketField.spoiled, .short, .lastDefect].map (ticketAddr b.ticket)) s u := by
  have index : t.index = b.ticket := State.held_index held
  obtain ⟨listed, hl⟩ : ∃ v, v = if queued then s.setRemakes (s.sched.remakes ++ [t.index]) else s := ⟨_, rfl⟩
  have remade : listed.sched = { s.sched with
      remakes := if queued then s.sched.remakes ++ [b.ticket] else s.sched.remakes } ∧
      (queued = true → listed.word Header.remakeLength = BitVec.ofNat 32 (s.sched.remakes ++ [b.ticket]).length) ∧
      SameBut [.sched] s listed ∧ BytesBut [Header.remakeLength] s listed := by
    rw [hl, index]
    cases queued with
    | true =>
      exact ⟨(s.setRemakes_effect _).1, fun _ => State.word_setRemakes (by simp), s.setRemakes_same _, (s.setRemakes_effect _).2⟩
    | false => exact ⟨rfl, fun k => absurd k (by decide), SameBut.refl _ s, BytesBut.refl _ s⟩
  obtain ⟨sched, length, sameListed, bytesListed⟩ := remade
  have port : listed.port = s.port := sameListed .port (by decide)
  obtain ⟨logged, hg⟩ : ∃ v, v = listed.logEntry b (spoilEntry b m (if queued then .queued else .short) p) := ⟨_, rfl⟩
  have written := listed.logEntry_logged b (spoilEntry b m (if queued then .queued else .short) p)
  have noticed := listed.logEntry_noticed b (spoilEntry b m (if queued then .queued else .short) p)
  have portLogged := listed.logEntry_port b (spoilEntry b m (if queued then .queued else .short) p)
  have sameLogged := listed.logEntry_same b (spoilEntry b m (if queued then .queued else .short) p)
  obtain ⟨-, -, bytesLogged⟩ := listed.logEntry_effect b (spoilEntry b m (if queued then .queued else .short) p)
  rw [← hg] at written noticed portLogged sameLogged bytesLogged
  rw [port] at written portLogged bytesLogged
  have schedLogged : logged.sched = listed.sched := sameLogged .sched (by decide)
  have after : u = logged.changeTicket t (t.spoiledAs m.code queued) := by rw [hu, hg, hl]; rfl
  have indexAfter : (t.spoiledAs m.code queued).index = b.ticket := index
  have counted := State.changeTicket_bytes t (t.spoiledAs m.code queued) logged
  have sameCounted := State.changeTicket_same t (t.spoiledAs m.code queued) logged
  have putSched := (State.changeTicket_effect t (t.spoiledAs m.code queued) logged).1
  have fields := State.ticket_changeTicket t (t.spoiledAs m.code queued) logged
  rw [← after] at counted sameCounted putSched fields
  rw [indexAfter] at counted fields
  have own : BytesBut ([TicketField.spoiled, .short, .lastDefect].map (ticketAddr b.ticket)) logged u :=
    counted.mono fun a ha => by
      obtain ⟨f, hf, rfl⟩ := List.mem_map.mp ha
      exact List.mem_map_of_mem (HeldTicket.changed_spoiledAs _ _ _ f hf)
  have ownWord : ∀ w ∈ [TicketField.spoiled, .short, .lastDefect].map (ticketAddr b.ticket), 0x0200 ≤ w ∧ w + 4 ≤ 0x8800 :=
    fun w hw => by
      obtain ⟨f, -, rfl⟩ := List.mem_map.mp hw
      exact ⟨ticketAddr_low _ f, ticketAddr_high table f⟩
  have header : ∀ a, a + 4 ≤ 0x0200 → u.word a = logged.word a := fun a ha =>
    own.word fun w hw => .inl (by have := ownWord w hw; omega)
  have findBefore : ∀ i, listed.sched.find i = s.held i := fun i => by rw [sched]; rfl
  have portAfter : u.port = logged.port := sameCounted .port (by decide)
  have slot := logSlot_bounds s.port.counts[(2 : Fin 8)]
  refine ⟨?_, fun i hi => ?_, ?_, fun yes => ?_, fun c => ?_, ?_, ?_, fun f => ?_, ?_, ?_⟩
  · rw [State.held, putSched, schedLogged, ← indexAfter]
    exact Schedule.find_put_same (x := t) (by rw [indexAfter, findBefore]; exact held)
  · rw [State.held, putSched, schedLogged, Schedule.find_put_of_ne (by rw [indexAfter]; exact hi), findBefore]
  · rw [putSched, schedLogged, sched]
    rfl
  · have kept : logged.word Header.remakeLength = listed.word Header.remakeLength := by
      rw [hg]
      exact State.word_logEntry _ _ _ (.inl (by decide)) (by decide)
    rw [header _ (by decide), kept, length yes, putSched, schedLogged, sched, yes]
    rfl
  · rw [portAfter, header _ (by have := c.isLt; simp only [Header.count]; omega)]
    exact noticed.of_counts (by rw [port]) c
  · rw [portAfter]
    exact portLogged
  · exact written.of_bytes own fun w hw => .inl (by have := ownWord w hw; omega)
  · rw [fields]
    refine if_congr Iff.rfl rfl ?_
    have low := ticketAddr_low b.ticket f
    have high := ticketAddr_high table f
    have kept : logged.mem.ticket b.ticket f = listed.mem.ticket b.ticket f := by
      rw [hg]
      exact State.word_logEntry _ _ _ (.inl high) (.inr (le_trans (by decide) low))
    exact kept.trans (bytesListed.word fun w hw => .inr (by rw [List.mem_singleton.mp hw]; exact le_trans (by decide) low))
  · exact ((sameListed.trans sameLogged).trans sameCounted).mono (by decide)
  · refine ((bytesListed.trans bytesLogged).trans own).mono fun a ha => ?_
    simp only [List.mem_append, List.mem_cons, List.not_mem_nil, or_false] at ha ⊢
    tauto

/-- Settles O32: a posting that leaves its ticket something to come ends before the end check does anything; and the end
check by the counts of R17. -/
theorem spoilPostingRemake : Obligations.SpoilPostingRemake := by
  refine ⟨fun s b m posting inv x held short flight stop hstop queued hqueued slot hslot t ht => ?_,
    fun s i inv x held left hleft => ⟨fun short remains => ?_, fun stage reason ends t ht => ?_⟩⟩
  · obtain ⟨heldConsulted, others, mem, sched, same⟩ := s.consult_effect b.ticket
    rw [held, Option.map_some, HeldTicket.consulted_eq, ← hstop] at heldConsulted
    have spoiled := State.postSpoiled_eq b m posting s
    rw [heldConsulted, ht] at spoiled
    have decided : remakeQueued m.code (HeldTicket.countSpoiled m.code { x with stop := stop })
        (s.consult b.ticket).sched.remakes.length = queued := by
      rw [hqueued, show (s.consult b.ticket).sched.remakes = s.sched.remakes by rw [sched], remakeQueued_eq]
      rfl
    dsimp only at spoiled
    rw [decided, State.spoilHeld_eq] at spoiled
    obtain ⟨u, hu⟩ : ∃ u, u = (s.consult b.ticket).spoilCounted b m posting { x with stop := stop } queued := ⟨_, rfl⟩
    obtain ⟨heldAfter, othersAfter, schedAfter, length, noticed, port, logged, fields, sameAfter, bytes⟩ :=
      State.spoilCounted_effect heldConsulted (HeldInTable.lt inv.2.2 held) hu
    rw [← hu, State.endCheck_stays heldAfter short (HeldTicket.exhausted_of_inFlight (by
      simp only [HeldTicket.spoiledAs]; omega))] at spoiled
    subst spoiled
    have port' : (s.consult b.ticket).port = s.port := same .port (by decide)
    have bytesBefore : BytesBut [] s (s.consult b.ticket) := BytesBut.of_mem mem
    rw [port'] at port logged bytes
    obtain ⟨number, serial, ⟨ticket, job, clamp, kind⟩, ⟨code, plain, outcome, point⟩, ⟨position, place, read⟩, thick, detail⟩ :=
      logged.entry hslot
    refine ⟨heldAfter, fun i hi => (othersAfter i hi).trans (others i hi), ?_, length, ?_, ?_, ?_, noticed.of_counts (by rw [port']),
      number, serial, ticket, job, clamp, ?_, code, plain, ?_, point, position, place, read, ?_, ?_, ?_, fun defect => ?_, ?_, port, ?_⟩
    · rw [schedAfter, sched]
    · rw [schedAfter, sched]
    · rw [schedAfter, sched]
    · rw [schedAfter, sched]
    · rw [kind]
      cases b.kind <;> rfl
    · rw [outcome]
      cases queued <;> rfl
    · exact thick
    · rw [detail]
      exact postedDetail_eq b m
    · rw [fields, if_pos (HeldTicket.spoiled_mem_changed _ _ _)]
      rfl
    · rw [fields, if_pos (HeldTicket.lastDefect_mem_changed (t := { x with stop := stop }) queued defect.1 defect.2)]
      rfl
    · exact (same.trans sameAfter).mono (by decide)
    · exact (bytesBefore.trans bytes).mono (fun _ h => h)
  · refine State.endCheck_stays held short (Bool.eq_false_iff.mpr fun ends => ?_)
    obtain ⟨-, flight, remakes, last⟩ := x.exhausted_iff.mp ends
    rw [hleft] at remains
    simp only [Bool.or_eq_true, Bool.and_eq_true, decide_eq_true_eq] at remains
    tauto
  · subst ht
    have whole : x.made = x.qty ∨ x.exhausted = true := by
      refine ends.imp (fun h => h.1) fun ⟨short, none_left, _⟩ => x.exhausted_iff.mpr ?_
      rw [hleft] at none_left
      simp only [Bool.or_eq_false_iff, Bool.and_eq_false_iff, decide_eq_false_iff_not, not_not] at none_left
      tauto
    rw [State.endCheck_ends held whole]
    obtain ⟨gone, others, stageWord, reasonWord, finish, fields, noticed, cursor, cursorWord, sched, port, same, bytes⟩ :=
      State.endHeld_effect x _ _ s rfl
    rw [State.held_index held] at *
    refine ⟨gone, others, ?_, ?_, fields .made (by decide) (by decide), fields .spoiled (by decide) (by decide),
      fields .short (by decide) (by decide), fields .lastDefect (by decide) (by decide), finish, noticed, cursor, cursorWord, sched,
      port, same, bytes⟩
    · rw [stageWord]
      rcases ends with ⟨done, rfl, -⟩ | ⟨short, -, rfl, -⟩
      · rw [if_pos done]; rfl
      · rw [if_neg (by omega)]; rfl
    · rw [reasonWord]
      rcases ends with ⟨done, -, rfl⟩ | ⟨short, -, -, rfl⟩
      · rw [if_pos done]; rfl
      · rw [if_neg (by omega)]
        exact x.failReason_number

/-! ### What every spoiled posting does (R146, R148, R149) -/

/-- The words a posting of a ticket's book can write. -/
def postWords (ticket : Nat) (count : Word) : List Nat :=
  [Header.count 1, Header.count 2, Header.cursor, Header.remakeLength] ++ logWordsAt count ++ ticketWordsAt ticket

theorem ticketWordsAt_bounds {i : Nat} (table : i < 256) : ∀ w ∈ ticketWordsAt i, 0x4800 ≤ w ∧ w + 4 ≤ 0x8800 := by
  intro w hw
  obtain ⟨j, hj, rfl⟩ := List.mem_map.mp hw
  have := List.mem_range.mp hj
  unfold ticketBase
  omega

theorem logWordsAt_bounds (count : Word) : ∀ w ∈ logWordsAt count, 0x8800 ≤ w ∧ w + 4 ≤ 0x9800 := by
  intro w hw
  obtain ⟨j, hj, rfl⟩ := List.mem_map.mp hw
  have := List.mem_range.mp hj
  have := logSlot_bounds count
  omega

/-- A posting reports its book: the entry, the counts of the log and of ended tickets, the ticket's words, and nothing
else. -/
theorem State.postSpoiled_effect {b : Book} {m : SpoilMark} {p : PostPoint} {s t : State} (inv : HeldInTable s)
    (ht : t = s.postSpoiled b m p) :
    (∃ outcome, Logged s.port.counts[(2 : Fin 8)] b (spoilEntry b m outcome p) t) ∧
      t.port.counts[(2 : Fin 8)] = s.port.counts[(2 : Fin 8)] + 1 ∧
      (∀ c : Fin 8, c ≠ 1 → c ≠ 2 → t.port.counts[c] = s.port.counts[c]) ∧
      t.port = { s.port with counts := t.port.counts, attention := t.port.attention } ∧ SameBut [.sched, .port] s t ∧
      BytesBut (postWords b.ticket s.port.counts[(2 : Fin 8)]) s t := by
  obtain ⟨heldConsulted, -, mem, -, same⟩ := s.consult_effect b.ticket
  have port : (s.consult b.ticket).port = s.port := same .port (by decide)
  have before : BytesBut [] s (s.consult b.ticket) := BytesBut.of_mem mem
  rw [State.postSpoiled_eq] at ht
  cases held : (s.consult b.ticket).held b.ticket with
  | none =>
    rw [held] at ht
    dsimp only at ht
    have logged := (s.consult b.ticket).logEntry_logged b (spoilEntry b m .short p)
    have noticed := (s.consult b.ticket).logEntry_noticed b (spoilEntry b m .short p)
    have portAfter := (s.consult b.ticket).logEntry_port b (spoilEntry b m .short p)
    have sameAfter := (s.consult b.ticket).logEntry_same b (spoilEntry b m .short p)
    obtain ⟨-, -, bytes⟩ := (s.consult b.ticket).logEntry_effect b (spoilEntry b m .short p)
    rw [← ht] at logged noticed portAfter sameAfter bytes
    rw [port] at logged portAfter bytes
    refine ⟨⟨_, logged⟩, ?_, fun c _ other => ?_, portAfter, (same.trans sameAfter).mono (by decide), ?_⟩
    · exact (noticed.of_counts (by rw [port]) 2).1
    · rw [(noticed c).1, port, oneNotice, if_neg (by simpa [Attention.number] using other)]
      simp
    · refine (before.trans bytes).mono fun a ha => ?_
      simp only [postWords, List.nil_append, List.mem_append, List.mem_cons, List.not_mem_nil, or_false] at ha ⊢
      tauto
  | some x =>
    have table : b.ticket < 256 := by
      rw [held] at heldConsulted
      obtain ⟨y, hy, -⟩ := Option.map_eq_some_iff.mp heldConsulted.symm
      exact inv.lt hy
    rw [held] at ht
    dsimp only at ht
    rw [State.spoilHeld_eq] at ht
    generalize remakeQueued m.code (HeldTicket.countSpoiled m.code x) (s.consult b.ticket).sched.remakes.length = queued at ht
    obtain ⟨u, hu⟩ : ∃ u, u = (s.consult b.ticket).spoilCounted b m p x queued := ⟨_, rfl⟩
    obtain ⟨-, -, -, -, noticed, portCounted, logged, -, sameCounted, bytes⟩ := State.spoilCounted_effect held table hu
    obtain ⟨sameEnd, portEnd, counts, -, bytesEnd⟩ := u.endCheck_effect b.ticket
    rw [← hu] at ht
    rw [← ht] at sameEnd portEnd counts bytesEnd
    rw [port] at portCounted logged bytes
    have slot := logSlot_bounds s.port.counts[(2 : Fin 8)]
    refine ⟨⟨_, logged.of_bytes bytesEnd fun w hw => ?_⟩, ?_, fun c first second => ?_, ?_, ?_, ?_⟩
    · rcases List.mem_append.mp hw with h | h
      · simp only [List.mem_cons, List.not_mem_nil, or_false, Header.count, Header.cursor] at h
        omega
      · have := ticketWordsAt_bounds table w h
        omega
    · rw [counts 2 (by decide)]
      exact (noticed.of_counts (by rw [port]) 2).1
    · rw [counts c first, (noticed c).1, port, oneNotice, if_neg (by simpa [Attention.number] using second)]
      simp
    · rw [portEnd, portCounted]
    · exact ((same.trans sameCounted).trans sameEnd).mono (by decide)
    · refine ((before.trans bytes).trans bytesEnd).mono fun a ha => ?_
      simp only [postWords, List.nil_append, List.mem_append, List.mem_cons, List.not_mem_nil, or_false, List.mem_map] at ha ⊢
      rcases ha with (((rfl | rfl) | h) | ⟨f, -, rfl⟩) | (rfl | rfl) | h
      · tauto
      · tauto
      · tauto
      · exact .inr (mem_ticketWordsAt _ f)
      · tauto
      · tauto
      · tauto

/-- A spoiled posting and its entry in the words of R146, R148 and R149. -/
theorem State.postSpoiled_spoilLogged {b : Book} {m : SpoilMark} {p : PostPoint} {s : State} (inv : HeldInTable s) :
    SpoilLogged b.serial m.code.number p.number m.point s (s.postSpoiled b m p) := by
  obtain ⟨⟨outcome, logged⟩, count, -⟩ := State.postSpoiled_effect (b := b) (m := m) (p := p) inv rfl
  obtain ⟨number, serial, -, ⟨code, plain, -, posting⟩, ⟨position, place, -⟩, -⟩ := logged.entry rfl
  exact ⟨count, number, serial, code, plain, posting, position, place⟩

end Sys2Proof.Machine
end

section
/-!
Locks of the Job cache (R44, R51, R55), and CLEAR_CLAMP (R73, R85, R146).
-/

namespace Sys2Proof.Machine

/-! ### Entries and locks -/

theorem State.changeCache_effect (f : JobCache → JobCache) (s : State) :
    (s.changeCache f).cache = f s.cache ∧ SameBut [.cache] s (s.changeCache f) ∧
      BytesBut [Header.occupancy] s (s.changeCache f) := by
  unfold State.changeCache
  dsimp only
  split
  · exact ⟨rfl, fun p hp => (by cases p <;> simp [Part.same] at hp ⊢), BytesBut.of_mem rfl⟩
  · exact ⟨rfl, fun p hp => (by cases p <;> simp [Part.same] at hp ⊢), fun a ha => State.putWord_bytes Header.occupancy _ s a ha⟩

theorem State.setEntry_effect (e : Fin 16) (x : CacheEntry) (s : State) :
    (s.setEntry e x).cache.entries[e] = x ∧ (∀ f : Fin 16, f ≠ e → (s.setEntry e x).cache.entries[f] = s.cache.entries[f]) ∧
      (s.setEntry e x).cache.stock = s.cache.stock ∧ (s.setEntry e x).cache.fetch = s.cache.fetch ∧
      SameBut [.cache] s (s.setEntry e x) ∧ BytesBut [Header.occupancy] s (s.setEntry e x) := by
  obtain ⟨cache, same, bytes⟩ := s.changeCache_effect fun c => { c with entries := c.entries.set e x }
  rw [State.setEntry]
  refine ⟨?_, fun f hf => ?_, by rw [cache], by rw [cache], same, bytes⟩
  · rw [cache]; simp
  · rw [cache]
    have : e.val ≠ f.val := fun k => hf (Fin.ext k.symm)
    simp [this]

/-- The lock count after one lock is lowered. -/
theorem State.dropLock_effect (e : Fin 16) (s : State) :
    LockReleased e s (s.dropLock e) ∧ SameBut [.cache] s (s.dropLock e) ∧ BytesBut [Header.occupancy] s (s.dropLock e) := by
  obtain ⟨entry, others, stock, fetch, same, bytes⟩ := s.setEntry_effect e
    (if s.cache.entries[e].stale = true ∧ s.cache.entries[e].locks - 1 = 0 then CacheEntry.emptyEntry
      else { s.cache.entries[e] with locks := s.cache.entries[e].locks - 1 })
  refine ⟨⟨entry.trans (if_congr (and_congr_right fun _ => ?_) rfl rfl), others, stock, fetch⟩, same, bytes⟩
  omega

theorem State.freeLock_effect (b : Book) (s : State) :
    (b.entry = none → (s.freeLock b).cache = s.cache) ∧ (∀ e, b.entry = some e → LockReleased e s (s.freeLock b)) ∧
      SameBut [.cache] s (s.freeLock b) ∧ BytesBut [Header.occupancy] s (s.freeLock b) := by
  rw [State.freeLock]
  cases b.entry with
  | none => exact ⟨fun _ => rfl, fun e he => (by cases he), SameBut.refl _ s, BytesBut.refl _ s⟩
  | some e =>
    obtain ⟨released, same, bytes⟩ := s.dropLock_effect e
    exact ⟨fun k => (by cases k), fun f hf => (by cases hf; exact released), same, bytes⟩

theorem LockReleased.congr {e : Fin 16} {s s' t t' : State} (h : LockReleased e s t) (before : s'.cache = s.cache)
    (after : t'.cache = t.cache) : LockReleased e s' t' := by
  unfold LockReleased at h ⊢
  rw [before, after]
  exact h

theorem State.setClamp_effect (p : Fin 24) (x : Slot) (s : State) :
    (s.setClamp p x).clampAt p = x ∧ (∀ q, q ≠ p → (s.setClamp p x).clampAt q = s.clampAt q) ∧
      (∀ q : Fin 24, (s.setClamp p x).carousel.places[q].number = s.carousel.places[q].number) ∧
      (s.setClamp p x).carousel = { s.carousel with places := (s.setClamp p x).carousel.places } ∧
      SameBut [.carousel] s (s.setClamp p x) ∧ (s.setClamp p x).mem = s.mem := by
  refine ⟨by rw [State.clampAt_setClamp, if_pos rfl], fun q hq => by rw [State.clampAt_setClamp, if_neg hq],
    fun q => State.number_setClamp p q x s, rfl, fun r hr => (by cases r <;> simp [Part.same] at hr ⊢), rfl⟩

/-! ### CLEAR_CLAMP (R73, R85, R146) -/

theorem State.clampPosition_eq {s : State} {n : Nat} {p : Fin 24} (number : s.carousel.places[p].number = n)
    (only : ∀ q : Fin 24, q ≠ p → s.carousel.places[q].number ≠ n) : s.clampPosition n = some p := by
  unfold State.clampPosition
  cases found : (List.finRange 24).find? fun q => decide (s.carousel.places[q].number = n) with
  | none => exact absurd (List.find?_eq_none.mp found p (List.mem_finRange p)) (by simpa using number)
  | some q =>
    have hit : s.carousel.places[q].number = n := by simpa using List.find?_some found
    exact congrArg some (by_contra fun other => only q other hit)

theorem State.runClearClamp_accepted {s : State} {arg : Word} {p : Fin 24} (range : arg.toNat ≤ 23)
    (halted : s.line.mode = .halted) (number : s.carousel.places[p].number = arg.toNat)
    (only : ∀ q : Fin 24, q ≠ p → s.carousel.places[q].number ≠ arg.toNat) : s.runClearClamp arg = s.clearPlace p := by
  rw [State.runClearClamp, if_neg (by omega), if_neg (not_not.mpr halted), State.clampPosition_eq number only]

theorem State.clearPlace_empty {s : State} {p : Fin 24} (h : (s.clampAt p).isHolding = false) :
    s.clearPlace p = (s.setClamp p .empty, .plain .ok) := by
  unfold State.clearPlace
  cases held : s.clampAt p with
  | holding b => rw [held] at h; cases h
  | empty => rfl
  | unknown => rfl

theorem Book.spoilWith_spoil (b : Book) (code : SpoilCode) (point : DetectionPoint) (detail : Word) (r : Bool) :
    b.spoilWith code point detail r = { b with spoil := some (b.spoil.getD ⟨code, point, detail, r⟩) } := by
  obtain ⟨serial, ticket, job, kind, format, entry, mask, spoil, warnings, clamp, glued, covered, nipped, atLaunch,
    conversions, gauged⟩ := b
  cases spoil <;> rfl

theorem State.clearPlace_holding {s : State} {p : Fin 24} {b : Book} (h : s.clampAt p = .holding b) :
    s.clearPlace p =
      (((s.setClamp p .empty).freeLock b).postSpoiled
        { b with spoil := some (b.spoil.getD ⟨.removed, carouselPoint p, 0, false⟩) }
        (b.spoil.getD ⟨.removed, carouselPoint p, 0, false⟩) .clearClamp, ⟨.ok, b.serial⟩) := by
  rw [State.clearPlace, h]
  dsimp only
  rw [Book.spoilWith_spoil, State.postBook]

/-- Settles O55: an EMPTY or UNKNOWN clamp empties, and the record of a HOLDING one loses its lock and is posted. -/
theorem clearClamp : Obligations.ClearClamp := by
  intro s dt arg idle halted inv range p number only
  have run := exec_clearClamp_of_idle dt arg s idle
  obtain ⟨takenNow, takenPort, takenSame, takenBytes⟩ := s.taking_effect dt 6 (some arg)
  have answered := fun (ps ws) (v : State) (r : Reply) (same : SameBut ps (s.taking dt 6 (some arg)) v)
    (bytes : BytesBut ws (s.taking dt 6 (some arg)) v) => s.taking_answered dt 6 (some arg) r same bytes
  generalize s.taking dt 6 (some arg) = a at *
  have carousel : a.carousel = s.carousel := takenSame .carousel (by decide)
  have clamps : ∀ q, a.clampAt q = s.clampAt q := fun q => by rw [State.clampAt, State.clampAt, carousel]
  have line : a.line = s.line := takenSame .line (by decide)
  rw [State.runClearClamp_accepted range (by rw [line]; exact halted) (by rw [carousel]; exact number)
    (by rw [carousel]; exact only)] at run
  obtain ⟨empty, others, numbers, frame, cleared, clearedMem⟩ := a.setClamp_effect p .empty
  rw [carousel] at numbers frame
  refine ⟨fun none_there => ?_, fun b there => ?_⟩
  · rw [State.clearPlace_empty (by rw [clamps]; exact none_there)] at run
    obtain ⟨later, answer, noticed, same, bytes⟩ :=
      answered _ [] _ (.plain .ok) cleared (BytesBut.of_mem clearedMem) (by decide) (by decide)
    have doneSame := (a.setClamp p .empty).slotDone_sameBut (.plain .ok)
    have after : ((a.setClamp p .empty).slotDone (.plain .ok)).carousel = (a.setClamp p .empty).carousel :=
      doneSame .carousel (by decide)
    refine ⟨_, run, later, answer, ?_, fun q hq => ?_, fun q => ?_, ?_, noticed, same.mono (by decide),
      bytes.mono (show ∀ w ∈ slotWordsArg ++ [] ++ slotWords, w ∈ slotWordsArg by decide)⟩
    · rw [State.clampAt, after]; exact empty
    · rw [State.clampAt, after]; exact (others q hq).trans (clamps q)
    · rw [after]; exact numbers q
    · rw [after]; exact frame
  · rw [State.clearPlace_holding (by rw [clamps]; exact there)] at run
    obtain ⟨unlocked, released, freed, -⟩ := (a.setClamp p .empty).freeLock_effect b
    obtain ⟨f, hf⟩ : ∃ f, f = (a.setClamp p .empty).freeLock b := ⟨_, rfl⟩
    rw [← hf] at run unlocked released freed
    have before := takenSame.trans (cleared.trans freed)
    have port : f.port = a.port := (cleared.trans freed) .port (by decide)
    have counts : f.port.counts = s.port.counts := by rw [port, takenPort]
    have table : HeldInTable f := by
      intro x hx
      rw [show f.sched = s.sched from before .sched (by decide)] at hx
      exact inv.2.2 x hx
    generalize hm : b.spoil.getD ⟨.removed, carouselPoint p, 0, false⟩ = m at run
    obtain ⟨⟨outcome, logged⟩, raised, -, -, posted, -⟩ :=
      State.postSpoiled_effect (b := { b with spoil := some m }) (m := m) (p := .clearClamp) table rfl
    generalize f.postSpoiled { b with spoil := some m } m .clearClamp = u at *
    rw [counts] at logged raised
    obtain ⟨answer, -, countsAfter, bytesAfter⟩ := u.slotDone_effect ⟨.ok, b.serial⟩
    have doneSame := u.slotDone_sameBut ⟨.ok, b.serial⟩
    generalize u.slotDone ⟨.ok, b.serial⟩ = t at *
    have slot := logSlot_bounds s.port.counts[(2 : Fin 8)]
    have entry := logged.of_bytes bytesAfter fun w hw => .inl (by
      have : ∀ v ∈ [Header.resultDetail, Header.result, Header.commandState, Header.count 0], v + 4 ≤ 0x0200 := by decide
      have := this w hw
      omega)
    obtain ⟨-, serial, -, ⟨code, -, -, posting⟩, -⟩ := entry.entry rfl
    have whole := before.trans (posted.trans doneSame)
    have carouselAfter : t.carousel = (a.setClamp p .empty).carousel :=
      (freed.trans (posted.trans doneSame)) .carousel (by decide)
    have cacheAfter : t.cache = f.cache := (posted.trans doneSame) .cache (by decide)
    have cacheBefore : s.cache = (a.setClamp p .empty).cache := ((takenSame.trans cleared) .cache (by decide)).symm
    refine ⟨t, run, ?_, answer, ?_, fun q hq => ?_, whole .gathering (by decide), whole .trim (by decide),
      whole .line (by decide), whole .phase (by decide), whole .config (by decide), ?_, serial, ?_, posting, fun none_held => ?_,
      fun e he => (released e he).congr cacheBefore cacheAfter⟩
    · exact ((cleared.trans (freed.trans (posted.trans doneSame))) .now (by decide)).trans takenNow
    · rw [State.clampAt, carouselAfter]; exact empty
    · rw [State.clampAt, carouselAfter]; exact (others q hq).trans (clamps q)
    · rw [countsAfter, ← raised]
      simp
    · refine code.trans ?_
      rw [← hm]
      cases b.spoil <;> rfl
    · rw [cacheAfter, unlocked none_held, ← cacheBefore]

end Sys2Proof.Machine
end

section
/-!
LOAD_CONFIG: its acceptance, the end of its reading, and the checks of the record (R8, R10, R11, R172, R174 to R176).
-/

namespace Sys2Proof.Machine

/-! ### The checks of a record (R8, R176) -/

/-- A field that has a range passes within it; the setback setpoint is checked against the working setpoint too. -/
theorem configFieldOk_of_range (ws : List Word) : ∀ x ∈ fieldRanges,
    (configFieldOk ws x.1 = true ↔
      (x.2.1 ≤ (ws.getD x.1 0).toNat ∧ (ws.getD x.1 0).toNat ≤ x.2.2) ∧ (x.1 = 21 → (ws.getD 21 0).toNat ≤ (ws.getD 19 0).toNat)) := by
  change ∀ x ∈ fieldRanges,
    (configFieldOk ws x.1 = true ↔ (x.2.1 ≤ nthNat ws x.1 ∧ nthNat ws x.1 ≤ x.2.2) ∧ (x.1 = 21 → nthNat ws 21 ≤ nthNat ws 19))
  simp only [fieldRanges, List.forall_mem_cons]
  refine ⟨?_, ?_⟩
  · simp only [configFieldOk, if_true, decide_eq_true_eq]
    omega
  · simp [configFieldOk]

theorem fieldRanges_unique : ∀ x ∈ fieldRanges, ∀ y ∈ fieldRanges, y.1 = x.1 → y = x := by decide

theorem fieldRanges_cover : ∀ i < 35, (4 ≤ i ∧ i ≤ 13) ∨ ∃ x ∈ fieldRanges, x.1 = i := by decide

theorem fieldRanges_apart : ∀ x ∈ fieldRanges, ¬ (4 ≤ x.1 ∧ x.1 ≤ 13) := by decide

theorem halves_eq (w : Word) : lowHalf w = w.toNat % 65536 ∧ highHalf w = w.toNat / 65536 := by
  have := w.isLt
  simp only [lowHalf, highHalf, BitVec.extractLsb'_toNat, Nat.shiftRight_eq_div_pow]
  omega

theorem spanValid_iff (w : Word) :
    spanValid (spanOfWord w) = true ↔ 1 ≤ w.toNat % 65536 ∧ w.toNat / 65536 ≤ 4095 ∧ w.toNat % 65536 + 64 ≤ w.toNat / 65536 := by
  obtain ⟨low, high⟩ := halves_eq w
  simp only [spanValid, spanOfWord, low, high, Bool.and_eq_true, decide_eq_true_eq]
  omega

theorem configFieldOk_of_window (ws : List Word) {i : Nat} (lo : 4 ≤ i) (hi : i ≤ 13) :
    configFieldOk ws i = spanValid (spanOfWord (ws.getD i 0)) := by
  unfold configFieldOk
  dsimp only
  rw [if_neg (by omega), if_neg (by omega), if_neg (by omega), if_neg (by omega), if_pos hi]
  rfl

theorem configFieldOk_iff (ws : List Word) {i : Nat} (range : i < 35) : configFieldOk ws i = true ↔ FieldPasses ws i := by
  rcases fieldRanges_cover i range with window | ⟨x, hx, rfl⟩
  · rw [configFieldOk_of_window ws window.1 window.2, spanValid_iff]
    refine ⟨fun h => ⟨fun x hx hi => absurd (hi ▸ window) (fieldRanges_apart x hx), fun _ => h, fun k => by omega⟩,
      fun h => h.2.1 window⟩
  · rw [configFieldOk_of_range ws x hx]
    refine ⟨fun h => ⟨fun y hy hi => ?_, fun k => absurd k (fieldRanges_apart x hx), h.2⟩, fun h => ⟨h.1 x hx rfl, h.2.2⟩⟩
    rw [fieldRanges_unique x hx y hy hi]
    exact h.1

theorem firstBadField_iff (ws : List Word) :
    (firstBadField ws = none ↔ ∀ j, j < 35 → FieldPasses ws j) ∧
      ∀ i, firstBadField ws = some i ↔ (i < 35 ∧ ¬ FieldPasses ws i ∧ ∀ j, j < i → FieldPasses ws j) := by
  have bad : ∀ j, j < 35 → ((!configFieldOk ws j) = true ↔ ¬ FieldPasses ws j) := fun j hj => by
    rw [Bool.not_eq_true', Bool.eq_false_iff, Ne, configFieldOk_iff ws hj]
  refine ⟨?_, fun i => ?_⟩
  · rw [firstBadField, List.find?_range_eq_none]
    refine forall₂_congr fun j hj => ?_
    rw [Bool.not_not, configFieldOk_iff ws hj]
  · rw [firstBadField, List.find?_range_eq_some, List.mem_range]
    constructor
    · rintro ⟨fails, range, before⟩
      refine ⟨range, (bad i range).mp fails, fun j hj => ?_⟩
      rw [← configFieldOk_iff ws (hj.trans range), ← Bool.not_not (configFieldOk ws j)]
      exact before j hj
    · rintro ⟨range, fails, before⟩
      refine ⟨(bad i range).mpr fails, range, fun j hj => ?_⟩
      rw [Bool.not_not, configFieldOk_iff ws (hj.trans range)]
      exact before j hj

/-! ### The end of the reading (R175) -/

theorem State.elapse_eq (dt : Nat) (s : State) : s.elapse dt = { s with now := s.now + dt } := rfl

theorem State.loadEnd_of_reading {s : State} {log : List (Nat × Word)} (reading : s.port.reading = some log) (lags : List Nat) :
    s.loadEnd lags =
      (((s.updPort fun p => { p with reading := none }).judgeRecord (configReads s.mem log lags)).1.slotDone
        ((s.updPort fun p => { p with reading := none }).judgeRecord (configReads s.mem log lags)).2) := by
  rw [State.loadEnd, reading]

theorem PhaseUnit.mem_marksFor (c : Settings) (p : PhaseUnit) (w : Window) :
    (w ∈ (p.marksFor c).startTaken ↔ (c.window w).first ≤ p.counter) ∧
      (w ∈ (p.marksFor c).endTaken ↔ (c.window w).last ≤ p.counter) := by
  simp [PhaseUnit.marksFor, mem_allWindows]

/-- A record that becomes the configuration in force (R8, R10, R11, R175). -/
theorem State.takeSettings_effect (c : Settings) (s : State) :
    (s.takeSettings c).config = ⟨c, true⟩ ∧ (s.takeSettings c).word Header.source = 1 ∧
      (s.takeSettings c).phase =
        { s.phase.marksFor c with
          lastCycle := c.startCycle, startMark := true, comp := compFor c.valveLead c.startCycle } ∧
      SameBut [.phase, .config] s (s.takeSettings c) ∧ BytesBut [Header.source] s (s.takeSettings c) := by
  let u := (((s.updConfig fun _ => ⟨c, true⟩).putWord Header.source 1).updPhase (PhaseUnit.marksFor c))
  have run : s.takeSettings c = u.driveStart := rfl
  have phase : u.phase = s.phase.marksFor c := congrArg (PhaseUnit.marksFor c) (by simp)
  have config : u.config = ⟨c, true⟩ := by simp [u]
  have mem : u.driveStart.mem = u.mem := by simp
  refine ⟨?_, ?_, ?_, fun p hp => ?_, ?_⟩
  · rw [run, ← config]
    simp
  · rw [run, State.word, mem]
    exact State.word_putWord_same Header.source 1 (s.updConfig fun _ => ⟨c, true⟩)
  · rw [run, State.driveStart_phase, phase, config]
  · rw [run]
    cases p <;> simp [Part.same, u] at hp ⊢
  · rw [run]
    exact fun x hx => (congrArg (fun m : Memory => m.read x) mem).trans
      (State.putWord_bytes Header.source 1 (s.updConfig fun _ => ⟨c, true⟩) x hx)

/-- The three ends of a judged record. -/
theorem State.judgeRecord_effect (ws : List Word) (s : State) :
    (∀ i, firstBadField ws = some i → s.judgeRecord ws = (s, ⟨.badConfig, BitVec.ofNat 32 i⟩)) ∧
      (firstBadField ws = none → s.loadAccepted = false → s.judgeRecord ws = (s, .plain .busy)) ∧
      (firstBadField ws = none → s.loadAccepted = true →
        s.judgeRecord ws = (s.takeSettings (settingsOfWords ws), .plain .ok)) := by
  refine ⟨fun i bad => ?_, fun good refused => ?_, fun good accepted => ?_⟩
  · rw [State.judgeRecord, bad]
  · rw [State.judgeRecord, good]
    exact if_neg (by rw [refused]; decide)
  · rw [State.judgeRecord, good]
    exact if_pos accepted

theorem State.judgeRecord_frame (ws : List Word) (s : State) :
    SameBut [.phase, .config] s (s.judgeRecord ws).1 ∧ BytesBut [Header.source] s (s.judgeRecord ws).1 := by
  obtain ⟨bad, busy, accepted⟩ := s.judgeRecord_effect ws
  cases first : firstBadField ws with
  | some i =>
    rw [bad i first]
    exact ⟨SameBut.refl _ s, BytesBut.refl _ s⟩
  | none =>
    cases fits : s.loadAccepted with
    | false =>
      rw [busy first fits]
      exact ⟨SameBut.refl _ s, BytesBut.refl _ s⟩
    | true =>
      rw [accepted first fits]
      obtain ⟨-, -, -, same, bytes⟩ := s.takeSettings_effect (settingsOfWords ws)
      exact ⟨same, bytes⟩

/-- A record read is answered: the answer's words, and what the record made of the state. -/
theorem State.answer_effect {ps : List Part} {ws : List Nat} {s v : State} (same : SameBut ps s v) (bytes : BytesBut ws s v)
    (port : Part.port ∉ ps) (r : Reply) :
    Answered (v.slotDone r) r.result r.detail ∧ Noticed (oneNotice .commandDone) s (v.slotDone r) ∧
      (v.slotDone r).port = { s.port with
        taken := false, counts := (v.slotDone r).port.counts, attention := (v.slotDone r).port.attention } ∧
      SameBut (ps ++ [.port]) s (v.slotDone r) ∧ BytesBut (ws ++ slotWords) s (v.slotDone r) := by
  have before : v.port = s.port := same .port port
  refine ⟨(v.slotDone_effect r).1, State.slotDone_noticed r (by rw [before]), ?_, same.trans (v.slotDone_sameBut r),
    bytes.trans (v.slotDone_bytes r)⟩
  rw [State.slotDone_port, before]

theorem State.loadTaken_accepted {s : State} (accepted : s.loadAccepted = true) :
    s.loadTaken = s.slotTaken.updPort fun p => { p with reading := some [] } := if_pos accepted

/-- Settles O58: the acceptance, the three ends of a reading, and the field that fails first. -/
theorem loadConfig : Obligations.LoadConfig := by
  refine ⟨fun s dt idle mode flight unknown => ?_, fun s dt lags log reading ws hws fits hfits => ?_,
    fun s dt lags quiet => ?_, firstBadField_iff⟩
  · have run := exec_loadConfig_of_idle dt s idle
    obtain ⟨-, code, -, issued⟩ := (s.elapse dt).hostIssue_words 1 none
    have same := (s.elapse_same dt).trans ((s.elapse dt).hostIssue_effect 1 none).1
    have accepted : ((s.elapse dt).hostIssue 1 none).loadAccepted = true := by
      rw [State.loadAccepted_congr same (by decide), State.loadAccepted_iff]
      exact ⟨mode, flight, unknown⟩
    rw [State.loadTaken_accepted accepted] at run
    obtain ⟨port, taken, bytes⟩ := ((s.elapse dt).hostIssue 1 none).slotTaken_effect
    have portBefore : ((s.elapse dt).hostIssue 1 none).port = s.port := same .port (by decide)
    have later : ((s.elapse dt).hostIssue 1 none).now = s.now + dt :=
      ((s.elapse dt).hostIssue_effect 1 none).1 .now (by decide)
    generalize (s.elapse dt).hostIssue 1 none = a at *
    have reads : SameBut [.port] a.slotTaken (a.slotTaken.updPort fun p => { p with reading := some [] }) := fun p hp => by
      cases p <;> simp [Part.same] at hp ⊢
    refine ⟨_, run, ?_, State.word_putWord_same Header.commandState 2 a, ?_, ?_, ((same.trans taken).trans reads).mono (by decide), ?_⟩
    · exact (taken .now (by decide)).trans later
    · exact (bytes.word (by decide)).trans code
    · rw [← portBefore, State.updPort_port, port]
    · exact ((issued.trans bytes).mono (w := [Header.commandState, Header.commandCode]) (by decide))
  · have run : exec (.loadConfigReadEnd dt lags) s = .next ((s.elapse dt).loadEnd lags) := rfl
    rw [State.loadEnd_of_reading (s := s.elapse dt) reading, show (s.elapse dt).mem = s.mem from rfl, ← hws] at run
    obtain ⟨a, ha⟩ : ∃ a, a = (s.elapse dt).updPort fun p => { p with reading := none } := ⟨_, rfl⟩
    have before : SameBut [.now, .port] s a := fun p hp => by
      rw [ha]
      cases p <;> simp [Part.same] at hp ⊢
    have port : a.port = { s.port with reading := none } := by rw [ha]; rfl
    have later : a.now = s.now + dt := by rw [ha]; rfl
    have bytesBefore : BytesBut [] s a := BytesBut.of_mem (by rw [ha]; rfl)
    have accepts : a.loadAccepted = fits := by
      rw [State.loadAccepted_congr before (by decide), hfits]
      rfl
    rw [← ha] at run
    obtain ⟨bad, busy, accepted⟩ := a.judgeRecord_effect ws
    obtain ⟨same, bytes⟩ := a.judgeRecord_frame ws
    obtain ⟨-, noticed, portAfter, sameAfter, -⟩ := State.answer_effect same bytes (by decide) (a.judgeRecord ws).2
    rw [accepts] at busy accepted
    refine ⟨_, run, (sameAfter .now (by decide)).trans later, ?_, noticed.of_counts (by rw [port]), fun i h => ?_, fun good refused => ?_,
      fun good fitting => ?_⟩
    · rw [portAfter, port]
    · rw [bad i h]
      obtain ⟨answered, -, -, same', bytes'⟩ := State.answer_effect (SameBut.refl [] a) (BytesBut.refl [] a) (by decide)
        ⟨.badConfig, BitVec.ofNat 32 i⟩
      exact ⟨answered, (before.trans same').mono (by decide), (bytesBefore.trans bytes').mono fun _ h => h⟩
    · rw [busy good refused]
      obtain ⟨answered, -, -, same', bytes'⟩ := State.answer_effect (SameBut.refl [] a) (BytesBut.refl [] a) (by decide)
        (.plain .busy)
      exact ⟨answered, (before.trans same').mono (by decide), (bytesBefore.trans bytes').mono fun _ h => h⟩
    · rw [accepted good fitting]
      obtain ⟨config, source, phase, taken, written⟩ := a.takeSettings_effect (settingsOfWords ws)
      obtain ⟨answered, -, -, same', bytes'⟩ := State.answer_effect taken written (by decide) (.plain .ok)
      have doneSame := (a.takeSettings (settingsOfWords ws)).slotDone_sameBut (.plain .ok)
      have doneBytes := (a.takeSettings (settingsOfWords ws)).slotDone_bytes (.plain .ok)
      generalize a.takeSettings (settingsOfWords ws) = v at *
      have phaseBefore : a.phase = s.phase := before .phase (by decide)
      have phaseAfter : (v.slotDone (.plain .ok)).phase = v.phase := doneSame .phase (by decide)
      rw [phaseBefore] at phase
      rw [phaseAfter, phase]
      exact ⟨answered, (doneSame .config (by decide)).trans config, (doneBytes.word (by decide)).trans source,
        fun w => (PhaseUnit.mem_marksFor _ _ w).1, fun w => (PhaseUnit.mem_marksFor _ _ w).2, rfl,
        (before.trans same').mono (by decide), (bytesBefore.trans bytes').mono fun _ h => h⟩
  · exact congrArg Host.Outcome.next (show (s.elapse dt).loadEnd lags = s.elapse dt by
      rw [State.loadEnd, show (s.elapse dt).port.reading = none from quiet])

end Sys2Proof.Machine
end

section
/-!
The host's word writes (R170 to R173, R177, R178).
-/

namespace Sys2Proof.Machine

/-! ### One word write -/

theorem State.hostWrite_effect (a : Nat) (w : Word) (s : State) :
    (s.hostWrite a w).word a = w ∧ SameBut [.cache, .port] s (s.hostWrite a w) ∧ BytesBut [a] s (s.hostWrite a w) ∧
      (s.hostWrite a w).cache = { s.cache with fetch := (s.hostWrite a w).cache.fetch } ∧
      (s.hostWrite a w).port = { s.port with reading := (s.hostWrite a w).port.reading } := by
  refine ⟨State.word_putWord_same _ _ _, fun p hp => (by cases p <;> simp [Part.same, State.hostWrite] at hp ⊢),
    fun x hx => State.putWord_bytes a w _ x hx, ?_, ?_⟩
  · simp [State.hostWrite]
  · simp [State.hostWrite]

/-- A word of the record or of the tables is kept for the readings in progress (assumption log, entry 8). -/
theorem State.hostWrite_kept {a : Nat} (w : Word) (s : State) (area : 0x0200 ≤ a ∧ a < 0x4800) :
    (s.hostWrite a w).port.reading = s.port.reading.map (fun log => (a, s.word a) :: log) ∧
      (s.hostWrite a w).cache.fetch = s.cache.fetch.map (fun f =>
        if f.waitUntil = none then { f with writes := (a, s.word a) :: f.writes } else f) := by
  have log : logWrite s.mem a = fun l => (a, s.word a) :: l := funext fun l => if_pos area
  refine ⟨?_, ?_⟩
  · simp [State.hostWrite, log]
  · simp [State.hostWrite, log]

/-- Outside those areas nothing is kept. -/
theorem State.hostWrite_outside {a : Nat} (w : Word) (s : State) (area : a < 0x0200 ∨ 0x4800 ≤ a) :
    s.hostWrite a w = s.putWord a w := by
  have log : logWrite s.mem a = fun l => l := funext fun l => if_neg (by omega)
  have fetch : s.cache.fetch.map (fun f => if f.waitUntil.isNone then { f with writes := f.writes } else f) = s.cache.fetch := by
    cases s.cache.fetch <;> simp
  have reading : s.port.reading.map (fun l => l) = s.port.reading := by cases s.port.reading <;> rfl
  unfold State.hostWrite
  rw [log]
  have cache : (s.updCache fun c =>
      { c with fetch := c.fetch.map fun f => if f.waitUntil.isNone then { f with writes := f.writes } else f }) = s := by
    simp only [State.updCache, fetch]
  rw [cache]
  simp only [State.updPort, reading]

theorem attentionAddr_aligned (word : AttentionWord) : attentionAddr word % 4 = 0 := by
  cases word with
  | enables => decide
  | seen c => revert c; decide

theorem attentionAddr_low (word : AttentionWord) : attentionAddr word + 4 ≤ 0x0200 ∧ attentionAddr word ≠ Header.scheduleNotice ∧
    attentionAddr word ≠ Header.commandState ∧ isAttentionAddr (attentionAddr word) = true := by
  cases word with
  | enables => decide
  | seen c => revert c; decide

theorem State.judgeAttention_of_judged {s : State} (h : AttentionInv s) : s.judgeAttention = s := by
  unfold State.judgeAttention State.updPort
  dsimp only
  rw [← h]

/-! ### Commands as word writes (R172, R173) -/

theorem State.putWord_word {s : State} {a : Nat} (wf : s.mem.wf = true) (inside : a + 3 < Memory.size) :
    s.putWord a (s.word a) = s := by
  rw [State.putWord, State.word, State.updMem, Memory.writeWord_readWord wf inside]

/-- The argument that the row of a code writes. -/
def commandArg (code arg1 : Word) : Option Word := if code = 6 ∨ code = 8 then some arg1 else none

/-- The row that a code selects issues that code, and its argument where it has one. -/
theorem exec_commandRow (dt : Nat) (code : Word) (s : State) :
    exec (commandRow dt code (s.word Header.arg1)) s =
      .next (((s.elapse dt).hostIssue code (commandArg code (s.word Header.arg1))).arrival code (s.word Header.arg1)) := by
  by_cases small : code.toNat < 12
  · have named : code = BitVec.ofNat 32 code.toNat := by simp
    generalize code.toNat = n at named small
    subst named
    interval_cases n <;> rfl
  · have other : commandArg code (s.word Header.arg1) = none := if_neg fun k => by rcases k with rfl | rfl <;> exact small (by decide)
    have row : commandRow dt code (s.word Header.arg1) = .unknownCommand dt code := by
      unfold commandRow
      split <;> first | omega | rfl
    rw [row, other]
    rfl

/-- Issuing the code and the argument that stand in the slot's words writes ISSUED alone. -/
theorem State.hostIssue_standing {s : State} (wf : s.mem.wf = true) {code : Word} (stands : s.word Header.commandCode = code) :
    s.hostIssue code (commandArg code (s.word Header.arg1)) = s.putWord Header.commandState 1 := by
  have first : s.hostWrite Header.commandCode code = s := by
    rw [State.hostWrite_header _ _ (by decide), ← stands, State.putWord_word wf (by decide)]
  have second : s.hostWrite Header.arg1 (s.word Header.arg1) = s := by
    rw [State.hostWrite_header _ _ (by decide), State.putWord_word wf (by decide)]
  have issued : s.hostWrite Header.commandState 1 = s.putWord Header.commandState 1 := State.hostWrite_header 1 s (by decide)
  unfold State.hostIssue commandArg
  dsimp only
  rw [first]
  split
  · next w hw =>
    split at hw
    · cases hw
      rw [second, issued]
    · cases hw
  · exact issued

/-- The argument that already stands changes nothing. -/
theorem State.hostIssue_arg {s : State} (wf : s.mem.wf = true) (code : Word) :
    s.hostIssue code (commandArg code (s.word Header.arg1)) = s.hostIssue code none := by
  have first : s.hostWrite Header.commandCode code = s.putWord Header.commandCode code :=
    State.hostWrite_header code s (by decide)
  have wf' : (s.putWord Header.commandCode code).mem.wf = true := Memory.wf_writeWord s.mem Header.commandCode code wf (by decide)
  have stands : (s.putWord Header.commandCode code).word Header.arg1 = s.word Header.arg1 :=
    State.word_putWord_of_ne code s (by decide)
  have second : (s.putWord Header.commandCode code).hostWrite Header.arg1 (s.word Header.arg1) = s.putWord Header.commandCode code := by
    rw [State.hostWrite_header _ _ (by decide), ← stands, State.putWord_word wf' (by decide)]
  unfold State.hostIssue commandArg
  dsimp only
  rw [first]
  split
  · next w hw =>
    split at hw
    · cases hw
      rw [second]
    · cases hw
  · rfl

theorem exec_hostWordWrite {dt a : Nat} (w : Word) (s : State) (inside : a < 0x10000) (aligned : a % 4 = 0) :
    exec (.hostWordWrite dt a w) s = .next ((s.elapse dt).wordWritten a w) := by
  refine (if_neg ?_).trans (if_neg ?_)
  · exact not_le.mpr inside
  · exact not_not.mpr aligned

theorem State.wordWritten_issued (s : State) :
    s.wordWritten Header.commandState 1 =
      (s.putWord Header.commandState 1).arrival (s.word Header.commandCode) (s.word Header.arg1) := by
  have written : s.hostWrite Header.commandState 1 = s.putWord Header.commandState 1 := State.hostWrite_header 1 s (by decide)
  unfold State.wordWritten
  dsimp only
  rw [if_neg (by decide), if_pos ⟨rfl, rfl⟩, written, State.word_putWord_of_ne _ _ (by decide),
    State.word_putWord_of_ne _ _ (by decide)]

/-- A word without a row of its own: the host's write and nothing else, the line standing as judged. -/
theorem State.wordWritten_plain {s : State} {a : Nat} {w : Word} (aligned : a % 4 = 0) (own : hasOwnRow a w = false)
    (judged : AttentionInv s) : s.wordWritten a w = s.hostWrite a w ∧ AttentionInv (s.hostWrite a w) := by
  have apart : a ≠ Header.scheduleNotice ∧ a ≠ Header.attentionEnables ∧ ¬ (0x064 ≤ a ∧ a < 0x084) ∧
      ¬ (a = Header.commandState ∧ w = 1) := by
    simp only [hasOwnRow, Bool.or_eq_false_iff, Bool.and_eq_false_iff, decide_eq_false_iff_not] at own
    obtain ⟨⟨⟨notice, enables⟩, seen⟩, issued⟩ := own
    exact ⟨notice, enables, fun k => seen.elim (· k.1) (· k.2), fun k => issued.elim (· k.1) (· k.2)⟩
  obtain ⟨notice, enables, seen, issued⟩ := apart
  have clear : ClearOfLine a := by
    have words : ∀ x ∈ lineWords, x % 4 = 0 ∧ (x = Header.attentionEnables ∨ (0x064 ≤ x ∧ x < 0x084)) := by decide
    intro x hx
    obtain ⟨wordAligned, place⟩ := words x hx
    have : a ≠ x := fun k => place.elim (fun h => enables (k.trans h)) fun h => seen (k ▸ h)
    omega
  have after : AttentionInv (s.hostWrite a w) := judged.hostWrite clear
  refine ⟨?_, after⟩
  unfold State.wordWritten
  dsimp only
  rw [if_neg notice, if_neg issued]
  split
  · exact State.judgeAttention_of_judged after
  · rfl

theorem State.wordWritten_notice (w : Word) (s : State) :
    s.wordWritten Header.scheduleNotice w = (s.hostWrite Header.scheduleNotice w).notice := by
  unfold State.wordWritten
  exact if_pos rfl

theorem State.wordWritten_attention (word : AttentionWord) (w : Word) (s : State) :
    s.wordWritten (attentionAddr word) w = (s.hostWrite (attentionAddr word) w).judgeAttention := by
  obtain ⟨-, notice, state, line⟩ := attentionAddr_low word
  unfold State.wordWritten
  dsimp only
  rw [if_neg notice, if_neg fun k => state k.1, if_pos line]

/-- A write of an attention word of the host's (R177, R178). -/
theorem exec_attentionWrite_effect (dt : Nat) (word : AttentionWord) (w : Word) (s : State) :
    ∃ t, exec (.attentionWrite dt word w) s = .next t ∧ Later dt s t ∧ t.word (attentionAddr word) = w ∧ AttentionInv t ∧
      t.port = { s.port with attention := t.port.attention } ∧ SameBut [.now, .port] s t ∧
      BytesBut [attentionAddr word] s t := by
  obtain ⟨low, -⟩ := attentionAddr_low word
  have written : (s.elapse dt).hostWrite (attentionAddr word) w = (s.elapse dt).putWord (attentionAddr word) w :=
    State.hostWrite_header w (s.elapse dt) (by omega)
  refine ⟨_, rfl, ?_⟩
  rw [written]
  refine ⟨rfl, State.word_putWord_same _ _ _, State.judgeAttention_judged _, by simp [State.judgeAttention], fun p hp => ?_,
    fun x hx => State.putWord_bytes (attentionAddr word) w (s.elapse dt) x hx⟩
  cases p <;> simp [Part.same] at hp ⊢

/-- Settles O59: a word write is the host's write, judged at the line's words, and issues a command at ISSUED. -/
theorem hostWrites : Obligations.HostWrites := by
  refine ⟨fun s dt word value => ?_, fun s dt addr value wf judged => ?_, fun s dt addr value => ⟨fun beyond => ?_,
    fun inside odd => ?_, ?_, fun word named => ?_⟩, fun s dt code inv => ⟨?_, ?_⟩, fun s dt taken => ?_⟩
  · cases word with
    | enables => exact exec_attentionWrite_effect dt .enables value s
    | seen c => exact exec_attentionWrite_effect dt (.seen c) value s
  · have inside : addr < 0x10000 ∧ addr % 4 = 0 ∧ hasOwnRow addr value = false := by
      simpa [WellFormed, isWordAddress, and_assoc] using wf
    obtain ⟨inside, aligned, own⟩ := inside
    obtain ⟨plain, after⟩ := State.wordWritten_plain (s := s.elapse dt) aligned own judged
    obtain ⟨word, same, bytes, cache, port⟩ := (s.elapse dt).hostWrite_effect addr value
    refine ⟨_, (exec_hostWordWrite value s inside aligned).trans (congrArg Host.Outcome.next plain), same .now (by decide), word, after,
      fun outside => ?_, cache, port, fun area => (s.elapse dt).hostWrite_kept value area,
      ((s.elapse_same dt).trans same).mono (by decide), bytes⟩
    rw [State.hostWrite_outside _ _ outside]
    simp
  · exact if_pos beyond
  · exact (if_neg (not_le.mpr inside)).trans (if_pos odd)
  · rw [exec_hostWordWrite _ _ (by decide) (by decide)]
    exact congrArg Host.Outcome.next (State.wordWritten_notice value (s.elapse dt))
  · have at_word : addr = attentionAddr word := by
      cases word with
      | enables => exact named
      | seen c => exact named
    obtain ⟨low, -⟩ := attentionAddr_low word
    rw [exec_hostWordWrite _ _ (by omega) (by rw [at_word]; exact attentionAddr_aligned word), at_word]
    exact congrArg Host.Outcome.next (State.wordWritten_attention word value (s.elapse dt))
  · rw [exec_hostWordWrite _ _ (by decide) (by decide), exec_commandRow]
    refine congrArg Host.Outcome.next ((s.elapse dt).wordWritten_issued.trans ?_)
    exact congrArg (State.arrival _ _) (State.hostIssue_standing (s := s.elapse dt) inv.1 rfl).symm
  · rw [exec_commandRow]
    exact congrArg (fun u : State => Host.Outcome.next (u.arrival code (s.word Header.arg1)))
      (State.hostIssue_arg (s := s.elapse dt) inv.1 code).symm
  · rw [exec_hostWordWrite _ _ (by decide) (by decide)]
    refine ⟨_, congrArg Host.Outcome.next ((s.elapse dt).wordWritten_issued.trans (State.arrival_of_taken _ _ _ ?_)), rfl,
      State.word_putWord_same _ _ _, ?_, fun x hx => State.putWord_bytes Header.commandState 1 (s.elapse dt) x hx⟩
    · simpa using taken
    · exact (s.elapse_same dt).trans ((s.elapse dt).putWord_sameBut _ _)

end Sys2Proof.Machine
end

section
/-!
Counts and events of the phase counter (R1, R2, R5, R7): what a forward count does without an event, and the one event
it takes where no other stands at its value.
-/

namespace Sys2Proof.Machine

/-! ### Encoder counts (R1) -/

/-- The state in which the events of a forward count are taken. -/
def State.counting (dt : Nat) (s : State) : State := (s.elapse dt).updPhase PhaseUnit.count

theorem State.counting_same (dt : Nat) (s : State) : SameBut [.now, .phase] s (s.counting dt) := fun p hp => by
  cases p <;> simp [Part.same, State.counting] at hp ⊢

theorem State.counting_phase (dt : Nat) (s : State) : (s.counting dt).phase = s.phase.count := rfl

theorem exec_forward_unsynced (dt : Nat) (io : CountInputs) {s : State} (unsynced : s.phase.synced = false) :
    exec (.forwardEncoderCount dt io) s = .next (s.counting dt) :=
  congrArg Host.Outcome.next (if_neg (by rw [State.elapse_phase, unsynced]; decide))

theorem exec_forward_wrap (dt : Nat) (io : CountInputs) {s : State} (synced : s.phase.synced = true) (wrap : 4095 ≤ s.phase.counter) :
    exec (.forwardEncoderCount dt io) s = .next (s.counting dt).cycleIndex :=
  congrArg Host.Outcome.next ((if_pos synced).trans (if_pos wrap))

theorem exec_forward_events (dt : Nat) (io : CountInputs) {s : State} (synced : s.phase.synced = true)
    (below : s.phase.counter < 4095) :
    exec (.forwardEncoderCount dt io) s = .next ((s.counting dt).eventsAt (s.phase.counter + 1) io) :=
  congrArg Host.Outcome.next ((if_pos synced).trans (if_neg (by rw [State.elapse_phase]; omega)))

theorem State.counting_eventValue (dt : Nat) (s : State) (e : PhaseEvent) : (s.counting dt).eventValue e = s.eventValue e := by
  cases e <;> rfl

/-- Settles O14: no event stands at the value, or the Phase unit takes none. -/
theorem forwardCountBetweenEvents : Obligations.ForwardCountBetweenEvents := by
  intro s dt io ⟨_, since, _⟩ quiet
  have counted : s.counting dt = { s with
      now := s.now + dt
      phase := { s.phase with
        counter := if s.phase.counter = 4095 then 0 else s.phase.counter + 1
        sinceIndex := if s.phase.sinceIndex = 65 then 65 else s.phase.sinceIndex + 1 } } := by
    have counter : (if 4095 ≤ s.phase.counter then 0 else s.phase.counter + 1) =
        if s.phase.counter = 4095 then 0 else s.phase.counter + 1 := if_congr (by omega) rfl rfl
    have index : min 65 (s.phase.sinceIndex + 1) = if s.phase.sinceIndex = 65 then 65 else s.phase.sinceIndex + 1 := by
      split <;> omega
    rw [← counter, ← index]
    rfl
  rw [← counted]
  by_cases synced : s.phase.synced = true
  · obtain ⟨below, none_there⟩ := quiet.resolve_left (by rw [synced]; decide)
    rw [exec_forward_events dt io synced below]
    refine congrArg Host.Outcome.next (State.eventsAt_none _ io _ fun e => ?_)
    rw [State.counting_eventValue]
    exact none_there e (mem_defaultOrder e)
  · exact exec_forward_unsynced dt io (Bool.eq_false_iff.mpr synced)

/-! ### Events that are still to be taken (R7, R116) -/

/-- No event is to be taken after that was not to be taken before, at the same value. -/
structure NoNewEvents (s t : State) : Prop where
  config : t.config = s.config
  starts : ∀ w ∈ s.phase.startTaken, w ∈ t.phase.startTaken
  ends : ∀ w ∈ s.phase.endTaken, w ∈ t.phase.endTaken
  spine : .spineGlue ∈ t.stations.engaged → .spineGlue ∈ s.stations.engaged ∧
    (∀ v, t.glue.spine.openAt = some v → s.glue.spine.openAt = some v) ∧
    (∀ v, t.glue.spine.closeAt = some v → s.glue.spine.closeAt = some v)
  side : .sideGlue ∈ t.stations.engaged → .sideGlue ∈ s.stations.engaged ∧
    (∀ v, t.glue.side.openAt = some v → s.glue.side.openAt = some v) ∧
    (∀ v, t.glue.side.closeAt = some v → s.glue.side.closeAt = some v)

theorem State.engagedValue {s : State} {w : Window} {v : Option Nat} {p : Nat} :
    (if s.isEngaged w then v else none) = some p ↔ w ∈ s.stations.engaged ∧ v = some p := by
  unfold State.isEngaged
  by_cases h : w ∈ s.stations.engaged <;> simp [h]

theorem NoNewEvents.eventValue {s t : State} (h : NoNewEvents s t) {f : PhaseEvent} {p : Nat} (value : t.eventValue f = some p) :
    s.eventValue f = some p := by
  cases f with
  | opens w =>
    simp only [State.eventValue, h.config] at value ⊢
    split at value
    · cases value
    · next notTaken => rwa [if_neg fun k => notTaken (h.starts w k)]
  | closes w =>
    simp only [State.eventValue, h.config] at value ⊢
    split at value
    · cases value
    · next notTaken => rwa [if_neg fun k => notTaken (h.ends w k)]
  | spineOpen =>
    obtain ⟨engaged, at_value⟩ := State.engagedValue.mp value
    obtain ⟨before, opens, -⟩ := h.spine engaged
    exact State.engagedValue.mpr ⟨before, opens _ at_value⟩
  | spineClose =>
    obtain ⟨engaged, at_value⟩ := State.engagedValue.mp value
    obtain ⟨before, -, closes⟩ := h.spine engaged
    exact State.engagedValue.mpr ⟨before, closes _ at_value⟩
  | sideOpen =>
    obtain ⟨engaged, at_value⟩ := State.engagedValue.mp value
    obtain ⟨before, opens, -⟩ := h.side engaged
    exact State.engagedValue.mpr ⟨before, opens _ at_value⟩
  | sideClose =>
    obtain ⟨engaged, at_value⟩ := State.engagedValue.mp value
    obtain ⟨before, -, closes⟩ := h.side engaged
    exact State.engagedValue.mpr ⟨before, closes _ at_value⟩

theorem NoNewEvents.trans {s t u : State} (h : NoNewEvents s t) (k : NoNewEvents t u) : NoNewEvents s u where
  config := k.config.trans h.config
  starts w hw := k.starts w (h.starts w hw)
  ends w hw := k.ends w (h.ends w hw)
  spine engaged := by
    obtain ⟨between, opens, closes⟩ := k.spine engaged
    obtain ⟨before, opens', closes'⟩ := h.spine between
    exact ⟨before, fun v hv => opens' v (opens v hv), fun v hv => closes' v (closes v hv)⟩
  side engaged := by
    obtain ⟨between, opens, closes⟩ := k.side engaged
    obtain ⟨before, opens', closes'⟩ := h.side between
    exact ⟨before, fun v hv => opens' v (opens v hv), fun v hv => closes' v (closes v hv)⟩

theorem NoNewEvents.of_glue {s t : State} (config : t.config = s.config) (phase : t.phase = s.phase)
    (engaged : ∀ w ∈ t.stations.engaged, w ∈ s.stations.engaged) (glue : t.glue = s.glue) : NoNewEvents s t := by
  refine ⟨config, fun w hw => by rwa [phase], fun w hw => by rwa [phase], fun h => ⟨engaged _ h, ?_, ?_⟩,
    fun h => ⟨engaged _ h, ?_, ?_⟩⟩ <;> rw [glue] <;> exact fun _ h => h

theorem NoNewEvents.of_same {ps : List Part} {s t : State} (same : SameBut ps s t)
    (apart : ∀ p ∈ [Part.config, .phase, .stations, .glue], p ∉ ps) : NoNewEvents s t := by
  have stations : t.stations = s.stations := same .stations (apart _ (by decide))
  exact .of_glue (same .config (apart _ (by decide))) (same .phase (apart _ (by decide))) (by rw [stations]; exact fun _ h => h)
    (same .glue (apart _ (by decide)))

theorem NoNewEvents.refl (s : State) : NoNewEvents s s := .of_same (SameBut.refl [] s) (by decide)

theorem NoNewEvents.ite {c : Prop} [Decidable c] {s t u : State} (ht : NoNewEvents s t) (hu : NoNewEvents s u) :
    NoNewEvents s (if c then t else u) := by
  split <;> assumption

/-- A change to a mode that does not act engages nothing and sets no valve. -/
theorem NoNewEvents.changeMode {m : LineMode} (rests : m.acting = false) (s : State) : NoNewEvents s (s.changeMode m) := by
  obtain ⟨-, -, -, -, phase, stays, -⟩ := s.changeMode_modeFrame m
  obtain ⟨-, -, -, -, -, -, -, -, engaged, -⟩ := s.changeMode_entered m
  by_cases acting : s.line.mode.acting = true
  · have none_engaged := engaged rests acting
    refine ⟨by simp, fun w hw => ?_, fun w hw => ?_, fun h => ?_, fun h => ?_⟩
    · rwa [phase (.inl rests)]
    · rwa [phase (.inl rests)]
    · rw [none_engaged] at h; cases h
    · rw [none_engaged] at h; cases h
  · obtain ⟨stations, -, -, -, glue⟩ := stays (.inr (Bool.eq_false_iff.mpr acting))
    exact .of_glue (by simp) (phase (.inl rests)) (by rw [stations]; exact fun _ h => h) glue

theorem NoNewEvents.emptyingCheck (s : State) : NoNewEvents s s.emptyingCheck := .ite (.changeMode rfl s) (.refl s)

theorem NoNewEvents.raiseCause (c : Cause) (s : State) : NoNewEvents s (s.raiseCause c) := by
  rw [State.raiseCause_eq]
  have set : NoNewEvents s (s.causeSet c) := .of_same (s.causeSet_effect c).1 (by decide)
  have timed : NoNewEvents (s.causeSet c) ((s.causeSet c).updLine fun l => { l with haltStart := some (s.causeSet c).now }) :=
    .of_glue rfl rfl (fun _ h => h) rfl
  exact .ite (set.trans (timed.trans (.changeMode rfl _))) set

/-! ### Which events one event leaves (R7, R12, R115, R116) -/

theorem NoNewEvents.valves {s t : State} (config : t.config = s.config) (phase : t.phase = s.phase)
    (stations : t.stations.engaged = s.stations.engaged)
    (spine : (∀ v, t.glue.spine.openAt = some v → s.glue.spine.openAt = some v) ∧
      (∀ v, t.glue.spine.closeAt = some v → s.glue.spine.closeAt = some v))
    (side : (∀ v, t.glue.side.openAt = some v → s.glue.side.openAt = some v) ∧
      (∀ v, t.glue.side.closeAt = some v → s.glue.side.closeAt = some v)) : NoNewEvents s t :=
  ⟨config, fun w hw => by rwa [phase], fun w hw => by rwa [phase], fun h => ⟨stations ▸ h, spine⟩, fun h => ⟨stations ▸ h, side⟩⟩

theorem State.spineEnd_glue (s : State) : s.spineEnd.glue = { s.glue with spine := Valve.atRest } := by
  have closed : (if s.glue.spine.closeAt.isSome then s.spineCloses else s).glue.side = s.glue.side := by
    split <;> simp [State.spineCloses]
  unfold State.spineEnd
  dsimp only
  simp only [State.updGlue_glue]
  split <;> split <;> simp [closed]

theorem NoNewEvents.endWork (w : Window) (io : CountInputs) (s : State) : NoNewEvents s (s.endWork w io) := by
  have same : ∀ t : State, t.config = s.config → t.phase = s.phase → t.stations = s.stations → t.glue = s.glue → NoNewEvents s t :=
    fun t config phase stations glue => .of_glue config phase (by rw [stations]; exact fun _ h => h) glue
  cases w
  case spineGlue =>
    have glue : (s.endWork .spineGlue io).glue = { s.glue with spine := Valve.atRest } := s.spineEnd_glue
    refine .valves (by simp) (by simp) (by simp) ⟨fun v hv => ?_, fun v hv => ?_⟩ ⟨fun v hv => ?_, fun v hv => ?_⟩ <;>
      rw [glue] at hv
    · cases hv
    · cases hv
    · exact hv
    · exact hv
  case sideGlue =>
    refine .valves rfl rfl rfl ⟨fun v hv => hv, fun v hv => hv⟩ ⟨fun v hv => ?_, fun v hv => ?_⟩ <;> cases hv
  all_goals exact same _ (by simp) (by simp) (by simp) (by simp [State.endWork])

/-- A window end counted as taken. -/
def State.ending (w : Window) (s : State) : State := s.updPhase fun p => { p with endTaken := w :: p.endTaken }

/-- A window start counted as taken. -/
def State.starting (w : Window) (s : State) : State := s.updPhase fun p => { p with startTaken := w :: p.startTaken }

theorem NoNewEvents.ending (w : Window) (s : State) : NoNewEvents s (s.ending w) :=
  ⟨rfl, fun _ h => h, fun _ h => List.mem_cons_of_mem _ h, fun h => ⟨h, fun _ k => k, fun _ k => k⟩,
    fun h => ⟨h, fun _ k => k, fun _ k => k⟩⟩

theorem NoNewEvents.starting (w : Window) (s : State) : NoNewEvents s (s.starting w) :=
  ⟨rfl, fun _ h => List.mem_cons_of_mem _ h, fun _ h => h, fun h => ⟨h, fun _ k => k, fun _ k => k⟩,
    fun h => ⟨h, fun _ k => k, fun _ k => k⟩⟩

theorem State.windowEnd_eq (w : Window) (io : CountInputs) (s : State) :
    s.windowEnd w io =
      let u := (if s.isEngaged w then ((s.ending w).endWork w io).updStations (Stations.drop w)
        else (s.ending w).unservedEnd w).changeover w
      if w = .deliver then u.emptyingCheck else u := rfl

theorem NoNewEvents.windowEnd (w : Window) (io : CountInputs) (s : State) : NoNewEvents (s.ending w) (s.windowEnd w io) := by
  have served : NoNewEvents (s.ending w) (((s.ending w).endWork w io).updStations (Stations.drop w)) :=
    (NoNewEvents.endWork w io _).trans (.of_glue rfl rfl (fun v hv => List.mem_of_mem_filter hv) rfl)
  have unserved : NoNewEvents (s.ending w) ((s.ending w).unservedEnd w) :=
    .of_glue (by simp) (by simp) (by simp) (by simp)
  have after : ∀ u : State, NoNewEvents (s.ending w) u → NoNewEvents (s.ending w) (u.changeover w) := fun u hu =>
    hu.trans (.of_glue (by simp) (by simp) (by simp) (by simp))
  rw [State.windowEnd_eq]
  dsimp only
  refine .ite ((after _ ?_).trans (.emptyingCheck _)) (after _ ?_) <;> exact .ite served unserved

/-- A station engaged, its use points met and the launch demand made (R7, R12, R23, R53). -/
def State.opened (w : Window) (s : State) : State :=
  let s1 := if s.line.mode.acting then (s.starting w).updStations fun x => { x with engaged := w :: x.engaged } else s.starting w
  let s2 := if w = .pocket then s1.usePoints else s1
  if w = .launch then s2.launchDemand else s2

theorem State.windowStart_eq (w : Window) (io : CountInputs) (s : State) :
    s.windowStart w io = if s.line.mode.acting then (s.opened w).startWork w io else s.opened w := rfl

theorem State.opened_frame (w : Window) (s : State) :
    (s.opened w).phase = (s.starting w).phase ∧ (s.opened w).config = s.config ∧ (s.opened w).glue = s.glue ∧
      (s.opened w).stations = (if s.line.mode.acting then { s.stations with engaged := w :: s.stations.engaged } else s.stations) := by
  unfold State.opened
  dsimp only
  split <;> split <;> split <;> simp [State.starting]

theorem NoNewEvents.opened {w : Window} (spine : w ≠ .spineGlue) (side : w ≠ .sideGlue) (s : State) :
    NoNewEvents (s.starting w) (s.opened w) := by
  obtain ⟨phase, config, glue, stations⟩ := s.opened_frame w
  have engaged : ∀ v, v ≠ w → v ∈ (s.opened w).stations.engaged → v ∈ s.stations.engaged := fun v hv => by
    rw [stations]
    split
    · exact fun h => (List.mem_cons.mp h).resolve_left hv
    · exact fun h => h
  refine ⟨config, fun v hv => by rwa [phase], fun v hv => by rwa [phase], fun h => ⟨engaged _ spine.symm h, ?_, ?_⟩,
    fun h => ⟨engaged _ side.symm h, ?_, ?_⟩⟩ <;> rw [glue] <;> exact fun _ h => h

theorem NoNewEvents.coverStart (code : Option Word) (s : State) : NoNewEvents s (s.coverStart code) := by
  have serve : NoNewEvents s (s.serve .cover) := .of_glue rfl rfl (fun _ h => h) rfl
  have clamp : ∀ (u : State) (x : Slot), NoNewEvents u (u.setClamp 9 x) := fun u x => .of_glue rfl rfl (fun _ h => h) rfl
  have fed : ∀ (u : State) (l : LaunchFormat) (scored : Bool) (b : Book), NoNewEvents u (u.feedCover l code scored b) :=
    fun u l scored b => by
    unfold State.feedCover
    dsimp only
    have drawn : ∀ x k, NoNewEvents u ((u.setClamp 9 x).updCover k) := fun x k => .of_glue rfl rfl (fun _ h => h) rfl
    exact .ite ((drawn _ _).trans (.raiseCause _ _)) (drawn _ _)
  unfold State.coverStart
  split
  · split
    · refine .ite ?_ (.refl s)
      dsimp only
      refine .ite serve (serve.trans ?_)
      unfold State.coverChecks
      exact .ite (clamp _ _) (.ite (clamp _ _) (fed _ _ _ _))
    · exact .refl s
  · exact .refl s

/-- Outside COVER a window's work engages nothing. -/
theorem State.startWork_engaged {w : Window} (h : w ≠ .cover) (io : CountInputs) (s : State) :
    (s.startWork w io).stations.engaged = s.stations.engaged := by
  cases w
  case cover => exact absurd rfl h
  case launch | pocket | load | deliver => rfl
  case gauge =>
    change s.gaugeStart.stations.engaged = _
    unfold State.gaugeStart
    split
    · split <;> rfl
    · rfl
  case mill =>
    change s.millStart.stations.engaged = _
    unfold State.millStart
    split
    · dsimp only
      split <;> rfl
    · rfl
  case spineGlue =>
    change s.spineStart.stations.engaged = _
    unfold State.spineStart
    dsimp only
    split
    · split <;> rfl
    · rfl
  case sideGlue =>
    change s.sideStart.stations.engaged = _
    unfold State.sideStart
    dsimp only
    split <;> rfl
  case nip =>
    change s.nipStart.stations.engaged = _
    unfold State.nipStart
    split
    · split <;> rfl
    · rfl

theorem NoNewEvents.startWork {w : Window} (spine : w ≠ .spineGlue) (side : w ≠ .sideGlue) (io : CountInputs) (s : State) :
    NoNewEvents s (s.startWork w io) := by
  by_cases cover : w = .cover
  · subst cover
    exact .coverStart io.cover s
  · refine .of_glue (by simp) ?_ (by rw [State.startWork_engaged cover]; exact fun _ h => h) ?_
    · cases w <;> simp [State.startWork] at cover ⊢
    · cases w <;> simp [State.startWork] at spine side cover ⊢

/-! ### Valves at their window's start (R115, R116) -/

theorem Valve.atStart_late (w : Span) (comp opens closes v : Nat) :
    ((Valve.atStart w comp opens closes).openAt = some v → w.first < v) ∧
      ((Valve.atStart w comp opens closes).closeAt = some v → w.first < v) := by
  unfold Valve.atStart
  dsimp only
  by_cases empty : closes ≤ opens ∨ closes - comp ≤ max w.first (opens - comp)
  · have none_there : effectivePhases w comp opens closes = none := if_pos empty
    rw [none_there]
    simp [Valve.arm]
  · have phases : effectivePhases w comp opens closes = some (max w.first (opens - comp), closes - comp) := if_neg empty
    have late := not_or.mp empty
    rw [phases]
    by_cases at_start : max w.first (opens - comp) = w.first
    · simp only [Valve.arm, at_start, if_true, Valve.openNow]
      refine ⟨fun h => (by cases h), fun h => ?_⟩
      cases h
      omega
    · rw [if_neg (by simpa [Valve.arm] using at_start)]
      simp only [Valve.arm, Option.some.injEq]
      omega

/-- A glue station's start: its valve's phases come after the start, the other valve is as before. -/
theorem State.spineStart_glue (s : State) :
    s.spineStart.glue.side = s.glue.side ∧
      (∀ v, s.spineStart.glue.spine.openAt = some v ∨ s.spineStart.glue.spine.closeAt = some v →
        s.config.settings.wSpineGlue.first < v) := by
  unfold State.spineStart
  dsimp only
  split
  · split
    · refine ⟨rfl, fun v hv => hv.elim (fun h => (Valve.atStart_late _ _ _ _ v).1 h) fun h => (Valve.atStart_late _ _ _ _ v).2 h⟩
    · exact ⟨rfl, fun v hv => hv.elim (fun h => (by cases h)) fun h => (by cases h)⟩
  · exact ⟨rfl, fun v hv => hv.elim (fun h => (by cases h)) fun h => (by cases h)⟩

theorem State.sideStart_glue (s : State) :
    s.sideStart.glue.spine = s.glue.spine ∧
      (∀ v, s.sideStart.glue.side.openAt = some v ∨ s.sideStart.glue.side.closeAt = some v →
        s.config.settings.wSideGlue.first < v) := by
  unfold State.sideStart
  dsimp only
  split
  · exact ⟨rfl, fun v hv => hv.elim (fun h => (Valve.atStart_late _ _ _ _ v).1 h) fun h => (Valve.atStart_late _ _ _ _ v).2 h⟩
  · exact ⟨rfl, fun v hv => hv.elim (fun h => (by cases h)) fun h => (by cases h)⟩

/-! ### The one event of a value -/

/-- The stations' windows begin at the values of the configuration. -/
theorem State.eventValue_opens {s : State} {w : Window} {p : Nat} (h : s.eventValue (.opens w) = some p) :
    (s.config.settings.window w).first = p := by
  simp only [State.eventValue] at h
  split at h
  · cases h
  · exact Option.some.inj h

theorem State.starting_value {s : State} {w : Window} {f : PhaseEvent} {p : Nat} (h : (s.starting w).eventValue f = some p) :
    f ≠ .opens w ∧ s.eventValue f = some p := by
  refine ⟨fun same => ?_, (NoNewEvents.starting w s).eventValue h⟩
  subst same
  simp [State.eventValue, State.starting] at h

theorem State.ending_value {s : State} {w : Window} {f : PhaseEvent} {p : Nat} (h : (s.ending w).eventValue f = some p) :
    f ≠ .closes w ∧ s.eventValue f = some p := by
  refine ⟨fun same => ?_, (NoNewEvents.ending w s).eventValue h⟩
  subst same
  simp [State.eventValue, State.ending] at h

/-- In a mode that does not act a window start engages nothing. -/
theorem NoNewEvents.opened_rest {s : State} (rest : s.line.mode.acting = false) (w : Window) :
    NoNewEvents (s.starting w) (s.opened w) := by
  obtain ⟨phase, config, glue, stations⟩ := s.opened_frame w
  rw [rest] at stations
  exact .of_glue config phase (by rw [stations]; exact fun _ h => h) glue

/-- Window events do not look at stations and valves. -/
theorem State.windows_value {s t : State} (config : t.config = s.config) (phase : t.phase = s.phase) (w : Window) :
    t.eventValue (.opens w) = s.eventValue (.opens w) ∧ t.eventValue (.closes w) = s.eventValue (.closes w) := by
  constructor <;> simp only [State.eventValue, config, phase]

theorem State.valve_value {s t : State} {w v : Window} {x y : Option Nat} {p : Nat} (other : v ≠ w)
    (engaged : t.stations.engaged = w :: s.stations.engaged) (same : y = x)
    (value : (if t.isEngaged v then y else none) = some p) : (if s.isEngaged v then x else none) = some p := by
  obtain ⟨there, at_value⟩ := State.engagedValue.mp value
  rw [engaged] at there
  exact State.engagedValue.mpr ⟨(List.mem_cons.mp there).resolve_left other, same ▸ at_value⟩

/-- A window start leaves no event at its value that was not there. -/
theorem State.windowStart_value {s : State} {w : Window} {io : CountInputs} {f : PhaseEvent} {p : Nat}
    (start : s.eventValue (.opens w) = some p) (after : (s.windowStart w io).eventValue f = some p) :
    f ≠ .opens w ∧ s.eventValue f = some p := by
  have first := State.eventValue_opens start
  obtain ⟨phase, config, glue, stations⟩ := s.opened_frame w
  rw [State.windowStart_eq] at after
  by_cases acting : s.line.mode.acting = true
  · rw [if_pos acting] at after stations
    by_cases spine : w = .spineGlue
    · subst spine
      obtain ⟨side, late⟩ := (s.opened .spineGlue).spineStart_glue
      rw [config] at late
      have engaged := (State.startWork_engaged (w := .spineGlue) (by decide) io (s.opened .spineGlue)).trans
        (congrArg Stations.engaged stations)
      have windows := State.windows_value (s := s.starting .spineGlue) (t := (s.opened .spineGlue).startWork .spineGlue io)
        ((show _ = (s.opened _).config by simp).trans config) ((show _ = (s.opened .spineGlue).phase by simp [State.startWork]).trans phase)
      cases f with
      | opens v => exact State.starting_value ((windows v).1 ▸ after)
      | closes v => exact State.starting_value ((windows v).2 ▸ after)
      | spineOpen => exact absurd (late p (.inl (State.engagedValue.mp after).2)) (first ▸ lt_irrefl _)
      | spineClose => exact absurd (late p (.inr (State.engagedValue.mp after).2)) (first ▸ lt_irrefl _)
      | sideOpen =>
        exact ⟨by simp, State.valve_value (by decide) engaged (congrArg Valve.openAt (side.trans (by rw [glue]))) after⟩
      | sideClose =>
        exact ⟨by simp, State.valve_value (by decide) engaged (congrArg Valve.closeAt (side.trans (by rw [glue]))) after⟩
    · by_cases side : w = .sideGlue
      · subst side
        obtain ⟨spine, late⟩ := (s.opened .sideGlue).sideStart_glue
        rw [config] at late
        have engaged := (State.startWork_engaged (w := .sideGlue) (by decide) io (s.opened .sideGlue)).trans
          (congrArg Stations.engaged stations)
        have windows := State.windows_value (s := s.starting .sideGlue) (t := (s.opened .sideGlue).startWork .sideGlue io)
          ((show _ = (s.opened _).config by simp).trans config) ((show _ = (s.opened .sideGlue).phase by simp [State.startWork]).trans phase)
        cases f with
        | opens v => exact State.starting_value ((windows v).1 ▸ after)
        | closes v => exact State.starting_value ((windows v).2 ▸ after)
        | sideOpen => exact absurd (late p (.inl (State.engagedValue.mp after).2)) (first ▸ lt_irrefl _)
        | sideClose => exact absurd (late p (.inr (State.engagedValue.mp after).2)) (first ▸ lt_irrefl _)
        | spineOpen =>
          exact ⟨by simp, State.valve_value (by decide) engaged (congrArg Valve.openAt (spine.trans (by rw [glue]))) after⟩
        | spineClose =>
          exact ⟨by simp, State.valve_value (by decide) engaged (congrArg Valve.closeAt (spine.trans (by rw [glue]))) after⟩
      · exact State.starting_value (((NoNewEvents.opened spine side s).trans (.startWork spine side io _)).eventValue after)
  · rw [if_neg acting] at after
    exact State.starting_value ((NoNewEvents.opened_rest (Bool.eq_false_iff.mpr acting) w).eventValue after)

/-- An event taken is not to be taken again, and no other comes to its value. -/
theorem State.takeEvent_value {s : State} {e f : PhaseEvent} {io : CountInputs} {p : Nat} (value : s.eventValue e = some p)
    (after : (s.takeEvent io e).eventValue f = some p) : f ≠ e ∧ s.eventValue f = some p := by
  cases e with
  | opens w => exact State.windowStart_value value after
  | closes w => exact State.ending_value ((NoNewEvents.windowEnd w io s).eventValue after)
  | spineOpen =>
    have kept : NoNewEvents s s.spineOpens := .valves rfl rfl rfl ⟨fun v hv => (by cases hv), fun v hv => hv⟩ ⟨fun v hv => hv, fun v hv => hv⟩
    refine ⟨fun same => ?_, kept.eventValue after⟩
    subst same
    exact absurd (State.engagedValue.mp after).2 (by simp [State.takeEvent, State.spineOpens, Valve.openNow])
  | spineClose =>
    have kept : NoNewEvents s s.spineCloses := .valves rfl rfl rfl ⟨fun v hv => hv, fun v hv => (by cases hv)⟩ ⟨fun v hv => hv, fun v hv => hv⟩
    refine ⟨fun same => ?_, kept.eventValue after⟩
    subst same
    exact absurd (State.engagedValue.mp after).2 (by simp [State.takeEvent, State.spineCloses, Valve.closeNow])
  | sideOpen =>
    have kept : NoNewEvents s s.sideOpens := .valves rfl rfl rfl ⟨fun v hv => hv, fun v hv => hv⟩ ⟨fun v hv => (by cases hv), fun v hv => hv⟩
    refine ⟨fun same => ?_, kept.eventValue after⟩
    subst same
    exact absurd (State.engagedValue.mp after).2 (by simp [State.takeEvent, State.sideOpens, Valve.openNow])
  | sideClose =>
    have kept : NoNewEvents s s.sideCloses := .valves rfl rfl rfl ⟨fun v hv => hv, fun v hv => hv⟩ ⟨fun v hv => hv, fun v hv => (by cases hv)⟩
    refine ⟨fun same => ?_, kept.eventValue after⟩
    subst same
    exact absurd (State.engagedValue.mp after).2 (by simp [State.takeEvent, State.sideCloses, Valve.closeNow])

/-- A forward count whose value has one event takes that event and no other. -/
theorem exec_forward_only {e : PhaseEvent} {s : State} (only : OnlyEvent e s) (dt : Nat) (io : CountInputs) :
    exec (.forwardEncoderCount dt io) s = .next ((s.counting dt).takeEvent io e) := by
  obtain ⟨synced, below, value, others⟩ := only
  rw [exec_forward_events dt io synced below]
  have single : ∀ f, f ≠ e → s.eventValue f ≠ some (s.phase.counter + 1) := fun f hf => others f (mem_defaultOrder f) hf
  refine congrArg Host.Outcome.next (State.eventsAt_single _ io _ e ?_ (fun f hf => ?_) fun f after => ?_)
  · rw [State.counting_eventValue]; exact value
  · rw [State.counting_eventValue]; exact single f hf
  · obtain ⟨other, there⟩ := State.takeEvent_value (by rw [State.counting_eventValue]; exact value) after
    rw [State.counting_eventValue] at there
    exact single f other there

/-! ### The Phase unit under the events (R1, R2) -/

theorem State.changeMode_phase {m : LineMode} (rests : m.acting = false) (s : State) : (s.changeMode m).phase = s.phase := by
  obtain ⟨-, -, -, -, phase, -⟩ := s.changeMode_modeFrame m
  exact phase (.inl rests)

theorem State.emptyingCheck_phase (s : State) : s.emptyingCheck.phase = s.phase := by
  unfold State.emptyingCheck
  split
  · exact State.changeMode_phase rfl s
  · rfl

theorem State.levelOne_phase (s : State) : s.levelOne.phase = s.phase := by
  unfold State.levelOne
  split
  · exact State.changeMode_phase rfl s
  · rfl

theorem State.raiseCause_phase (c : Cause) (s : State) : (s.raiseCause c).phase = s.phase :=
  (s.raiseCause_whole c).same .phase (by decide)

theorem State.coverStart_phase (code : Option Word) (s : State) : (s.coverStart code).phase = s.phase := by
  have fed : ∀ (u : State) (l : LaunchFormat) (scored : Bool) (b : Book), (u.feedCover l code scored b).phase = u.phase :=
    fun u l scored b => by
    unfold State.feedCover
    dsimp only
    split
    · exact State.raiseCause_phase _ _
    · rfl
  unfold State.coverStart
  split
  · split
    · split
      · dsimp only
        split
        · rfl
        · unfold State.coverChecks
          dsimp only
          split
          · rfl
          · split
            · rfl
            · exact fed _ _ _ _
      · rfl
    · rfl
  · rfl

theorem State.startWork_phase (w : Window) (io : CountInputs) (s : State) : (s.startWork w io).phase = s.phase := by
  by_cases cover : w = .cover
  · subst cover
    exact State.coverStart_phase io.cover s
  · cases w <;> simp [State.startWork] at cover ⊢

theorem State.windowStart_phase (w : Window) (io : CountInputs) (s : State) : (s.windowStart w io).phase = (s.starting w).phase := by
  obtain ⟨phase, -⟩ := s.opened_frame w
  rw [State.windowStart_eq]
  split
  · exact (State.startWork_phase _ _ _).trans phase
  · exact phase

theorem State.windowEnd_phase (w : Window) (io : CountInputs) (s : State) : (s.windowEnd w io).phase = (s.ending w).phase := by
  rw [State.windowEnd_eq]
  dsimp only
  have changed : ((if s.isEngaged w then ((s.ending w).endWork w io).updStations (Stations.drop w)
      else (s.ending w).unservedEnd w).changeover w).phase = (s.ending w).phase := by
    rw [show ∀ u : State, (u.changeover w).phase = u.phase from fun u => by simp]
    split <;> simp
  split
  · exact (State.emptyingCheck_phase _).trans changed
  · exact changed

/-- Events leave the counter and the count since index. -/
theorem State.takeEvent_phase (io : CountInputs) (e : PhaseEvent) (s : State) :
    (s.takeEvent io e).phase =
      { s.phase with
        startTaken := (s.takeEvent io e).phase.startTaken, endTaken := (s.takeEvent io e).phase.endTaken } := by
  cases e with
  | opens w =>
    have phase : (s.takeEvent io (.opens w)).phase = (s.starting w).phase := State.windowStart_phase w io s
    rw [phase]
    rfl
  | closes w =>
    have phase : (s.takeEvent io (.closes w)).phase = (s.ending w).phase := State.windowEnd_phase w io s
    rw [phase]
    rfl
  | spineOpen | spineClose | sideOpen | sideClose => rfl

theorem State.eventAt_phase (p : Nat) (io : CountInputs) (e : PhaseEvent) (s : State) :
    (s.eventAt p io e).phase =
      { s.phase with
        startTaken := (s.eventAt p io e).phase.startTaken, endTaken := (s.eventAt p io e).phase.endTaken } := by
  unfold State.eventAt
  split
  · exact s.takeEvent_phase io e
  · rfl

theorem State.eventList_phase (p : Nat) (io : CountInputs) (l : List PhaseEvent) (s : State) :
    (l.foldl (fun s e => s.eventAt p io e) s).phase =
      { s.phase with
        startTaken := (l.foldl (fun s e => s.eventAt p io e) s).phase.startTaken
        endTaken := (l.foldl (fun s e => s.eventAt p io e) s).phase.endTaken } := by
  induction l generalizing s with
  | nil => rfl
  | cons e l ih =>
    rw [List.foldl_cons, ih, s.eventAt_phase p io e]

/-- The Phase unit after a cycle index event (R2, R7, R10, R11). -/
theorem State.cycleIndex_phase (s : State) :
    s.cycleIndex.phase =
      { s.phase.atIndex s.now with comp := compFor s.config.settings.valveLead (s.phase.atIndex s.now).lastCycle } := by
  unfold State.cycleIndex
  dsimp only
  rw [show ∀ u : State, u.snapshot.phase = u.phase from fun u => by simp, State.levelOne_phase, State.emptyingCheck_phase]
  simp [State.recomputeComp]

/-- Settles O13: the two counts at a count, at an index event and after a reset. -/
theorem encoderCounts : Obligations.EncoderCounts := by
  refine ⟨fun s dt io range => ?_, fun _ _ => rfl, fun s => ?_, fun s dt levels => ⟨_, rfl, rfl, rfl, rfl⟩,
    fun s dt => ⟨_, rfl, rfl, rfl, rfl⟩⟩
  · have since : min 65 (s.phase.sinceIndex + 1) = if s.phase.sinceIndex < 65 then s.phase.sinceIndex + 1 else 65 := by
      split <;> omega
    by_cases wrap : s.phase.counter = 4095
    · by_cases synced : s.phase.synced = true
      · refine ⟨_, exec_forward_wrap dt io synced (by omega), ?_⟩
        rw [State.cycleIndex_phase, if_pos wrap, if_pos ⟨synced, wrap⟩]
        have counter : (s.counting dt).phase.counter = 0 := if_pos (by rw [State.elapse_phase]; omega)
        exact ⟨counter, counter ▸ Nat.zero_le _, rfl⟩
      · refine ⟨_, exec_forward_unsynced dt io (Bool.eq_false_iff.mpr synced), ?_⟩
        have counter : (s.counting dt).phase.counter = 0 := if_pos (by rw [State.elapse_phase]; omega)
        rw [counter, if_pos wrap, if_neg fun k => synced k.1]
        exact ⟨rfl, by omega, since⟩
    · have counter : (s.counting dt).phase.counter = s.phase.counter + 1 := if_neg (by rw [State.elapse_phase]; omega)
      have sinceIndex : (s.counting dt).phase.sinceIndex = min 65 (s.phase.sinceIndex + 1) := rfl
      rw [if_neg wrap, if_neg fun k => wrap k.2, ← since]
      by_cases synced : s.phase.synced = true
      · refine ⟨_, exec_forward_events dt io synced (by omega), ?_⟩
        rw [State.eventsAt, State.eventList_phase]
        exact ⟨counter, by dsimp only; omega, sinceIndex⟩
      · refine ⟨_, exec_forward_unsynced dt io (Bool.eq_false_iff.mpr synced), ?_⟩
        exact ⟨counter, by omega, sinceIndex⟩
  · rw [State.cycleIndex_phase]
    rfl

end Sys2Proof.Machine
end

section
/-!
Window ends at a station that is not engaged, in any line mode (R1, R7, R9, R12, R13, R15, R16, R51, R83, R160).
-/

namespace Sys2Proof.Machine

/-! ### Books at cells and clamps -/

theorem Book.inched_eq (point : DetectionPoint) (b : Book) : b.inched point = b.markInched point := b.spoilWith_spoil _ _ _ _

theorem Slot.mapBook_inched (point : DetectionPoint) (x : Slot) : x.mapBook (Book.inched point) = x.markInched point := by
  cases x with
  | holding b => exact congrArg Slot.holding (b.inched_eq point)
  | empty => rfl
  | unknown => rfl

theorem State.modClamp_effect (p : Fin 24) (f : Book → Book) (s : State) :
    (s.modClamp p f).clampAt p = (s.clampAt p).mapBook f ∧
      (∀ q, q ≠ p → (s.modClamp p f).clampAt q = s.clampAt q) ∧
      (∀ q : Fin 24, (s.modClamp p f).carousel.places[q].number = s.carousel.places[q].number) ∧
      (s.modClamp p f).carousel = { s.carousel with places := (s.modClamp p f).carousel.places } ∧
      SameBut [.carousel] s (s.modClamp p f) ∧ (s.modClamp p f).mem = s.mem := s.setClamp_effect p _

theorem State.setCell_effect (p : Fin 18) (x : Slot) (s : State) :
    (s.setCell p x).cell p = x ∧ (∀ q, q ≠ p → (s.setCell p x).cell q = s.cell q) ∧
      (s.setCell p x).gathering.pockets = s.gathering.pockets ∧ SameBut [.gathering] s (s.setCell p x) ∧
      (s.setCell p x).mem = s.mem :=
  ⟨by rw [State.cell_setCell, if_pos rfl], fun q hq => by rw [State.cell_setCell, if_neg hq], rfl,
    fun r hr => (by cases r <;> simp [Part.same] at hr ⊢), rfl⟩

/-- Books at several cells changed, each once. -/
theorem State.foldl_modCell {f : Fin 18 → Book → Book} {l : List (Fin 18)} (once : l.Nodup) (s : State) {t : State}
    (ht : t = l.foldl (fun s p => s.modCell p (f p)) s) :
    (∀ p, t.cell p = if p ∈ l then (s.cell p).mapBook (f p) else s.cell p) ∧ t.gathering.pockets = s.gathering.pockets ∧
      SameBut [.gathering] s t ∧ t.mem = s.mem := by
  subst ht
  induction l generalizing s with
  | nil => exact ⟨fun p => by simp, rfl, SameBut.refl _ s, rfl⟩
  | cons q l ih =>
    obtain ⟨apart, rest⟩ := List.nodup_cons.mp once
    obtain ⟨cells, pockets, same, mem⟩ := ih rest (s.modCell q (f q))
    obtain ⟨own, others, pockets', same', mem'⟩ := s.setCell_effect q ((s.cell q).mapBook (f q))
    refine ⟨fun p => ?_, pockets.trans pockets', (same'.trans same).mono (by decide), mem.trans mem'⟩
    rw [List.foldl_cons, cells]
    by_cases here : p = q
    · subst here
      rw [if_neg apart, if_pos List.mem_cons_self]
      exact own
    · have kept : (s.modCell q (f q)).cell p = s.cell p := others p here
      rw [kept]
      simp only [List.mem_cons, here, false_or]

theorem mem_pocketPositions (p : Fin 18) : p ∈ pocketPositions ↔ ¬ (p = 0 ∨ p = 17) := by
  revert p
  decide

theorem pocketPositions_nodup : pocketPositions.Nodup := by decide

/-- The clamp at position 17 opens (R81). -/
theorem State.openClamp_effect (gate : Gate1) (s : State) :
    (s.openClamp gate).clampAt 17 = .empty ∧ (∀ q, q ≠ 17 → (s.openClamp gate).clampAt q = s.clampAt q) ∧
      (s.openClamp gate).carousel.gate1 = .toReject ∧ (s.openClamp gate).carousel.lastDrop = some gate ∧
      SameBut [.carousel] s (s.openClamp gate) ∧ (s.openClamp gate).mem = s.mem := by
  obtain ⟨own, others, -, -, same, mem⟩ := s.setClamp_effect 17 .empty
  refine ⟨own, others, rfl, rfl, ?_, mem⟩
  exact (same.trans ((s.setClamp 17 .empty).updCarousel_effect _).1).mono (by decide)

/-- The lock of a clamp's book is released (R51). -/
theorem State.releaseClamp_effect (p : Fin 24) (s : State) :
    (s.releaseClamp p).clampAt p = (s.clampAt p).mapBook (fun b => { b with entry := none }) ∧
      (∀ q, q ≠ p → (s.releaseClamp p).clampAt q = s.clampAt q) ∧
      ((∀ b, s.clampAt p = .holding b → b.entry = none) → (s.releaseClamp p).cache = s.cache) ∧
      (∀ b e, s.clampAt p = .holding b → b.entry = some e → LockReleased e s (s.releaseClamp p)) ∧
      SameBut [.cache, .carousel] s (s.releaseClamp p) ∧ BytesBut [Header.occupancy] s (s.releaseClamp p) := by
  unfold State.releaseClamp
  cases held : s.clampAt p with
  | empty =>
    exact ⟨held, fun _ _ => rfl, fun _ => rfl, fun b e h => (by cases h), SameBut.refl _ s, BytesBut.refl _ s⟩
  | unknown =>
    exact ⟨held, fun _ _ => rfl, fun _ => rfl, fun b e h => (by cases h), SameBut.refl _ s, BytesBut.refl _ s⟩
  | holding b =>
    dsimp only
    obtain ⟨own, others, -, -, same, mem⟩ := s.modClamp_effect p fun b => { b with entry := none }
    obtain ⟨unlocked, released, freed, bytes⟩ := (s.modClamp p fun b => { b with entry := none }).freeLock_effect b
    have carousel := freed .carousel (by decide)
    have cache : (s.modClamp p fun b => { b with entry := none }).cache = s.cache := same .cache (by decide)
    refine ⟨?_, fun q hq => ?_, fun none_held => ?_, fun c e hc he => ?_, (same.trans freed).mono (by decide), ?_⟩
    · rw [← held, ← own, State.clampAt, carousel]
      rfl
    · rw [← others q hq, State.clampAt, carousel]
      rfl
    · exact (unlocked (none_held b rfl)).trans cache
    · cases hc
      exact (released e he).congr cache.symm rfl
    · exact ((BytesBut.of_mem (w := []) mem).trans bytes).mono fun _ h => h

/-- What words read after words have been written at addresses that stand apart. -/
theorem Memory.readWord_writeWords_of_apart (l : List (Nat × Word)) (m : Memory)
    (apart : (l.map Prod.fst).Pairwise fun a b => a + 4 ≤ b ∨ b + 4 ≤ a) :
    ∀ x ∈ l, (m.writeWords l).readWord x.1 = x.2 := by
  rintro ⟨a, w⟩ hx
  obtain ⟨before, after, rfl⟩ := List.append_of_mem hx
  rw [List.map_append, List.map_cons, List.pairwise_append, List.pairwise_cons] at apart
  obtain ⟨-, ⟨first, -⟩, -⟩ := apart
  exact Memory.readWord_writeWords_last m a w before after fun p hp => first p.1 (List.mem_map_of_mem hp)

/-! ### Records in flight (R160, R179) -/

theorem State.inFlight_eq (s : State) :
    s.inFlight = s.gathering.cells.toList.countP Slot.isHolding +
      (s.carousel.places.toList.map (·.slot)).countP Slot.isHolding + s.trim.queue.length + s.trim.books.length := by
  rw [State.inFlight, State.slots, ← List.countP_eq_length_filter, List.countP_append]

/-- One place of a line changed: the records there before and after make the difference. -/
theorem countP_holding_set {l : List Slot} {i : Nat} (h : i < l.length) (x : Slot) :
    (l.set i x).countP Slot.isHolding + (if l[i].isHolding then 1 else 0) =
      l.countP Slot.isHolding + (if x.isHolding then 1 else 0) := by
  have counted : l[i].isHolding = true → 0 < l.countP Slot.isHolding := fun k =>
    List.countP_pos_iff.mpr ⟨l[i], List.getElem_mem h, k⟩
  rw [List.countP_set h]
  by_cases k : l[i].isHolding = true
  · have := counted k
    simp only [k, if_true]
    omega
  · simp only [k]
    simp

theorem State.inFlight_setCell (p : Fin 18) (x : Slot) (s : State) :
    (s.setCell p x).inFlight + (if (s.cell p).isHolding then 1 else 0) = s.inFlight + (if x.isHolding then 1 else 0) := by
  have place := countP_holding_set (l := s.gathering.cells.toList) (i := p) (by simp) x
  rw [Vector.getElem_toList] at place
  have cells : (s.setCell p x).gathering.cells.toList = s.gathering.cells.toList.set p x := Vector.toList_set p.isLt
  rw [State.inFlight_eq, State.inFlight_eq, cells]
  change _ + (if (s.gathering.cells[p.val]).isHolding then 1 else 0) = _
  change List.countP _ _ + List.countP _ (s.carousel.places.toList.map (·.slot)) + s.trim.queue.length + s.trim.books.length + _ = _
  omega

theorem State.inFlight_setClamp (p : Fin 24) (x : Slot) (s : State) :
    (s.setClamp p x).inFlight + (if (s.clampAt p).isHolding then 1 else 0) = s.inFlight + (if x.isHolding then 1 else 0) := by
  have place := countP_holding_set (l := s.carousel.places.toList.map (·.slot)) (i := p) (by simp) x
  rw [List.getElem_map, Vector.getElem_toList] at place
  have places : (s.setClamp p x).carousel.places.toList.map (·.slot) = (s.carousel.places.toList.map (·.slot)).set p x := by
    change ((s.carousel.places.set p { s.carousel.places[p] with slot := x }).toList.map (·.slot)) = _
    rw [Vector.toList_set, List.map_set]
  rw [State.inFlight_eq, State.inFlight_eq, places]
  change _ + (if (s.carousel.places[p.val].slot).isHolding then 1 else 0) = _
  change List.countP _ s.gathering.cells.toList + List.countP _ _ + s.trim.queue.length + s.trim.books.length + _ = _
  omega

/-- The clamp at position 17 loses its record, if it has one (R81). -/
theorem State.inFlight_openClamp (gate : Gate1) (s : State) :
    (s.openClamp gate).inFlight + (if (s.clampAt 17).isHolding then 1 else 0) = s.inFlight := by
  have opened : (s.openClamp gate).inFlight = (s.setClamp 17 .empty).inFlight := State.inFlight_congr rfl rfl rfl
  rw [opened, State.inFlight_setClamp]
  rfl

/-! ### The snapshot after a change of the line mode (R156, R179) -/

theorem State.snapshotWords_congr {s t : State} (same : SameBut [.port] s t) : t.snapshotWords = s.snapshotWords := by
  have phase : t.phase = s.phase := same .phase (by decide)
  have trim : t.trim = s.trim := same .trim (by decide)
  have pot : t.pot = s.pot := same .pot (by decide)
  have gathering : t.gathering = s.gathering := same .gathering (by decide)
  have carousel : t.carousel = s.carousel := same .carousel (by decide)
  have cover : t.cover = s.cover := same .cover (by decide)
  have miller : t.miller = s.miller := same .miller (by decide)
  have flight : t.inFlight = s.inFlight := State.inFlight_congr (by rw [gathering]) (by rw [carousel]) trim
  rw [State.snapshotWords, State.snapshotWords, phase, trim, pot, gathering, cover, miller, flight]

theorem State.snapshotWords_mem_area {s : State} {x : Nat × Word} (h : x ∈ s.snapshotWords) :
    x.1 ∈ snapshotArea ∧ x.1 ≠ Header.snapSeq := by
  have address : x.1 ∈ snapshotArea.tail := List.mem_map.mpr ⟨x, h, rfl⟩
  exact ⟨List.mem_of_mem_tail address, fun same => absurd (same ▸ address) (by decide)⟩

/-- The snapshot's words hold what the snapshot is of. -/
theorem State.snapshot_words (s : State) : ∀ x ∈ s.snapshot.snapshotWords, s.snapshot.word x.1 = x.2 := by
  have told : SameBut [.port] s s.snapshot := fun p hp => by cases p <;> simp [Part.same] at hp ⊢
  rw [State.snapshotWords_congr told]
  intro x hx
  have apart : x.1 + 4 ≤ Header.snapSeq ∨ Header.snapSeq + 4 ≤ x.1 := by
    have all : ∀ a ∈ snapshotArea.tail, a + 4 ≤ Header.snapSeq ∨ Header.snapSeq + 4 ≤ a := by decide
    exact all _ (List.mem_map.mpr ⟨x, hx, rfl⟩)
  have mem : s.snapshot.mem = ((s.mem.writeWord Header.snapSeq (s.port.snapSeq + 1)).writeWords s.snapshotWords).writeWord
      Header.snapSeq (s.port.snapSeq + 1 + 1) := by
    simp only [State.snapshot, State.updPort_mem, State.putWord_mem, State.putWords_mem]
  rw [State.word, mem, Memory.readWord_writeWord_of_ne _ _ apart]
  have addresses : s.snapshotWords.map Prod.fst = snapshotArea.tail := rfl
  exact Memory.readWord_writeWords_of_apart s.snapshotWords _ (by rw [addresses]; decide) x hx

/-- A change of the line mode to one that does not act leaves the snapshot of the state it leaves. -/
theorem State.changeMode_snapshotWords {m : LineMode} (s : State) (rests : m.acting = false) :
    ∀ x ∈ (s.changeMode m).snapshotWords, (s.changeMode m).word x.1 = x.2 := by
  have change : s.changeMode m = (s.driven m).snapshot.modeNotices m := by
    rw [State.changeMode_eq, rests]
    rfl
  have told := State.modeNotices_same m (s.driven m).snapshot
  rw [change, State.snapshotWords_congr told]
  intro x hx
  have apart : ∀ w ∈ [Header.count 3, Header.count 4], x.1 + 4 ≤ w ∨ w + 4 ≤ x.1 := by
    have all : ∀ a ∈ snapshotArea, ∀ w ∈ [Header.count 3, Header.count 4], a + 4 ≤ w ∨ w + 4 ≤ a := by decide
    exact all _ (State.snapshotWords_mem_area hx).1
  rw [(State.modeNotices_bytes m _).word apart]
  exact (s.driven m).snapshot_words x hx

/-! ### Gate 1 at a change of the line mode (R12, R81) -/

theorem State.disengage_gates (w : Window) (s : State) :
    (s.disengage w).carousel.lastDrop = s.carousel.lastDrop ∧
      (s.carousel.gate1 = .toReject → (s.disengage w).carousel.gate1 = .toReject) := by
  unfold State.disengage
  split
  · cases w <;> simp [State.restStation]
  · exact ⟨rfl, id⟩

theorem State.disengageAll_gates (s : State) :
    s.disengageAll.carousel.lastDrop = s.carousel.lastDrop ∧
      (s.carousel.gate1 = .toReject → s.disengageAll.carousel.gate1 = .toReject) := by
  unfold State.disengageAll
  induction allWindows generalizing s with
  | nil => exact ⟨rfl, id⟩
  | cons w l ih =>
    obtain ⟨drop, gate⟩ := s.disengage_gates w
    obtain ⟨drop', gate'⟩ := ih (s.disengage w)
    exact ⟨drop'.trans drop, fun h => gate' (gate h)⟩

/-- A change to a mode that does not act leaves gate 1 at rest where it stood so, and its last drop. -/
theorem State.changeMode_gates {m : LineMode} (s : State) (rests : m.acting = false) :
    (s.changeMode m).carousel.lastDrop = s.carousel.lastDrop ∧
      (s.carousel.gate1 = .toReject → (s.changeMode m).carousel.gate1 = .toReject) := by
  have same : (s.changeMode m).carousel = (s.driven m).carousel := s.changeMode_same m .carousel (by decide)
  have marked : (s.marked m).carousel = s.carousel := s.marked_same m .carousel (by decide)
  rw [same, State.driven_eq, State.changeDrive_rests _ rests]
  cases s.line.mode.acting
  · obtain ⟨heater, -⟩ := (s.marked m).stopDrive.modeHeater_effect m
    have carousel : ((s.marked m).stopDrive.modeHeater m).carousel = (s.marked m).stopDrive.carousel := heater .carousel (by decide)
    rw [if_neg (by decide), carousel, show (s.marked m).stopDrive.carousel = s.carousel from marked]
    exact ⟨rfl, id⟩
  · obtain ⟨heater, -⟩ := (s.marked m).stopDrive.disengageAll.modeHeater_effect m
    have carousel : ((s.marked m).stopDrive.disengageAll.modeHeater m).carousel =
        (s.marked m).stopDrive.disengageAll.carousel := heater .carousel (by decide)
    obtain ⟨drop, gate⟩ := (s.marked m).stopDrive.disengageAll_gates
    have before : (s.marked m).stopDrive.carousel = s.carousel := marked
    rw [before] at drop gate
    simp only [carousel, if_true]
    exact ⟨drop, gate⟩

/-! ### The last record of EMPTYING (R160) -/

/-- EMPTYING ends in READY: what the change makes and leaves alone, the snapshot last. -/
structure Emptied (s t : State) : Prop where
  entered : Entered .ready s t
  phase : t.phase = s.phase
  line : t.line = { s.line with
    mode := .ready, drive := .stopped, reference := none, stableAt := none
    restAt := expiryAfter t.now s.config.settings.setbackDelay }
  engaged : t.stations.engaged = []
  cells : t.gathering.cells = s.gathering.cells
  places : t.carousel.places = s.carousel.places
  drop : t.carousel.lastDrop = s.carousel.lastDrop
  gate : s.carousel.gate1 = .toReject → t.carousel.gate1 = .toReject
  noticed : Noticed (oneNotice .modeChanged) s t
  snapshot : ∀ x ∈ t.snapshotWords, t.word x.1 = x.2
  same : SameBut [.stations, .gathering, .carousel, .format, .miller, .glue, .cover, .line, .port] s t
  bytes : BytesBut modeWords s t

/-- A change from an acting mode to READY. -/
theorem State.changeMode_emptied {s : State} (acting : s.line.mode.acting = true) : Emptied s (s.changeMode .ready) := by
  have entered := s.changeMode_entered .ready
  obtain ⟨same, cells, places, -, -, -, -, -, -, -, -, -, pot, -⟩ := s.changeMode_modeFrame .ready
  obtain ⟨drop, gate⟩ := s.changeMode_gates (m := .ready) rfl
  have line := s.changeMode_line .ready
  have phase := s.changeMode_phase (m := .ready) rfl
  refine
    { entered, cells, places, drop, gate, phase
      line := by
        have awake : s.line.mode ≠ .warming := fun warming => by rw [warming] at acting; cases acting
        rw [line, (s.changeMode_frame .ready).1, changeTimers, if_neg awake]
        rfl
      engaged := ?_
      noticed := Noticed.modeChanged (s.changeMode_noticed .ready) (by decide)
      snapshot := s.changeMode_snapshotWords rfl
      same := fun p hp => ?_
      bytes := s.changeMode_bytes .ready }
  · obtain ⟨-, -, -, -, -, -, -, -, engaged, -⟩ := entered
    exact engaged rfl acting
  · cases p
    case now => exact (s.changeMode_frame .ready).1
    case phase => exact phase
    case pot => exact pot (by decide)
    case stations | gathering | carousel | format | miller | glue | cover | line | port => simp at hp
    all_goals exact same _ (by decide)

/-- A spoiled posting with records left in flight, or outside EMPTYING, ends no mode. -/
theorem State.posted_stays {b : Book} {m : SpoilMark} {p : PostPoint} {s : State} (f : Stations → Stations)
    (inv : HeldInTable s) (stays : s.line.mode = .emptying → s.inFlight ≠ 0) :
    ((s.postSpoiled b m p).updStations f).emptyingCheck = (s.postSpoiled b m p).updStations f := by
  obtain ⟨-, -, -, -, same, -⟩ := State.postSpoiled_effect (b := b) (m := m) (p := p) inv rfl
  have line : (s.postSpoiled b m p).line = s.line := same .line (by decide)
  have flight : ((s.postSpoiled b m p).updStations f).inFlight = s.inFlight :=
    State.inFlight_congr (congrArg Gathering.cells (same .gathering (by decide)))
      (congrArg Carousel.places (same .carousel (by decide))) (same .trim (by decide))
  exact State.emptyingCheck_stays fun mode => by
    rw [State.updStations_line, line] at mode
    rw [flight]
    exact stays mode

/-- The spoiled posting of the last record of EMPTYING ends it in READY (R160). -/
theorem State.posted_ends {b : Book} {m : SpoilMark} {p : PostPoint} {s t : State} (f : Stations → Stations)
    (inv : HeldInTable s) (mode : s.line.mode = .emptying) (last : s.inFlight = 0)
    (ht : t = ((s.postSpoiled b m p).updStations f).emptyingCheck) :
    Entered .ready s t ∧ t.phase = s.phase ∧ t.stations.engaged = [] ∧
      t.line = { s.line with
        mode := .ready, drive := .stopped, reference := none, stableAt := none
        restAt := expiryAfter t.now s.config.settings.setbackDelay } ∧
      t.gathering.cells = s.gathering.cells ∧ t.carousel.places = s.carousel.places ∧
      t.carousel.lastDrop = s.carousel.lastDrop ∧ (s.carousel.gate1 = .toReject → t.carousel.gate1 = .toReject) ∧
      t.port.counts[(3 : Fin 8)] = s.port.counts[(3 : Fin 8)] + 1 ∧ t.word (Header.count 3) = t.port.counts[(3 : Fin 8)] ∧
      (∀ x ∈ t.snapshotWords, t.word x.1 = x.2) ∧ SpoilLogged b.serial m.code.number p.number m.point s t ∧
      SameBut [.stations, .sched, .gathering, .carousel, .format, .miller, .glue, .cover, .line, .port] s t := by
  obtain ⟨⟨outcome, logged'⟩, count', counts', port', same', -⟩ :=
    State.postSpoiled_effect (b := b) (m := m) (p := p) inv rfl
  obtain ⟨u, hu⟩ : ∃ u, u = (s.postSpoiled b m p).updStations f := ⟨_, rfl⟩
  have dropped : SameBut [.stations] (s.postSpoiled b m p) u := fun q hq => by
    subst hu
    cases q <;> simp [Part.same] at hq ⊢
  have logged : Logged s.port.counts[(2 : Fin 8)] b (spoilEntry b m outcome p) u := by rw [hu]; exact logged'
  have count : u.port.counts[(2 : Fin 8)] = s.port.counts[(2 : Fin 8)] + 1 := by rw [hu]; exact count'
  have counts : u.port.counts[(3 : Fin 8)] = s.port.counts[(3 : Fin 8)] := by
    rw [hu]
    exact counts' 3 (by decide) (by decide)
  have port : u.port.snapSeq = s.port.snapSeq := by rw [hu, State.updStations_port, port']
  have same : SameBut [.sched, .port, .stations] s u := same'.trans dropped
  rw [← hu] at ht
  clear hu dropped same' port' counts' count' logged'
  have line : u.line = s.line := same .line (by decide)
  have gathering : u.gathering = s.gathering := same .gathering (by decide)
  have carousel : u.carousel = s.carousel := same .carousel (by decide)
  have phase : u.phase = s.phase := same .phase (by decide)
  have config : u.config = s.config := same .config (by decide)
  have flight : u.inFlight = s.inFlight :=
    State.inFlight_congr (congrArg Gathering.cells gathering) (congrArg Carousel.places carousel) (same .trim (by decide))
  rw [State.emptyingCheck_ends (by rw [line]; exact mode) (by rw [flight]; exact last)] at ht
  subst ht
  have ends := State.changeMode_emptied (s := u) (by rw [line, mode]; rfl)
  generalize u.changeMode .ready = t at *
  have changed := ends.noticed 3
  have two : t.port.counts[(2 : Fin 8)] = u.port.counts[(2 : Fin 8)] := by
    rw [(ends.noticed 2).1]
    simp [oneNotice, Attention.number]
  have slot := logSlot_bounds s.port.counts[(2 : Fin 8)]
  have kept : Logged s.port.counts[(2 : Fin 8)] b (spoilEntry b m outcome p) t := logged.of_bytes ends.bytes fun w hw => by
    have header : ∀ a ∈ modeWords, a + 4 ≤ 0x8800 := by decide
    exact .inl (by have := header w hw; omega)
  obtain ⟨number, serial, -, ⟨code, plain, -, posting⟩, ⟨position, place, -⟩, -⟩ := kept.entry rfl
  refine ⟨?_, ends.phase.trans phase, ends.engaged, by rw [ends.line, line, config], by rw [ends.cells, gathering],
    by rw [ends.places, carousel], by rw [ends.drop, carousel], fun rest => ends.gate (by rw [carousel]; exact rest), ?_,
    changed.2 (by decide), ends.snapshot, ⟨two.trans count, number, serial, code, plain, posting, position, place⟩,
    (same.trans ends.same).mono (by decide)⟩
  · exact ends.entered.between (by decide) same (by decide) (by rw [line]) (by rw [line]) (by rw [line]) (by rw [line])
      port (SameBut.refl [] _) (by decide) rfl rfl
  · rw [changed.1, counts]
    rfl

/-! ### The state in which a window end is dealt with -/

theorem State.ending_phase {s : State} (below : s.phase.counter < 4095) (dt : Nat) (w : Window) :
    ((s.counting dt).ending w).phase = s.phase.afterEnd w := by
  have counter : (if 4095 ≤ s.phase.counter then 0 else s.phase.counter + 1) = s.phase.counter + 1 := if_neg (by omega)
  rw [State.ending, State.updPhase_phase, State.counting_phase, PhaseUnit.count, counter]
  rfl

theorem State.ending_same (dt : Nat) (w : Window) (s : State) : SameBut [.now, .phase] s ((s.counting dt).ending w) :=
  ((s.counting_same dt).trans (show SameBut [.phase] (s.counting dt) _ from fun p hp => (by
    cases p <;> simp [Part.same, State.ending] at hp ⊢))).mono (by decide)

/-- A forward count whose one event is a window end at a station that is not engaged. -/
theorem exec_forward_unserved {w : Window} {s : State} (only : OnlyEvent (.closes w) s) (free : w ∉ s.stations.engaged)
    (dt : Nat) (io : CountInputs) :
    exec (.forwardEncoderCount dt io) s =
      .next (let u := (((s.counting dt).ending w).unservedEnd w).changeover w; if w = .deliver then u.emptyingCheck else u) := by
  have away : (s.counting dt).isEngaged w = false := by
    have stations : (s.counting dt).stations = s.stations := s.counting_same dt .stations (by decide)
    rw [State.isEngaged, stations]
    exact decide_eq_false free
  refine (exec_forward_only only dt io).trans (congrArg Host.Outcome.next ((State.windowEnd_eq w io _).trans ?_))
  rw [away]
  rfl

end Sys2Proof.Machine
end

section
/-!
The window ends at a station that is not engaged, work by work (R13, R15, R16, R51, R83).
-/

namespace Sys2Proof.Machine

/-- The state in which an unserved window end is dealt with, on a count below the wrap. -/
theorem State.ending_unserved {s : State} (below : s.phase.counter < 4095) (dt : Nat) (w : Window) :
    (s.counting dt).ending w = { s with now := s.now + dt, phase := s.phase.afterEnd w } := by
  have whole : (s.counting dt).ending w = { s with now := s.now + dt, phase := ((s.counting dt).ending w).phase } := rfl
  rw [whole, State.ending_phase below]

/-- A changeover point: made in an acting mode, left pending in any other (R9, R16). -/
theorem State.changeover_effect (w : Window) (s : State) :
    (s.changeover w).miller =
        (if w = .mill then if s.line.mode.acting then s.millChangeover.miller else { s.miller with pending := true }
         else s.miller) ∧
      (s.changeover w).cover =
        (if w = .cover then if s.line.mode.acting then s.coverChangeover.cover else { s.cover with pending := true }
         else s.cover) ∧
      SameBut [.miller, .cover] s (s.changeover w) ∧ (s.changeover w).mem = s.mem := by
  unfold State.changeover
  rw [State.millChangeover_effect, State.coverChangeover_effect]
  cases w
  case mill =>
    cases s.line.mode.acting <;>
      exact ⟨rfl, rfl, fun q hq => (by cases q <;> simp [Part.same] at hq ⊢), rfl⟩
  case cover =>
    cases s.line.mode.acting <;>
      exact ⟨rfl, rfl, fun q hq => (by cases q <;> simp [Part.same] at hq ⊢), rfl⟩
  all_goals exact ⟨rfl, rfl, SameBut.refl _ s, rfl⟩

/-- The changeovers' own works at a state that keeps the two clamps they read and the works. -/
theorem State.millChangeover_congr {s t : State} (miller : t.miller = s.miller) (clamp : t.clampAt 3 = s.clampAt 3) :
    t.millChangeover.miller = s.millChangeover.miller := by
  rw [State.millChangeover_effect, State.millChangeover_effect, miller, clamp]

theorem State.coverChangeover_congr {s t : State} (cover : t.cover = s.cover) (clamp : t.clampAt 8 = s.clampAt 8) :
    t.coverChangeover.cover = s.coverChangeover.cover := by
  rw [State.coverChangeover_effect, State.coverChangeover_effect, cover, clamp]

/-! ### The marking stations (R13) -/

/-- The end of a marking station that is not engaged, at a position away from the changeovers' clamps. -/
theorem unservedEnd_marks {w : Window} {p : Fin 24} {s v t : State} (position : stationPosition w = some p)
    (other : w ≠ .gauge) (before : SameBut [.now, .phase] s v) (mem : v.mem = s.mem)
    (ht : t = (v.unservedEnd w).changeover w) :
    t.clampAt p = (s.clampAt p).markInched ⟨true, p.val⟩ ∧ (∀ q : Fin 24, q ≠ p → t.clampAt q = s.clampAt q) ∧
      t.carousel = { s.carousel with places := t.carousel.places } ∧
      t.miller =
        (if w = .mill then if s.line.mode.acting then s.millChangeover.miller else { s.miller with pending := true }
         else s.miller) ∧
      t.cover =
        (if w = .cover then if s.line.mode.acting then s.coverChangeover.cover else { s.cover with pending := true }
         else s.cover) ∧
      t.now = v.now ∧ t.phase = v.phase ∧ SameBut [.now, .phase, .carousel, .miller, .cover] s t ∧ BytesBut [] s t := by
  have apart : p ≠ 3 ∧ p ≠ 8 := by
    cases w <;> simp [stationPosition] at position <;> subst position <;> decide
  have marks : v.unservedEnd w = v.modClamp p (Book.inched (carouselPoint p)) := by
    cases w <;> simp [stationPosition] at position other <;> subst position <;> rfl
  have beforeCarousel : v.carousel = s.carousel := before .carousel (by decide)
  have beforeMiller : v.miller = s.miller := before .miller (by decide)
  have beforeCover : v.cover = s.cover := before .cover (by decide)
  have beforeLine : v.line = s.line := before .line (by decide)
  obtain ⟨own, others, -, places, same, memMark⟩ := v.modClamp_effect p (Book.inched (carouselPoint p))
  rw [marks] at ht
  generalize v.modClamp p (Book.inched (carouselPoint p)) = u at *
  have miller : u.miller = s.miller := (same .miller (by decide)).trans beforeMiller
  have cover : u.cover = s.cover := (same .cover (by decide)).trans beforeCover
  have line : u.line = s.line := (same .line (by decide)).trans beforeLine
  have clamps : ∀ q, v.clampAt q = s.clampAt q := fun q => by rw [State.clampAt, State.clampAt, beforeCarousel]
  obtain ⟨millerAfter, coverAfter, sameAfter, memAfter⟩ := u.changeover_effect w
  rw [← ht] at millerAfter coverAfter sameAfter memAfter
  have carousel : t.carousel = u.carousel := sameAfter .carousel (by decide)
  refine ⟨?_, fun q hq => ?_, ?_, ?_, ?_, ?_, ?_, ((before.trans same).trans sameAfter).mono (by decide), ?_⟩
  · rw [State.clampAt, carousel]
    exact own.trans (by rw [clamps, Slot.mapBook_inched]; rfl)
  · rw [State.clampAt, carousel]
    exact (others q hq).trans (clamps q)
  · rw [carousel, ← beforeCarousel]
    exact places
  · rw [millerAfter, line, miller, State.millChangeover_congr miller ((others 3 apart.1.symm).trans (clamps 3))]
  · rw [coverAfter, line, cover, State.coverChangeover_congr cover ((others 8 apart.2.symm).trans (clamps 8))]
  · exact (sameAfter .now (by decide)).trans (same .now (by decide))
  · exact (sameAfter .phase (by decide)).trans (same .phase (by decide))
  · exact BytesBut.of_mem (memAfter.trans (memMark.trans mem))

/-! ### GAUGE (R13, R51) -/

/-- The end of GAUGE where it is not engaged: the book marked, its lock released. -/
theorem unservedEnd_gauge {s v t : State} (before : SameBut [.now, .phase] s v) (mem : v.mem = s.mem)
    (ht : t = v.unservedEnd .gauge) :
    t.clampAt 2 =
        (match s.clampAt 2 with
         | .holding b => .holding { b.markInched ⟨true, 2⟩ with entry := none }
         | x => x) ∧
      (∀ q : Fin 24, q ≠ 2 → t.clampAt q = s.clampAt q) ∧
      ((∀ b, s.clampAt 2 = .holding b → b.entry = none) → t.cache = s.cache) ∧
      (∀ b e, s.clampAt 2 = .holding b → b.entry = some e → LockReleased e s t) ∧
      t.now = v.now ∧ t.phase = v.phase ∧ SameBut [.now, .phase, .cache, .carousel] s t ∧
      BytesBut [Header.occupancy] s t := by
  have beforeCarousel : v.carousel = s.carousel := before .carousel (by decide)
  have beforeCache : v.cache = s.cache := before .cache (by decide)
  have clamps : ∀ q, v.clampAt q = s.clampAt q := fun q => by rw [State.clampAt, State.clampAt, beforeCarousel]
  obtain ⟨own, others, -, -, same, memMark⟩ := v.modClamp_effect 2 (Book.inched (carouselPoint 2))
  change t = (v.modClamp 2 (Book.inched (carouselPoint 2))).releaseClamp 2 at ht
  generalize v.modClamp 2 (Book.inched (carouselPoint 2)) = u at *
  rw [clamps, Slot.mapBook_inched] at own
  obtain ⟨ownAfter, othersAfter, unlocked, released, sameAfter, bytes⟩ := u.releaseClamp_effect 2
  rw [← ht] at ownAfter othersAfter unlocked released sameAfter bytes
  have cache : u.cache = s.cache := (same .cache (by decide)).trans beforeCache
  refine ⟨?_, fun q hq => ?_, fun free => ?_, fun b e held entry => ?_, ?_, ?_, ?_, ?_⟩
  · rw [ownAfter, own]
    cases s.clampAt 2 <;> rfl
  · exact (othersAfter q hq).trans ((others q hq).trans (clamps q))
  · refine (unlocked fun b held => ?_).trans cache
    rw [own] at held
    cases place : s.clampAt 2 with
    | holding c =>
      rw [place] at held
      cases held
      exact free c place
    | empty => rw [place] at held; cases held
    | unknown => rw [place] at held; cases held
  · refine (released (b.markInched ⟨true, 2⟩) e ?_ entry).congr cache.symm rfl
    rw [own, held]
    rfl
  · exact (sameAfter .now (by decide)).trans (same .now (by decide))
  · exact (sameAfter .phase (by decide)).trans (same .phase (by decide))
  · exact ((before.trans same).trans sameAfter).mono (by decide)
  · exact ((BytesBut.of_mem (w := []) (memMark.trans mem)).trans bytes).mono fun _ h => h

/-! ### POCKET (R13) -/

theorem unservedEnd_pocket {s v t : State} (before : SameBut [.now, .phase] s v) (mem : v.mem = s.mem)
    (ht : t = v.unservedEnd .pocket) :
    (∀ p : Fin 18, t.cell p = if p = 0 ∨ p = 17 then s.cell p else (s.cell p).markInched ⟨false, p.val⟩) ∧
      t.gathering.pockets = s.gathering.pockets ∧ t.now = v.now ∧ t.phase = v.phase ∧
      SameBut [.now, .phase, .gathering] s t ∧ BytesBut [] s t := by
  have beforeGathering : v.gathering = s.gathering := before .gathering (by decide)
  have cells : ∀ p, v.cell p = s.cell p := fun p => by rw [State.cell, State.cell, beforeGathering]
  obtain ⟨marked, pockets, same, memMark⟩ :=
    State.foldl_modCell (f := fun p => Book.inched (chainPoint p)) pocketPositions_nodup v ht
  refine ⟨fun p => ?_, by rw [pockets, beforeGathering], same .now (by decide), same .phase (by decide),
    (before.trans same).mono (by decide), BytesBut.of_mem (memMark.trans mem)⟩
  rw [marked p, cells, Slot.mapBook_inched]
  simp only [mem_pocketPositions, ite_not]
  rfl

/-! ### DELIVER (R15, R81) -/

theorem SpoilLogged.of_counts {serial : Word} {code posting : Nat} {point : DetectionPoint} {s v t : State}
    (h : SpoilLogged serial code posting point v t) (port : v.port = s.port) : SpoilLogged serial code posting point s t := by
  unfold SpoilLogged at h ⊢
  rwa [port] at h

/-- A drop at position 17 to the reject bin whose record is posted, a record being left or the line not EMPTYING. -/
theorem State.dropPosted_stays {b c : Book} {m : SpoilMark} {s t : State} (f : Stations → Stations) (inv : HeldInTable s)
    (clamp : s.clampAt 17 = .holding b) (stays : s.line.mode = .emptying → s.inFlight ≠ 1)
    (ht : t = (((s.openClamp .toReject).postSpoiled c m .deliver).updStations f).emptyingCheck) :
    t.clampAt 17 = .empty ∧ (∀ q : Fin 24, q ≠ 17 → t.clampAt q = s.clampAt q) ∧ t.carousel.gate1 = .toReject ∧
      t.carousel.lastDrop = some .toReject ∧ SpoilLogged c.serial m.code.number 1 m.point s t ∧
      t.stations = f s.stations ∧ SameBut [.stations, .sched, .carousel, .port] s t := by
  obtain ⟨own, others, gate, drop, same, -⟩ := s.openClamp_effect .toReject
  have flight := s.inFlight_openClamp .toReject
  rw [clamp] at flight
  generalize s.openClamp .toReject = o at *
  have line : o.line = s.line := same .line (by decide)
  have port : o.port = s.port := same .port (by decide)
  have held : HeldInTable o := by
    intro x hx
    rw [show o.sched = s.sched from same .sched (by decide)] at hx
    exact inv x hx
  rw [State.posted_stays f held fun mode none_left => stays (by rw [← line]; exact mode) (by
    rw [← flight, none_left]
    rfl)] at ht
  obtain ⟨-, -, -, -, sameAfter, -⟩ := State.postSpoiled_effect (b := c) (m := m) (p := .deliver) held rfl
  have logged : SpoilLogged c.serial m.code.number 1 m.point o t := by
    rw [ht]
    exact State.postSpoiled_spoilLogged (p := .deliver) held
  have stations : t.stations = f s.stations := by
    rw [ht, State.updStations_stations, show (o.postSpoiled c m .deliver).stations = s.stations from
      (sameAfter .stations (by decide)).trans (same .stations (by decide))]
  have sameLast : SameBut [.stations] (o.postSpoiled c m .deliver) t := fun q hq => by
    subst ht
    cases q <;> simp [Part.same] at hq ⊢
  have whole : SameBut [.sched, .port, .stations] o t := sameAfter.trans sameLast
  have carousel : t.carousel = o.carousel := whole .carousel (by decide)
  refine ⟨?_, fun q hq => ?_, by rw [carousel]; exact gate, by rw [carousel]; exact drop, logged.of_counts port, stations,
    (same.trans whole).mono (by decide)⟩
  · rw [State.clampAt, carousel]
    exact own
  · rw [State.clampAt, carousel]
    exact others q hq

/-- The drop of the last record of EMPTYING at position 17 (R160). -/
theorem State.dropPosted_ends {b c : Book} {m : SpoilMark} {s t : State} (f : Stations → Stations) (inv : HeldInTable s)
    (clamp : s.clampAt 17 = .holding b) (mode : s.line.mode = .emptying) (last : s.inFlight = 1)
    (ht : t = (((s.openClamp .toReject).postSpoiled c m .deliver).updStations f).emptyingCheck) :
    Entered .ready s t ∧ t.phase = s.phase ∧ t.clampAt 17 = .empty ∧ (∀ q : Fin 24, q ≠ 17 → t.clampAt q = s.clampAt q) ∧
      t.carousel.gate1 = .toReject ∧ t.carousel.lastDrop = some .toReject ∧ t.line.causes = s.line.causes ∧
      t.port.counts[(3 : Fin 8)] = s.port.counts[(3 : Fin 8)] + 1 ∧ t.word (Header.count 3) = t.port.counts[(3 : Fin 8)] ∧
      (∀ x ∈ t.snapshotWords, t.word x.1 = x.2) ∧ t.gathering.cells = s.gathering.cells ∧
      SpoilLogged c.serial m.code.number 1 m.point s t ∧
      SameBut [.stations, .sched, .gathering, .carousel, .format, .miller, .glue, .cover, .line, .port] s t := by
  obtain ⟨own, others, gate, drop, same, -⟩ := s.openClamp_effect .toReject
  have flight := s.inFlight_openClamp .toReject
  rw [clamp] at flight
  generalize s.openClamp .toReject = o at *
  have line : o.line = s.line := same .line (by decide)
  have port : o.port = s.port := same .port (by decide)
  have gathering : o.gathering = s.gathering := same .gathering (by decide)
  have held : HeldInTable o := by
    intro x hx
    rw [show o.sched = s.sched from same .sched (by decide)] at hx
    exact inv x hx
  have empty : o.inFlight = 0 := by
    have one : o.inFlight + 1 = s.inFlight := flight
    omega
  obtain ⟨entered, phase, -, lineAfter, cells, places, dropAfter, gateAfter, count, word, snapshot, logged, sameAfter⟩ :=
    State.posted_ends f held (by rw [line]; exact mode) empty ht
  rw [port] at count
  refine ⟨?_, phase.trans (same .phase (by decide)), ?_, fun q hq => ?_, gateAfter gate, dropAfter.trans drop,
    by rw [lineAfter, line], count, word, snapshot, by rw [cells, gathering], logged.of_counts port,
    (same.trans sameAfter).mono (by decide)⟩
  · exact entered.between (by decide) same (by decide) (by rw [line]) (by rw [line]) (by rw [line]) (by rw [line])
      (by rw [port]) (SameBut.refl [] _) (by decide) rfl rfl
  · rw [State.clampAt, places]
    exact own
  · rw [State.clampAt, places]
    exact others q hq

/-- A clamp without a record at position 17 opens to the reject bin (R15, R81). -/
theorem State.dropEmpty_stays {s t : State} (f : Stations → Stations) (clamp : (s.clampAt 17).isHolding = false)
    (stays : s.line.mode = .emptying → s.inFlight ≠ 0) (ht : t = ((s.openClamp .toReject).updStations f).emptyingCheck) :
    t.clampAt 17 = .empty ∧ (∀ q : Fin 24, q ≠ 17 → t.clampAt q = s.clampAt q) ∧ t.carousel.gate1 = .toReject ∧
      t.carousel.lastDrop = some .toReject ∧ t.stations = f s.stations ∧ SameBut [.stations, .carousel] s t ∧
      t.mem = s.mem := by
  obtain ⟨own, others, gate, drop, same, mem⟩ := s.openClamp_effect .toReject
  have flight := s.inFlight_openClamp .toReject
  rw [clamp] at flight
  generalize s.openClamp .toReject = o at *
  have line : o.line = s.line := same .line (by decide)
  rw [State.emptyingCheck_stays fun mode => by
    rw [show (o.updStations f).inFlight = s.inFlight from flight]
    exact stays (by rw [← line]; exact mode)] at ht
  subst ht
  have dropped : SameBut [.stations] o (o.updStations f) := fun q hq => by cases q <;> simp [Part.same] at hq ⊢
  exact ⟨own, others, gate, drop, congrArg f (same .stations (by decide)), (same.trans dropped).mono (by decide), mem⟩

/-- A part that turns out the same needs no place in the list. -/
theorem SameBut.sharpen {ps qs : List Part} {s t : State} (h : SameBut ps s t) (k : ∀ p ∈ ps, p ∉ qs → p.same s t) :
    SameBut qs s t := fun p hp => by
  by_cases listed : p ∈ ps
  · exact k p listed hp
  · exact h p listed

/-- Settles O19: the count deals with one unserved end, whose work is the station's own. -/
theorem unservedEndMarksInched : Obligations.UnservedEndMarksInched := by
  intro s dt io w only free
  have below : s.phase.counter < 4095 := only.2.1
  have run := exec_forward_unserved only free dt io
  have ending := State.ending_unserved below dt w
  have before := State.ending_same dt w s
  have phase := State.ending_phase below dt w
  have mem : ((s.counting dt).ending w).mem = s.mem := rfl
  have now : ((s.counting dt).ending w).now = s.now + dt := rfl
  generalize (s.counting dt).ending w = v at *
  have vmode : v.line = s.line := before .line (by decide)
  have carousel : v.carousel = s.carousel := before .carousel (by decide)
  have port : v.port = s.port := before .port (by decide)
  have clamps : ∀ q, v.clampAt q = s.clampAt q := fun q => by rw [State.clampAt, State.clampAt, carousel]
  have flight : v.inFlight = s.inFlight :=
    State.inFlight_congr (congrArg Gathering.cells (before .gathering (by decide))) (congrArg Carousel.places carousel)
      (before .trim (by decide))
  refine ⟨fun idle => ?_, fun p position other => ?_, fun gauge => ?_, fun pocket => ?_, fun deliver vacant stays => ?_,
    fun deliver inv stays b clamp => ?_, fun deliver inv mode last b clamp => ?_⟩
  · rw [run, ← ending]
    rcases idle with rfl | rfl <;> rfl
  · have not_deliver : w ≠ .deliver := fun deliver => by rw [deliver] at position; cases position
    rw [if_neg not_deliver] at run
    obtain ⟨own, others, places, miller, cover, nowAfter, phaseAfter, same, bytes⟩ :=
      unservedEnd_marks position other before mem rfl
    exact ⟨_, run, nowAfter.trans now, phaseAfter.trans phase, own, others, places, miller, cover, same, bytes⟩
  · subst gauge
    obtain ⟨own, others, unlocked, released, nowAfter, phaseAfter, same, bytes⟩ := unservedEnd_gauge before mem rfl
    exact ⟨_, run, nowAfter.trans now, phaseAfter.trans phase, own, others, unlocked, released, same, bytes⟩
  · subst pocket
    obtain ⟨cells, pockets, nowAfter, phaseAfter, same, bytes⟩ := unservedEnd_pocket before mem rfl
    exact ⟨_, run, nowAfter.trans now, phaseAfter.trans phase, cells, pockets, same, bytes⟩
  · subst deliver
    have drops : v.deliverUnserved = v.openClamp .toReject := by
      rw [State.deliverUnserved, clamps]
      cases place : s.clampAt 17 with
      | holding b => rw [place] at vacant; cases vacant
      | empty => rfl
      | unknown => rfl
    obtain ⟨own, others, gate, drop, stations, same', memAfter⟩ := State.dropEmpty_stays id (by rw [clamps]; exact vacant)
      (by rw [vmode, flight]; exact stays) (congrArg State.emptyingCheck drops)
    have same : SameBut [.carousel] v v.deliverUnserved.emptyingCheck := same'.sharpen fun p listed apart => by
      simp only [List.mem_cons, List.not_mem_nil, or_false] at listed apart
      rcases listed with rfl | rfl
      · exact stations
      · exact absurd rfl apart
    exact ⟨_, run, (same .now (by decide)).trans now, (same .phase (by decide)).trans phase, own,
      fun q hq => (others q hq).trans (clamps q), gate, drop, (before.trans same).mono (by decide),
      BytesBut.of_mem (memAfter.trans mem)⟩
  · subst deliver
    obtain ⟨m, marked⟩ : ∃ m, (b.markInched ⟨true, 17⟩).spoil = some m := ⟨_, rfl⟩
    have drops : v.deliverUnserved = (v.openClamp .toReject).postSpoiled (b.markInched ⟨true, 17⟩) m .deliver := by
      rw [State.deliverUnserved, clamps, clamp]
      dsimp only
      rw [Book.inched_eq, State.postBook, show (b.markInched (carouselPoint 17)).spoil = some m from marked]
      rfl
    obtain ⟨own, others, gate, drop, logged, stations, same'⟩ := State.dropPosted_stays id
      (by rw [HeldInTable, show v.sched = s.sched from before .sched (by decide)]; exact inv.2.2)
      ((clamps 17).trans clamp) (by rw [vmode, flight]; exact stays) (congrArg State.emptyingCheck drops)
    have same : SameBut [.sched, .carousel, .port] v v.deliverUnserved.emptyingCheck := same'.sharpen fun p listed apart => by
      simp only [List.mem_cons, List.not_mem_nil, or_false] at listed apart
      rcases listed with rfl | rest
      · exact stations
      · exact absurd rest apart
    refine ⟨_, run, (same .now (by decide)).trans now, (same .phase (by decide)).trans phase, own,
      fun q hq => (others q hq).trans (clamps q), gate, drop, fun m' hm => ?_, (before.trans same).mono (by decide)⟩
    cases marked.symm.trans hm
    exact logged.of_counts port
  · subst deliver
    obtain ⟨m, marked⟩ : ∃ m, (b.markInched ⟨true, 17⟩).spoil = some m := ⟨_, rfl⟩
    have drops : v.deliverUnserved = (v.openClamp .toReject).postSpoiled (b.markInched ⟨true, 17⟩) m .deliver := by
      rw [State.deliverUnserved, clamps, clamp]
      dsimp only
      rw [Book.inched_eq, State.postBook, show (b.markInched (carouselPoint 17)).spoil = some m from marked]
      rfl
    obtain ⟨entered, phaseAfter, own, others, gate, drop, causes, count, word, snapshot, cells, logged, same⟩ :=
      State.dropPosted_ends id
        (by rw [HeldInTable, show v.sched = s.sched from before .sched (by decide)]; exact inv.2.2)
        ((clamps 17).trans clamp) (by rw [vmode]; exact mode) (by rw [flight]; exact last)
        (congrArg State.emptyingCheck drops)
    refine ⟨_, run, (same .now (by decide)).trans now, ?_, phaseAfter.trans phase, own,
      fun q hq => (others q hq).trans (clamps q), gate, drop, causes.trans (by rw [vmode]), count.trans (by rw [port]), word,
      snapshot, cells.trans (by rw [show v.gathering = s.gathering from before .gathering (by decide)]),
      (same .trim (by decide)).trans (before .trim (by decide)), fun m' hm => ?_, (before.trans same).mono (by decide)⟩
    · exact entered.between (by decide) before (by decide) (by rw [vmode]) (by rw [vmode]) (by rw [vmode]) (by rw [vmode])
        (by rw [port]) (SameBut.refl [] _) (by decide) rfl rfl
    · cases marked.symm.trans hm
      exact logged.of_counts port

end Sys2Proof.Machine
end

section
/-!
The DELIVER window end at an engaged station (R7, R81 to R83, R128, R142, R160).
-/

namespace Sys2Proof.Machine

/-- A forward count whose one event is a window end at an engaged station. -/
theorem exec_forward_served {w : Window} {s : State} (only : OnlyEvent (.closes w) s) (engaged : w ∈ s.stations.engaged)
    (dt : Nat) (io : CountInputs) :
    exec (.forwardEncoderCount dt io) s =
      .next (let u := ((((s.counting dt).ending w).endWork w io).updStations (Stations.drop w)).changeover w
        if w = .deliver then u.emptyingCheck else u) := by
  have here : (s.counting dt).isEngaged w = true := by
    have stations : (s.counting dt).stations = s.stations := s.counting_same dt .stations (by decide)
    rw [State.isEngaged, stations]
    exact decide_eq_true engaged
  refine (exec_forward_only only dt io).trans (congrArg Host.Outcome.next ((State.windowEnd_eq w io _).trans ?_))
  rw [here]
  rfl

/-- A good book that finds room is appended at the opening of its clamp. -/
theorem State.deliverEnd_good {b : Book} {s : State} (clamp : s.clampAt 17 = .holding b) (good : b.spoil = none)
    (room : s.trim.queue.length < 12) :
    s.deliverEnd = ((s.openClamp .toConveyor).updTrim (Trimmer.append s.now b)).testTake := by
  have taken : b.good = true := by rw [Book.good, good]; rfl
  rw [State.deliverEnd, clamp]
  dsimp only
  rw [taken, if_pos rfl, if_pos room]
  rfl

/-- The append of a good book at the clamp that opened, nothing letting the trimmer take (R82, R128, R132). -/
theorem State.deliverEnd_appends {b : Book} {g : GaugeFormat} {s : State} (clamp : s.clampAt 17 = .holding b)
    (good : b.spoil = none) (gauged : b.gauged = some g) (room : s.trim.queue.length < 12)
    (rests : NoTake s (s.trim.queue ++ [⟨b, s.now, decide (g.setTime = 0)⟩])) :
    s.deliverEnd = (s.openClamp .toConveyor).updTrim fun t =>
      { t with
        queue := t.queue ++ [⟨b, s.now, decide (g.setTime = 0)⟩]
        infeed := if t.queue = [] then .closed else t.infeed } := by
  have time : b.setTime = g.setTime := by rw [Book.setTime, gauged]
  have append : (s.openClamp .toConveyor).updTrim (Trimmer.append s.now b) = (s.openClamp .toConveyor).updTrim fun t =>
      { t with
        queue := t.queue ++ [⟨b, s.now, decide (g.setTime = 0)⟩]
        infeed := if t.queue = [] then .closed else t.infeed } := by
    rw [show Trimmer.append s.now b = fun t => { t with
        queue := t.queue ++ [⟨b, s.now, decide (g.setTime = 0)⟩]
        infeed := if t.queue = [] then .closed else t.infeed } from by
      funext t
      rw [Trimmer.append, time]]
  rw [State.deliverEnd_good clamp good room, append]
  exact State.testTake_of_noTake _ rests

theorem State.deliverEnd_vacant {s : State} (vacant : (s.clampAt 17).isHolding = false) :
    s.deliverEnd = s.openClamp .toReject := by
  rw [State.deliverEnd]
  cases place : s.clampAt 17 with
  | holding b => rw [place] at vacant; cases vacant
  | empty => rfl
  | unknown => rfl

theorem State.deliverEnd_spoiled {b : Book} {m : SpoilMark} {s : State} (clamp : s.clampAt 17 = .holding b)
    (spoiled : b.spoil = some m) : s.deliverEnd = (s.openClamp .toReject).postSpoiled b m .deliver := by
  have bad : b.good = false := by rw [Book.good, spoiled]; rfl
  rw [State.deliverEnd, clamp]
  dsimp only
  rw [bad, if_neg (by decide), State.postBook, spoiled]

theorem State.deliverEnd_full {b : Book} {s : State} (clamp : s.clampAt 17 = .holding b) (good : b.spoil = none)
    (full : 12 ≤ s.trim.queue.length) :
    s.deliverEnd = (s.openClamp .toReject).postSpoiled { b with spoil := some ⟨.queueFull, ⟨true, 17⟩, 12, false⟩ }
      ⟨.queueFull, ⟨true, 17⟩, 12, false⟩ .deliver := by
  have taken : b.good = true := by rw [Book.good, good]; rfl
  rw [State.deliverEnd, clamp]
  dsimp only
  rw [taken, if_pos rfl, if_neg (by omega), Book.spoilWith_spoil, good]
  rfl

/-- Settles O31: what the drop at position 17 makes of the clamp, with each of its postings. -/
theorem deliverEndServed : Obligations.DeliverEndServed := by
  intro s dt io only engaged inv
  have run := exec_forward_served only engaged dt io
  have before := State.ending_same dt .deliver s
  have mem : ((s.counting dt).ending .deliver).mem = s.mem := rfl
  have now : ((s.counting dt).ending .deliver).now = s.now + dt := rfl
  generalize (s.counting dt).ending .deliver = v at *
  have line : v.line = s.line := before .line (by decide)
  have carousel : v.carousel = s.carousel := before .carousel (by decide)
  have port : v.port = s.port := before .port (by decide)
  have trim : v.trim = s.trim := before .trim (by decide)
  have clamps : ∀ q, v.clampAt q = s.clampAt q := fun q => by rw [State.clampAt, State.clampAt, carousel]
  have flight : v.inFlight = s.inFlight :=
    State.inFlight_congr (congrArg Gathering.cells (before .gathering (by decide))) (congrArg Carousel.places carousel) trim
  have held : HeldInTable v := by
    rw [HeldInTable, show v.sched = s.sched from before .sched (by decide)]
    exact inv.2.2
  change exec (.forwardEncoderCount dt io) s =
    .next ((v.deliverEnd.updStations (Stations.drop .deliver)).emptyingCheck) at run
  refine ⟨fun b clamp good g gauged room rests => ?_, fun vacant stays => ?_, fun b clamp good full => ?_,
    fun b m clamp spoiled stays => ?_, fun b m clamp spoiled mode last => ?_⟩
  · obtain ⟨own, others, gate, drop, same, memOpen⟩ := v.openClamp_effect .toConveyor
    rw [State.deliverEnd_appends ((clamps 17).trans clamp) good gauged (by rw [trim]; exact room)
      (by rw [NoTake, line, trim, now]; exact rests)] at run
    generalize v.openClamp .toConveyor = o at *
    have queue : o.trim = s.trim := (same .trim (by decide)).trans trim
    rw [State.emptyingCheck_stays fun _ none_left => by
      rw [State.inFlight_eq] at none_left
      simp at none_left] at run
    refine ⟨_, run, (same .now (by decide)).trans now, ?_, own, fun q hq => (others q hq).trans (clamps q), gate, drop, ?_,
      BytesBut.of_mem (memOpen.trans mem)⟩
    · rw [← queue, ← now]
      rfl
    · refine ((before.trans same).trans (w := [.stations, .trim]) fun q hq => ?_).mono (by decide)
      cases q <;> simp [Part.same] at hq ⊢
  · rw [State.deliverEnd_vacant (by rw [clamps]; exact vacant)] at run
    obtain ⟨own, others, gate, drop, -, same, memAfter⟩ := State.dropEmpty_stays (Stations.drop .deliver)
      (by rw [clamps]; exact vacant) (by rw [line, flight]; exact stays) rfl
    exact ⟨_, run, (same .now (by decide)).trans now, own, fun q hq => (others q hq).trans (clamps q), gate, drop,
      (before.trans same).mono (by decide), BytesBut.of_mem (memAfter.trans mem)⟩
  · rw [State.deliverEnd_full ((clamps 17).trans clamp) good (by rw [trim]; exact full)] at run
    obtain ⟨own, others, -, drop, logged, -, same⟩ := State.dropPosted_stays (Stations.drop .deliver) held
      ((clamps 17).trans clamp) (fun _ one => by
        rw [State.inFlight_eq, trim] at one
        omega) rfl
    obtain ⟨count, -, serial, code, -, posting, -⟩ := logged.of_counts port
    exact ⟨_, run, (same .now (by decide)).trans now, own, fun q hq => (others q hq).trans (clamps q), drop,
      (same .trim (by decide)).trans trim, (same .cache (by decide)).trans (before .cache (by decide)),
      (same .gathering (by decide)).trans (before .gathering (by decide)), count, serial, code, posting⟩
  · rw [State.deliverEnd_spoiled ((clamps 17).trans clamp) spoiled] at run
    obtain ⟨own, others, gate, drop, logged, -, same⟩ := State.dropPosted_stays (Stations.drop .deliver) held
      ((clamps 17).trans clamp) (by rw [line, flight]; exact stays) rfl
    exact ⟨_, run, (same .now (by decide)).trans now, own, fun q hq => (others q hq).trans (clamps q), gate, drop,
      logged.of_counts port, (before.trans same).mono (by decide)⟩
  · rw [State.deliverEnd_spoiled ((clamps 17).trans clamp) spoiled] at run
    obtain ⟨entered, -, own, others, gate, drop, causes, count, word, snapshot, cells, logged, same⟩ :=
      State.dropPosted_ends (Stations.drop .deliver) held ((clamps 17).trans clamp) (by rw [line]; exact mode)
        (by rw [flight]; exact last) rfl
    refine ⟨_, run, (same .now (by decide)).trans now, ?_, own, fun q hq => (others q hq).trans (clamps q), gate, drop,
      causes.trans (by rw [line]), count.trans (by rw [port]), word, snapshot,
      cells.trans (congrArg Gathering.cells (before .gathering (by decide))), (same .trim (by decide)).trans trim,
      logged.of_counts port, (before.trans same).mono (by decide)⟩
    exact entered.between (by decide) before (by decide) (by rw [line]) (by rw [line]) (by rw [line]) (by rw [line])
      (by rw [port]) (SameBut.refl [] _) (by decide) rfl rfl

end Sys2Proof.Machine
end

section
/-!
The hand-over at LOAD and the nip (R7, R71, R75, R77, R79, R125).
-/

namespace Sys2Proof.Machine

/-! ### Window starts at a line in an acting mode (R7, R12) -/

/-- A station engaged at its window start (R12). -/
def State.engaging (w : Window) (s : State) : State :=
  (s.starting w).updStations fun x => { x with engaged := w :: x.engaged }

theorem State.engaging_same (dt : Nat) (w : Window) (s : State) :
    SameBut [.now, .phase, .stations] s ((s.counting dt).engaging w) := by
  have engaged : SameBut [.phase, .stations] (s.counting dt) ((s.counting dt).engaging w) := fun p hp => by
    cases p <;> simp [Part.same, State.engaging, State.starting] at hp ⊢
  exact ((s.counting_same dt).trans engaged).mono (by decide)

theorem State.engaging_stations (dt : Nat) (w : Window) (s : State) :
    ((s.counting dt).engaging w).stations = { s.stations with engaged := w :: s.stations.engaged } := rfl

/-- A forward count whose one event is a window start, in an acting mode, at a station without use points or demand. -/
theorem exec_forward_started {w : Window} {s : State} (only : OnlyEvent (.opens w) s) (acting : s.line.mode.acting = true)
    (plain : w ≠ .pocket ∧ w ≠ .launch) (dt : Nat) (io : CountInputs) :
    exec (.forwardEncoderCount dt io) s = .next (((s.counting dt).engaging w).startWork w io) := by
  have line : (s.counting dt).line = s.line := s.counting_same dt .line (by decide)
  refine (exec_forward_only only dt io).trans (congrArg Host.Outcome.next ((State.windowStart_eq w io _).trans ?_))
  rw [line, acting, if_pos rfl, State.opened, if_neg plain.1, if_neg plain.2, line, acting]
  rfl

/-! ### The book a station takes up (R77) -/

theorem State.serve_effect (w : Window) (s : State) :
    (∀ v, v ∈ (s.serve w).stations.serving ↔ v = w ∨ v ∈ s.stations.serving) ∧
      (s.serve w).stations.engaged = s.stations.engaged ∧ SameBut [.stations] s (s.serve w) ∧ (s.serve w).mem = s.mem := by
  refine ⟨fun v => ?_, rfl, fun p hp => (by cases p <;> simp [Part.same, State.serve] at hp ⊢), rfl⟩
  change v ∈ w :: s.stations.serving.filter _ ↔ _
  rw [List.mem_cons, List.mem_filter, decide_eq_true_eq]
  by_cases same : v = w
  · simp [same]
  · simp [same]

theorem Stations.mem_drop (v w : Window) (x : Stations) : v ∈ (x.drop w).engaged ↔ v ≠ w ∧ v ∈ x.engaged := by
  rw [Stations.drop, List.mem_filter, decide_eq_true_eq, and_comm]

theorem SameBut.updStations (f : Stations → Stations) (s : State) : SameBut [.stations] s (s.updStations f) := fun p hp => by
  cases p <;> simp [Part.same] at hp ⊢

theorem SameBut.updCover (f : CoverStation → CoverStation) (s : State) : SameBut [.cover] s (s.updCover f) := fun p hp => by
  cases p <;> simp [Part.same] at hp ⊢

/-! ### LOAD (R71, R75) -/

/-- A place handed over at LOAD: a clamp takes its number, or is UNKNOWN; the cell goes empty. -/
theorem State.handOver_effect (x : Slot) (s : State) {t : State} (ht : t = (s.setClamp 0 x).setCell 17 .empty) :
    t.cell 17 = .empty ∧ t.clampAt 0 = x ∧ (∀ p : Fin 18, p ≠ 17 → t.cell p = s.cell p) ∧
      (∀ p : Fin 24, p ≠ 0 → t.clampAt p = s.clampAt p) ∧
      (∀ p : Fin 24, t.carousel.places[p].number = s.carousel.places[p].number) ∧
      t.carousel = { s.carousel with places := t.carousel.places } ∧ t.gathering.pockets = s.gathering.pockets ∧
      SameBut [.gathering, .carousel] s t ∧ t.mem = s.mem := by
  obtain ⟨own, others, numbers, places, same, mem⟩ := s.setClamp_effect 0 x
  obtain ⟨ownCell, otherCells, pockets, sameCell, memCell⟩ := (s.setClamp 0 x).setCell_effect 17 .empty
  rw [← ht] at ownCell otherCells pockets sameCell memCell
  generalize s.setClamp 0 x = u at *
  have carousel : t.carousel = u.carousel := sameCell .carousel (by decide)
  have gathering : u.gathering = s.gathering := same .gathering (by decide)
  refine ⟨ownCell, by rw [State.clampAt, carousel]; exact own, fun p hp => (otherCells p hp).trans ?_, fun p hp => ?_,
    by rw [carousel]; exact numbers, by rw [carousel]; exact places, by rw [pockets, gathering],
    (same.trans sameCell).mono (by decide), memCell.trans mem⟩
  · rw [State.cell, State.cell, gathering]
  · rw [State.clampAt, carousel]
    exact others p hp

theorem State.loadTransfer_effect (s : State) {t : State} (ht : t = s.loadTransfer) :
    t.cell 17 = .empty ∧
      t.clampAt 0 =
        (match s.cell 17 with
         | .holding b => .holding { b with clamp := some s.carousel.places[(0 : Fin 24)].number }
         | .unknown => .unknown
         | .empty => s.clampAt 0) ∧
      (∀ p : Fin 18, p ≠ 17 → t.cell p = s.cell p) ∧ (∀ p : Fin 24, p ≠ 0 → t.clampAt p = s.clampAt p) ∧
      (∀ p : Fin 24, t.carousel.places[p].number = s.carousel.places[p].number) ∧
      t.carousel = { s.carousel with places := t.carousel.places } ∧ t.gathering.pockets = s.gathering.pockets ∧
      SameBut [.gathering, .carousel] s t ∧ t.mem = s.mem := by
  unfold State.loadTransfer at ht
  cases place : s.cell 17 with
  | holding b =>
    rw [place] at ht
    exact s.handOver_effect _ ht
  | unknown =>
    rw [place] at ht
    exact s.handOver_effect _ ht
  | empty =>
    rw [place] at ht
    subst ht
    exact ⟨place, rfl, fun _ _ => rfl, fun _ _ => rfl, fun _ => rfl, rfl, rfl, SameBut.refl _ _, rfl⟩

/-! ### The nip (R125) -/

theorem State.nipStart_good {b : Book} {s : State} (clamp : s.clampAt 10 = .holding b) (good : b.spoil = none) :
    s.nipStart = (s.serve .nip).updCover fun c => { c with nipClosed := b.covered } := by
  have taken : b.good = true := by rw [Book.good, good]; rfl
  rw [State.nipStart, clamp]
  exact if_pos taken

/-- The nip's window end at a book: it opens, and a book it serves is nipped (R79). -/
theorem State.nipEnd_effect {b : Book} {s t : State} (clamp : s.clampAt 10 = .holding b) (ht : t = s.nipEnd) :
    t.clampAt 10 = .holding { b with nipped := b.nipped || decide (.nip ∈ s.stations.serving) } ∧
      (∀ q : Fin 24, q ≠ 10 → t.clampAt q = s.clampAt q) ∧ t.carousel = { s.carousel with places := t.carousel.places } ∧
      t.cover = { s.cover with nipClosed := false } ∧ SameBut [.carousel, .cover] s t ∧ t.mem = s.mem := by
  rw [State.nipEnd] at ht
  cases serving : s.isServing .nip with
  | false =>
    rw [serving, if_neg (by decide)] at ht
    have same := SameBut.updCover (fun c => { c with nipClosed := false }) s
    rw [← ht] at same
    have carousel : t.carousel = s.carousel := same .carousel (by decide)
    have served : decide (Window.nip ∈ s.stations.serving) = false := serving
    refine ⟨?_, fun q _ => by rw [State.clampAt, State.clampAt, carousel], by rw [carousel], by rw [ht]; rfl,
      same.mono (by decide), by rw [ht]; rfl⟩
    rw [served, Bool.or_false, State.clampAt, carousel]
    exact clamp
  | true =>
    rw [serving, if_pos rfl] at ht
    obtain ⟨own, others, -, places, sameMark, mem⟩ := s.modClamp_effect 10 fun b => { b with nipped := true }
    generalize s.modClamp 10 (fun b => { b with nipped := true }) = u at *
    have same := SameBut.updCover (fun c => { c with nipClosed := false }) u
    rw [← ht] at same
    have carousel : t.carousel = u.carousel := same .carousel (by decide)
    have cover : u.cover = s.cover := sameMark .cover (by decide)
    have served : decide (Window.nip ∈ s.stations.serving) = true := serving
    refine ⟨?_, fun q hq => ?_, by rw [carousel]; exact places, ?_, (sameMark.trans same).mono (by decide),
      (by rw [ht]; rfl : t.mem = u.mem).trans mem⟩
    · rw [served, Bool.or_true, State.clampAt, carousel]
      exact own.trans (by rw [clamp]; rfl)
    · rw [State.clampAt, carousel]
      exact others q hq
    · rw [← cover, ht]
      rfl

/-- Settles O24: the work of the one window event. -/
theorem loadAndNip : Obligations.LoadAndNip := by
  refine ⟨fun s dt io only engaged => ?_, fun s dt io only acting b clamp good => ?_,
    fun s dt io only engaged b clamp => ?_⟩
  · have run := exec_forward_served only engaged dt io
    have before := State.ending_same dt .load s
    have phase := State.ending_phase only.2.1 dt .load
    have mem : ((s.counting dt).ending .load).mem = s.mem := rfl
    have now : ((s.counting dt).ending .load).now = s.now + dt := rfl
    generalize (s.counting dt).ending .load = v at *
    have cells : ∀ p, v.cell p = s.cell p := fun p => by
      rw [State.cell, State.cell, show v.gathering = s.gathering from before .gathering (by decide)]
    have carousel : v.carousel = s.carousel := before .carousel (by decide)
    have stations : v.stations = s.stations := before .stations (by decide)
    have clamps : ∀ p, v.clampAt p = s.clampAt p := fun p => by rw [State.clampAt, State.clampAt, carousel]
    change exec (.forwardEncoderCount dt io) s = .next (v.loadTransfer.updStations (Stations.drop .load)) at run
    obtain ⟨own, clamp, others, otherClamps, numbers, places, pockets, same, memAfter⟩ := v.loadTransfer_effect rfl
    generalize v.loadTransfer = u at *
    have dropped := SameBut.updStations (Stations.drop .load) u
    have was : u.stations = s.stations := (same .stations (by decide)).trans stations
    refine ⟨_, run, (same .now (by decide)).trans now, own, ?_, fun p hp => (others p hp).trans (cells p),
      fun p hp => (otherClamps p hp).trans (clamps p), fun p => (numbers p).trans (by rw [carousel]), ?_,
      pockets.trans (congrArg Gathering.pockets (before .gathering (by decide))), ?_, ?_,
      (same .phase (by decide)).trans phase, ((before.trans same).trans dropped).mono (by decide),
      BytesBut.of_mem (memAfter.trans mem)⟩
    · refine clamp.trans ?_
      rw [cells, clamps, carousel] <;> cases s.cell 17 <;> rfl
    · rw [← carousel]
      exact places
    · rw [← was]
      rfl
    · rw [← was]
      rfl
  · have run := exec_forward_started only acting (by decide) dt io
    have before := State.engaging_same dt .nip s
    have stations := State.engaging_stations dt .nip s
    have mem : ((s.counting dt).engaging .nip).mem = s.mem := rfl
    have now : ((s.counting dt).engaging .nip).now = s.now + dt := rfl
    generalize (s.counting dt).engaging .nip = v at *
    have cover : v.cover = s.cover := before .cover (by decide)
    have carousel : v.carousel = s.carousel := before .carousel (by decide)
    rw [show v.startWork .nip io = v.nipStart from rfl,
      State.nipStart_good (by rw [State.clampAt, carousel]; exact clamp) good] at run
    obtain ⟨serving, engaged, same, memServe⟩ := v.serve_effect .nip
    generalize v.serve .nip = u at *
    have covered := SameBut.updCover (fun c => { c with nipClosed := b.covered }) u
    have wasCover : u.cover = s.cover := (same .cover (by decide)).trans cover
    refine ⟨_, run, (same .now (by decide)).trans now, ?_, engaged.trans (by rw [stations]), fun w => ?_,
      ((before.trans same).trans covered).mono (by decide), BytesBut.of_mem (memServe.trans mem)⟩
    · rw [← wasCover]
      rfl
    · refine (serving w).trans ?_
      rw [stations]
  · have run := exec_forward_served only engaged dt io
    have before := State.ending_same dt .nip s
    have mem : ((s.counting dt).ending .nip).mem = s.mem := rfl
    have now : ((s.counting dt).ending .nip).now = s.now + dt := rfl
    generalize (s.counting dt).ending .nip = v at *
    have carousel : v.carousel = s.carousel := before .carousel (by decide)
    have stations : v.stations = s.stations := before .stations (by decide)
    have clamps : ∀ p, v.clampAt p = s.clampAt p := fun p => by rw [State.clampAt, State.clampAt, carousel]
    change exec (.forwardEncoderCount dt io) s = .next (v.nipEnd.updStations (Stations.drop .nip)) at run
    obtain ⟨own, others, places, cover, same, memAfter⟩ := State.nipEnd_effect ((clamps 10).trans clamp) (t := v.nipEnd) rfl
    generalize v.nipEnd = u at *
    have dropped := SameBut.updStations (Stations.drop .nip) u
    have was : u.stations = s.stations := (same .stations (by decide)).trans stations
    refine ⟨_, run, (same .now (by decide)).trans now, cover.trans ?_, own.trans ?_,
      fun p hp => (others p hp).trans (clamps p), ?_, fun w => ?_, ((before.trans same).trans dropped).mono (by decide),
      BytesBut.of_mem (memAfter.trans mem)⟩
    · rw [show v.cover = s.cover from before .cover (by decide)]
    · rw [stations]
    · rw [← carousel]
      exact places
    · rw [State.updStations_stations, was]
      exact Stations.mem_drop w .nip s.stations

end Sys2Proof.Machine
end

section
/-!
GAUGE (R7, R90 to R101): the sequence, the values formed from it, the lock released.
-/

namespace Sys2Proof.Machine

/-! ### The values formed (R93 to R100) -/

/-- A spoil mark on a book without one. -/
theorem Book.spoilWith_good {b : Book} (good : b.spoil = none) (code : SpoilCode) (point : DetectionPoint) (detail : Word)
    (r : Bool) : b.spoilWith code point detail r = { b with spoil := some ⟨code, point, detail, r⟩ } := by
  rw [Book.spoilWith_spoil, good, Option.getD_none]

theorem roundGrid_50_spec (x : Nat) :
    roundGrid 50 x % 50 = 0 ∧ 2 * roundGrid 50 x ≤ 2 * x + 50 ∧ 2 * x < 2 * roundGrid 50 x + 50 := by
  unfold roundGrid
  omega

theorem measuredThickness_int (c : Settings) (q : GaugeSeq) :
    (measuredThickness c q : Int) = max 0 ((q.sum : Int) - q.m * c.gaugeZero) * c.gaugeSpan / (1024 * q.m) := by
  have difference : ((q.sum - q.m * c.gaugeZero : Nat) : Int) = max 0 ((q.sum : Int) - q.m * c.gaugeZero) := by
    rw [show (q.m : Int) * c.gaugeZero = ((q.m * c.gaugeZero : Nat) : Int) by push_cast; rfl]
    omega
  rw [measuredThickness]
  push_cast
  rw [difference]

/-- The offsets of the glue line are the ones the bounds of R98 name. -/
theorem glueOpenOffset_eq {c : Settings} {r : JobRecord} {o : Nat} (low : r.glueMargin * 4096 ≤ o * c.pitch)
    (high : o * c.pitch < r.glueMargin * 4096 + c.pitch) : glueOpenOffset c r = o := by
  rw [glueOpenOffset, ceilDiv]
  have pitch : 0 < c.pitch := Nat.pos_of_ne_zero fun zero => by
    rw [zero] at low high
    omega
  refine Nat.div_eq_of_lt_le ?_ ?_
  · omega
  · rw [Nat.add_mul]
    omega

theorem glueCloseOffset_eq {c : Settings} {r : JobRecord} {e : Nat} (low : e * c.pitch ≤ (r.height - r.glueMargin) * 4096)
    (high : (r.height - r.glueMargin) * 4096 < (e + 1) * c.pitch) : glueCloseOffset c r = e := Nat.div_eq_of_lt_le low high

theorem gap_lt_iff (n x y : Nat) : n < gap x y ↔ (n : Int) < (x : Int) - y ∨ (n : Int) < (y : Int) - x := by
  unfold gap
  omega

theorem gap_abs (x y : Nat) : (gap x y : Int) = |(x : Int) - y| := by
  unfold gap
  rcases Nat.le_total x y with h | h
  · rw [abs_of_nonpos (by omega)]
    omega
  · rw [abs_of_nonneg (by omega)]
    omega

/-! ### The checks (R95, R97, R98) -/

/-- What the thickness check leaves, and the mark it sets on a book without one. -/
theorem checkThickness_effect {r : JobRecord} {g : GaugeFormat} {b : Book} {l : LaunchFormat} (launched : b.atLaunch = some l)
    (good : b.spoil = none) :
    checkThickness r g b = { b with
      spoil := if thickTolerance l.tExp r.tolerance < gap g.tMeas l.tExp then
        some ⟨.thickMismatch, ⟨true, 2⟩, word32 l.tExp, false⟩ else none } := by
  have judged : checkThickness r g b = if thickTolerance l.tExp r.tolerance < gap g.tMeas l.tExp then
      b.spoilWith .thickMismatch (carouselPoint 2) (word32 l.tExp) false else b := by
    unfold checkThickness
    rw [launched]
  rw [judged]
  split
  · exact Book.spoilWith_good good _ _ _ _
  · rw [← good]

theorem checkCover_effect (r : JobRecord) (g : GaugeFormat) (b : Book) :
    checkCover r g b = { b with
      spoil := (match g.cover with
        | some k => if coverTooShort r.coverWidth k.scores then
            some (b.spoil.getD ⟨.coverShort, ⟨true, 2⟩, word32 k.spine, false⟩) else b.spoil
        | none => b.spoil)
      warnings := (match g.cover with
        | some k => if r.driftLimit < gap k.spine r.designSpine then { b.warnings with spineDrift := true } else b.warnings
        | none => b.warnings) } := by
  unfold checkCover
  cases g.cover with
  | none => rfl
  | some k =>
    dsimp only
    rw [Book.spoilWith_spoil]
    by_cases short : coverTooShort r.coverWidth k.scores = true <;>
      by_cases drift : r.driftLimit < gap k.spine r.designSpine <;>
      simp only [short, drift, if_true, if_false, Bool.false_eq_true] <;> rfl

theorem checkClipping_effect (c : Settings) (r : JobRecord) (g : GaugeFormat) (b : Book) :
    checkClipping c r g b = { b with
      warnings := if glueClipped c r g then { b.warnings with glueClipped := true } else b.warnings } := by
  unfold checkClipping
  split <;> rfl

/-- The book at a served GAUGE end with two conversions or more. -/
theorem formatBook_formed {c : Settings} {r : JobRecord} {q : GaugeSeq} {b : Book} {l : LaunchFormat}
    (launched : b.atLaunch = some l) (good : b.spoil = none) (enough : 2 ≤ q.m) {g : GaugeFormat}
    (hg : g = gaugeFormat c r b.mode (measuredThickness c q)) :
    formatBook c r q b = { b with
      conversions := some q.m
      gauged := some g
      spoil :=
        (if thickTolerance l.tExp r.tolerance < gap g.tMeas l.tExp then
          some ⟨.thickMismatch, ⟨true, 2⟩, word32 l.tExp, false⟩
         else match g.cover with
          | some k => if coverTooShort r.coverWidth k.scores then
              some ⟨.coverShort, ⟨true, 2⟩, word32 k.spine, false⟩ else none
          | none => none)
      warnings := { b.warnings with
        spineDrift := (match g.cover with
          | some k => b.warnings.spineDrift || decide (r.driftLimit < gap k.spine r.designSpine)
          | none => b.warnings.spineDrift)
        glueClipped := b.warnings.glueClipped || glueClipped c r g } } := by
  have whole : formatBook c r q b =
      checkClipping c r g (checkCover r g (checkThickness r g { b with conversions := some q.m, gauged := some g })) := by
    rw [hg]
    exact if_neg (by omega)
  rw [whole, checkThickness_effect (b := { b with conversions := some q.m, gauged := some g }) launched good,
    checkCover_effect, checkClipping_effect]
  by_cases thick : thickTolerance l.tExp r.tolerance < gap g.tMeas l.tExp <;> cases g.cover with
  | none => cases glueClipped c r g <;> simp [thick]
  | some k =>
    cases glueClipped c r g <;> by_cases drift : r.driftLimit < gap k.spine r.designSpine <;>
      by_cases short : coverTooShort r.coverWidth k.scores = true <;> simp [thick, drift, short]

theorem glueClipped_iff (c : Settings) (r : JobRecord) (g : GaugeFormat) :
    glueClipped c r g = true ↔
      g.spineOpen ≠ c.leadSpine + glueOpenOffset c r ∨ g.spineClose ≠ c.leadSpine + glueCloseOffset c r ∨
        g.sideOpen ≠ c.leadSide + glueOpenOffset c r ∨ g.sideClose ≠ c.leadSide + glueCloseOffset c r := by
  unfold glueClipped
  simp only [Bool.or_eq_true, decide_eq_true_eq, or_assoc]

theorem coverTooShort_iff (coverWidth : Nat) (x : ScoreSet) :
    coverTooShort coverWidth x = true ↔ x.h1 < 10000 ∨ (coverWidth : Int) - 10000 < x.h2 := by
  unfold coverTooShort
  rw [Bool.or_eq_true, decide_eq_true_eq, decide_eq_true_eq]

/-- Settles O26: each formula is the model's own in other arithmetic. -/
theorem gaugeFormulas : Obligations.GaugeFormulas := by
  intro c r q b l launched good plain margin
  refine ⟨fun few => ?_, fun enough => ?_⟩
  · have whole : formatBook c r q b =
        ({ b with conversions := some q.m } : Book).spoilWith .gaugeFail (carouselPoint 2) (word32 q.m) false := if_pos few
    have detail : word32 q.m = BitVec.ofNat 32 q.m := if_pos (by omega)
    rw [whole, Book.spoilWith_good (b := { b with conversions := some q.m }) good, detail]
    rfl
  · obtain ⟨g, hg⟩ : ∃ g, g = gaugeFormat c r b.mode (measuredThickness c q) := ⟨_, rfl⟩
    have formed := formatBook_formed launched good enough hg
    have mode : b.mode = l.mode := by rw [Book.mode, launched]
    have cover : g.cover = if l.mode = .noCover then none
        else some ⟨spineWidth g.tMeas r.allowance, scoreSet r.coverWidth (spineWidth g.tMeas r.allowance) r.hinge⟩ := by
      rw [hg, ← mode]
      rfl
    refine ⟨g, by rw [formed], by rw [formed], by rw [hg]; exact measuredThickness_int c q, ?_, fun k hk => ?_,
      fun o e lowOpen highOpen lowClose highClose => ?_, by rw [hg]; rfl, by rw [hg]; rfl, by rw [hg]; rfl, by rw [hg]; rfl,
      by rw [hg]; rfl, by rw [hg]; rfl, by rw [hg]; rfl, ?_, by rw [formed, plain], ?_⟩
    · rw [cover]
      split <;> simp [*]
    · rw [cover] at hk
      by_cases bare : l.mode = .noCover
      · rw [if_pos bare] at hk
        cases hk
      · rw [if_neg bare] at hk
        cases hk
        obtain ⟨grid, low, high⟩ := roundGrid_50_spec (g.tMeas + r.allowance)
        exact ⟨grid, low, high, rfl, rfl, rfl, rfl⟩
    · have opens := glueOpenOffset_eq lowOpen highOpen
      have closes := glueCloseOffset_eq lowClose highClose
      have clip : ∀ (w : Span) (x : Nat), clipTo w x = max w.first (min w.last x) := fun w x => by
        rw [clipTo, Nat.min_comm]
      refine ⟨?_, ?_, ?_, ?_, ?_⟩
      · rw [hg, ← opens, ← clip]
        rfl
      · rw [hg, ← closes, ← clip]
        rfl
      · rw [hg, ← opens, ← clip]
        rfl
      · rw [hg, ← closes, ← clip]
        rfl
      · rw [formed, plain, ← opens, ← closes, ← glueClipped_iff]
        simp only [Bool.false_or]
    · rw [formed, plain]
      cases g.cover with
      | none => simp
      | some k =>
        simp only [Bool.false_or, decide_eq_true_eq, Option.mem_def, Option.some.injEq, exists_eq_left']
        exact gap_lt_iff _ _ _
    · have thick : thickTolerance l.tExp r.tolerance < gap g.tMeas l.tExp ↔
          (max 250 (l.tExp * r.tolerance / 1000) : Int) < |(g.tMeas : Int) - l.tExp| := by
        rw [← gap_abs, thickTolerance]
        exact ⟨fun h => by exact_mod_cast h, fun h => by exact_mod_cast h⟩
      rw [formed]
      dsimp only
      refine if_congr thick rfl ?_
      cases g.cover with
      | none => rfl
      | some k => exact if_congr (coverTooShort_iff _ _) rfl rfl

/-! ### A lock released at an entry that is not stale (R44, R51) -/

theorem JobCache.occupancy_set {e : Fin 16} {x : CacheEntry} (c : JobCache)
    (state : x.state = .empty ↔ c.entries[e].state = .empty) :
    ({ c with entries := c.entries.set e x } : JobCache).occupancy = c.occupancy := by
  have place : e.val < c.entries.toList.length := by simp
  have counted : decide (c.entries[e].state ≠ .empty) = true →
      0 < c.entries.toList.countP fun y => decide (y.state ≠ .empty) := fun h =>
    List.countP_pos_iff.mpr ⟨c.entries[e], by simp [Fin.getElem_fin], h⟩
  rw [JobCache.occupancy, JobCache.occupancy, ← List.countP_eq_length_filter, ← List.countP_eq_length_filter,
    Vector.toList_set, List.countP_set place, Vector.getElem_toList]
  have same : decide (x.state ≠ .empty) = decide (c.entries[e].state ≠ .empty) := decide_eq_decide.mpr (not_congr state)
  change _ - (if decide (c.entries[e].state ≠ .empty) = true then 1 else 0) +
    (if decide (x.state ≠ .empty) = true then 1 else 0) = _
  rw [same]
  by_cases h : decide (c.entries[e].state ≠ .empty) = true
  · have := counted h
    rw [if_pos h]
    omega
  · rw [if_neg h]
    omega

/-- An entry that stays EMPTY, or stays taken, writes no occupancy. -/
theorem State.setEntry_quiet {e : Fin 16} {x : CacheEntry} {s : State}
    (state : x.state = .empty ↔ s.cache.entries[e].state = .empty) : (s.setEntry e x).mem = s.mem := by
  have quiet : (s.updCache fun c => { c with entries := c.entries.set e x }).cache.occupancy = s.cache.occupancy :=
    JobCache.occupancy_set s.cache state
  unfold State.setEntry State.changeCache
  dsimp only
  rw [if_pos quiet]
  rfl

theorem State.setEntry_mem {e : Fin 16} {x : CacheEntry} {s : State} (state : x.state = s.cache.entries[e].state) :
    (s.setEntry e x).mem = s.mem := State.setEntry_quiet (by rw [state])

theorem State.dropLock_fresh {e : Fin 16} {s : State} (fresh : s.cache.entries[e].stale = false) :
    (s.dropLock e).cache.entries[e] = { s.cache.entries[e] with locks := s.cache.entries[e].locks - 1 } ∧
      (∀ f : Fin 16, f ≠ e → (s.dropLock e).cache.entries[f] = s.cache.entries[f]) ∧ SameBut [.cache] s (s.dropLock e) ∧
      (s.dropLock e).mem = s.mem := by
  have drop : s.dropLock e = s.setEntry e { s.cache.entries[e] with locks := s.cache.entries[e].locks - 1 } := by
    unfold State.dropLock
    dsimp only
    rw [if_neg fun h => by rw [fresh] at h; cases h.1]
  obtain ⟨entry, others, -, -, same, -⟩ :=
    s.setEntry_effect e { s.cache.entries[e] with locks := s.cache.entries[e].locks - 1 }
  rw [drop]
  exact ⟨entry, others, same, State.setEntry_mem rfl⟩

/-! ### The window (R90 to R92, R101) -/

theorem State.gaugeStart_idle {b : Book} {s : State} (clamp : s.clampAt 2 = .holding b) (good : b.spoil = none)
    (idle : s.format.converter.doing = .idle) :
    s.gaugeStart = (s.serve .gauge).updFormat fun f =>
      ⟨{ f.converter with doing := .gauge, outstanding := 3, kept := true, endsAt := s.now + 25 }, some ⟨0, 0⟩⟩ := by
  have taken : b.good = true := by rw [Book.good, good]; rfl
  have request : s.format.converter.gaugeRequest s.now =
      { s.format.converter with doing := .gauge, outstanding := 3, kept := true, endsAt := s.now + 25 } := by
    rw [Converter.gaugeRequest, idle]
    rfl
  rw [State.gaugeStart, clamp]
  dsimp only
  rw [if_pos taken]
  exact congrArg (fun c => (s.serve .gauge).updFormat fun _ => ⟨c, some ⟨0, 0⟩⟩) request

theorem Converter.sequenceEnd_outstanding (c : Converter) :
    c.sequenceEnd.outstanding = if c.doing = .idle then c.outstanding else 0 := by
  unfold Converter.sequenceEnd
  cases c.doing <;> rfl

theorem SameBut.updFormat (f : FormatUnit → FormatUnit) (s : State) : SameBut [.format] s (s.updFormat f) := fun p hp => by
  cases p <;> simp [Part.same] at hp ⊢

theorem formatBook_entry (c : Settings) (r : JobRecord) (q : GaugeSeq) (b : Book) : (formatBook c r q b).entry = b.entry := by
  have thickness : ∀ (g : GaugeFormat) (x : Book), (checkThickness r g x).entry = x.entry := fun g x => by
    unfold checkThickness
    cases x.atLaunch with
    | none => rfl
    | some l =>
      dsimp only
      split
      · rw [Book.spoilWith_spoil]
      · rfl
  unfold formatBook
  dsimp only
  split
  · rw [Book.spoilWith_spoil]
  · rw [checkClipping_effect, checkCover_effect]
    exact thickness _ _

/-- An engaged end of a served book whose entry is not stale. -/
theorem State.gaugeEnd_served {s t : State} {b : Book} {e : Fin 16} {r : JobRecord} {q : GaugeSeq}
    (serving : .gauge ∈ s.stations.serving) (clamp : s.clampAt 2 = .holding b) (entry : b.entry = some e)
    (copy : s.cache.entries[e].copy = some r) (fresh : s.cache.entries[e].stale = false) (sequence : s.format.gauge = some q)
    (ht : t = s.gaugeEnd) :
    t.clampAt 2 = .holding { formatBook s.config.settings r q b with entry := none } ∧
      (∀ p : Fin 24, p ≠ 2 → t.clampAt p = s.clampAt p) ∧ t.format = s.format.endSequence ∧
      t.cache.entries[e] = { s.cache.entries[e] with locks := s.cache.entries[e].locks - 1 } ∧
      (∀ f : Fin 16, f ≠ e → t.cache.entries[f] = s.cache.entries[f]) ∧ SameBut [.cache, .carousel, .format] s t ∧
      t.mem = s.mem := by
  have job : s.jobCopy b = some r := by rw [State.jobCopy, entry]; exact copy
  have whole : s.gaugeEnd =
      ((s.updFormat FormatUnit.endSequence).setClamp 2 (.holding (formatBook s.config.settings r q b))).releaseClamp 2 := by
    have served : s.isServing .gauge = true := decide_eq_true serving
    unfold State.gaugeEnd
    simp only [served, if_true, clamp, job, sequence, Option.getD_some]
  rw [whole] at ht
  have ended := SameBut.updFormat FormatUnit.endSequence s
  have format : (s.updFormat FormatUnit.endSequence).format = s.format.endSequence := rfl
  have memEnded : (s.updFormat FormatUnit.endSequence).mem = s.mem := rfl
  generalize s.updFormat FormatUnit.endSequence = u at *
  obtain ⟨own, others, -, -, sameSet, memSet⟩ := u.setClamp_effect 2 (.holding (formatBook s.config.settings r q b))
  generalize u.setClamp 2 (.holding (formatBook s.config.settings r q b)) = v at *
  have release : v.releaseClamp 2 =
      (v.modClamp 2 fun b => { b with entry := none }).dropLock e := by
    rw [State.releaseClamp, own]
    dsimp only
    rw [State.freeLock, formatBook_entry, entry]
  obtain ⟨ownLast, othersLast, -, -, sameLast, memLast⟩ := v.modClamp_effect 2 fun b => { b with entry := none }
  rw [release] at ht
  generalize v.modClamp 2 (fun b => { b with entry := none }) = w at *
  have cache : w.cache = s.cache :=
    (sameLast .cache (by decide)).trans ((sameSet .cache (by decide)).trans (ended .cache (by decide)))
  obtain ⟨lock, locks, sameDrop, memDrop⟩ := State.dropLock_fresh (s := w) (e := e) (by rw [cache]; exact fresh)
  rw [← ht] at lock locks sameDrop memDrop
  have carousel : t.carousel = w.carousel := sameDrop .carousel (by decide)
  refine ⟨?_, fun p hp => ?_, ?_, by rw [lock, cache], fun f hf => by rw [locks f hf, cache],
    (((ended.trans sameSet).trans sameLast).trans sameDrop).mono (by decide),
    memDrop.trans (memLast.trans (memSet.trans memEnded))⟩
  · rw [State.clampAt, carousel]
    exact ownLast.trans (by rw [own]; rfl)
  · rw [State.clampAt, carousel]
    refine (othersLast p hp).trans ((others p hp).trans ?_)
    rw [State.clampAt, State.clampAt, show u.carousel = s.carousel from ended .carousel (by decide)]
  · exact (sameDrop .format (by decide)).trans
      ((sameLast .format (by decide)).trans ((sameSet .format (by decide)).trans format))

/-- Settles O25: the start's request and the served end. -/
theorem gaugeServes : Obligations.GaugeServes := by
  refine ⟨fun s dt io only acting idle b clamp good => ?_,
    fun s dt io only engaged serving b clamp e entry r copy fresh q sequence => ?_⟩
  · have run := exec_forward_started only acting (by decide) dt io
    have before := State.engaging_same dt .gauge s
    have stations := State.engaging_stations dt .gauge s
    have mem : ((s.counting dt).engaging .gauge).mem = s.mem := rfl
    have now : ((s.counting dt).engaging .gauge).now = s.now + dt := rfl
    generalize (s.counting dt).engaging .gauge = v at *
    have format : v.format = s.format := before .format (by decide)
    have carousel : v.carousel = s.carousel := before .carousel (by decide)
    rw [show v.startWork .gauge io = v.gaugeStart from rfl,
      State.gaugeStart_idle (by rw [State.clampAt, carousel]; exact clamp) good (by rw [format]; exact idle)] at run
    obtain ⟨serves, engaged, same, memServe⟩ := v.serve_effect .gauge
    have formatServe : (v.serve .gauge).format = s.format := (same .format (by decide)).trans format
    generalize v.serve .gauge = u at *
    refine ⟨_, run, (same .now (by decide)).trans now, rfl, ?_, engaged.trans (by rw [stations]), (serves _).mpr (.inl rfl),
      ((before.trans same).trans (SameBut.updFormat _ u)).mono (by decide), BytesBut.of_mem (memServe.trans mem)⟩
    rw [State.updFormat_format, formatServe, now]
  · have run := exec_forward_served only engaged dt io
    have before := State.ending_same dt .gauge s
    have mem : ((s.counting dt).ending .gauge).mem = s.mem := rfl
    have now : ((s.counting dt).ending .gauge).now = s.now + dt := rfl
    generalize (s.counting dt).ending .gauge = v at *
    have carousel : v.carousel = s.carousel := before .carousel (by decide)
    have cache : v.cache = s.cache := before .cache (by decide)
    have format : v.format = s.format := before .format (by decide)
    have stations : v.stations = s.stations := before .stations (by decide)
    have config : v.config = s.config := before .config (by decide)
    have clamps : ∀ p, v.clampAt p = s.clampAt p := fun p => by rw [State.clampAt, State.clampAt, carousel]
    change exec (.forwardEncoderCount dt io) s = .next (v.gaugeEnd.updStations (Stations.drop .gauge)) at run
    obtain ⟨own, others, formatEnd, lock, locks, same, memAfter⟩ :=
      State.gaugeEnd_served (s := v) (by rw [stations]; exact serving) ((clamps 2).trans clamp) entry
        (by rw [cache]; exact copy) (by rw [cache]; exact fresh) (by rw [format]; exact sequence) rfl
    rw [config] at own
    rw [cache] at lock locks
    rw [format] at formatEnd
    generalize v.gaugeEnd = u at *
    refine ⟨_, run, (same .now (by decide)).trans now, own, fun p hp => (others p hp).trans (clamps p),
      (congrArg FormatUnit.gauge formatEnd).trans rfl, ?_, lock, locks, ?_,
      ((before.trans same).trans (SameBut.updStations _ u)).mono (by decide), BytesBut.of_mem (memAfter.trans mem)⟩
    · exact (congrArg (fun f => f.converter.outstanding) formatEnd).trans (Converter.sequenceEnd_outstanding _)
    · rw [State.updStations_stations, Stations.mem_drop]
      exact fun h => h.1 rfl

end Sys2Proof.Machine
end

section
/-!
The miller (R7, R77, R105, R107 to R109).
-/

namespace Sys2Proof.Machine

theorem SameBut.updMiller (f : Miller → Miller) (s : State) : SameBut [.miller] s (s.updMiller f) := fun p hp => by
  cases p <;> simp [Part.same] at hp ⊢

theorem Slot.goodFormat_of {x : Slot} {b : Book} {g : GaugeFormat} (place : x = .holding b) (good : b.spoil = none)
    (gauged : b.gauged = some g) : x.goodFormat = some g := by
  rw [place, Slot.goodFormat, Book.good, good]
  exact gauged

/-! ### The window start (R107) -/

theorem Drive.standsAt_iff {α : Type} [DecidableEq α] (k : α) (d : Drive α) :
    d.standsAt k = true ↔ d.target = none ∧ d.setting = some k := by
  unfold Drive.standsAt
  cases d.target <;> simp

theorem State.millStart_stands {g : GaugeFormat} {s : State} (format : (s.clampAt 4).goodFormat = some g)
    (stands : s.miller.drive.target = none ∧ s.miller.drive.setting = some g.millDepth) :
    s.millStart = (s.serve .mill).updMiller fun m => { m with integrating := true, load := 0 } := by
  rw [State.millStart, format]
  exact if_pos ((Drive.standsAt_iff _ _).mpr stands)

theorem State.millStart_late {g : GaugeFormat} {s : State} (format : (s.clampAt 4).goodFormat = some g)
    (away : ¬ (s.miller.drive.target = none ∧ s.miller.drive.setting = some g.millDepth)) :
    s.millStart = (s.serve .mill).modClamp 4 (Book.spoilWith .millLate (carouselPoint 4) (word32 g.millDepth) false) := by
  rw [State.millStart, format]
  exact if_neg fun h => away ((Drive.standsAt_iff _ _).mp h)

/-! ### The window end (R108, R109) -/

theorem wearAppend_eq (ratio : Nat) (l : List Nat) :
    wearAppend ratio l = (if l.length < 16 then l else l.tail) ++ [ratio] := by
  unfold wearAppend
  by_cases h : l.length < 16
  · rw [if_pos h, if_neg (by omega)]
  · rw [if_neg h, if_pos (by omega)]

/-- The wear judgement: the mark, and one notice where it rises (R109). -/
theorem State.judgeWear_effect {s t : State} {limit index : Nat} (hl : limit = s.config.settings.wearLimit)
    (hi : index = wearIndex s.miller.wear) (ht : t = s.judgeWear) :
    t.miller = { s.miller with
      armed := if s.miller.armed then !decide (limit < index) else decide (index < limit * 9 / 10) } ∧
      (if s.miller.armed && decide (limit < index) then Noticed (oneNotice .wear) s t else Noticed (fun _ => 0) s t) ∧
      t.port = { s.port with counts := t.port.counts, attention := t.port.attention } ∧ SameBut [.miller, .port] s t ∧
      BytesBut (if s.miller.armed && decide (limit < index) then [Header.count 7] else []) s t := by
  have quiet : Noticed (fun _ => 0) s s := fun c => ⟨by simp, fun h => absurd rfl h⟩
  unfold State.judgeWear at ht
  rw [← hl, ← hi] at ht
  cases armed : s.miller.armed with
  | true =>
    by_cases worn : limit < index
    · rw [if_pos ⟨armed, worn⟩] at ht
      subst ht
      have noticed : Noticed (oneNotice .wear) s ((s.updMiller fun m => { m with armed := false }).notify .wear) :=
        (State.notify_noticed .wear (s.updMiller fun m => { m with armed := false })).of_counts rfl
      refine ⟨by simp [worn], by simpa [worn] using noticed, rfl,
        fun p hp => (by cases p <;> simp [Part.same] at hp ⊢), ?_⟩
      rw [decide_eq_true worn]
      exact (State.notify_bytes .wear (s.updMiller fun m => { m with armed := false }) :)
    · rw [if_neg (fun h => worn h.2), if_neg (fun h => by rw [armed] at h; cases h.1)] at ht
      subst ht
      refine ⟨by simp [worn, ← armed], by simpa [worn] using quiet, rfl, SameBut.refl _ _, BytesBut.refl _ _⟩
  | false =>
    rw [if_neg (fun h => by rw [armed] at h; cases h.1)] at ht
    by_cases low : index < limit * 9 / 10
    · rw [if_pos ⟨armed, low⟩] at ht
      subst ht
      refine ⟨by simp [low], quiet, rfl, fun p hp => (by cases p <;> simp [Part.same] at hp ⊢), BytesBut.refl _ _⟩
    · rw [if_neg fun h => low h.2] at ht
      subst ht
      refine ⟨by rw [if_neg (by decide), decide_eq_false low, ← armed], quiet, rfl, SameBut.refl _ _, BytesBut.refl _ _⟩

/-- The end of a milled book (R108, R109). -/
theorem State.millEnd_effect {s t : State} {b : Book} {g : GaugeFormat} (integrating : s.miller.integrating = true)
    (clamp : s.clampAt 4 = .holding b) (gauged : b.gauged = some g) {e : Nat}
    (he : e = g.tMeas * g.millDepth * s.config.settings.millCal / 1000000000) {wear : List Nat}
    (hw : wear = (if e = 0 then s.miller.wear
      else (if s.miller.wear.length < 16 then s.miller.wear else s.miller.wear.tail) ++
        [min 65535 (s.miller.load * 1000 / e)])) {index : Nat} (hi : index = if wear = [] then 0 else wear.sum / wear.length)
    {rises : Bool}
    (hr : rises = (decide (e ≠ 0) && s.miller.armed && decide (s.config.settings.wearLimit < index)))
    (ht : t = s.millEnd) :
    t.miller = { s.miller with
        integrating := false
        wear := wear
        armed :=
          if e = 0 then s.miller.armed
          else if s.miller.armed then !decide (s.config.settings.wearLimit < index)
          else decide (index < s.config.settings.wearLimit * 9 / 10) } ∧
      (if rises then Noticed (oneNotice .wear) s t else Noticed (fun _ => 0) s t) ∧
      t.port = { s.port with counts := t.port.counts, attention := t.port.attention } ∧ SameBut [.miller, .port] s t ∧
      BytesBut (if rises then [Header.count 7] else []) s t := by
  have quiet : ∀ u : State, Noticed (fun _ => 0) u u := fun u c => ⟨by simp, fun h => absurd rfl h⟩
  have whole : s.millEnd = if e = 0 then s.updMiller fun m => { m with integrating := false }
      else ((s.updMiller fun m => { m with integrating := false }).updMiller fun m =>
        { m with wear := wearAppend (wearRatio s.miller.load e) m.wear }).judgeWear := by
    have load : expectedLoad s.config.settings g = e := he.symm
    unfold State.millEnd
    simp only [integrating, if_true, clamp, gauged, load]
  rw [whole] at ht
  by_cases none_due : e = 0
  · rw [if_pos none_due] at ht
    have calm : rises = false := by rw [hr, none_due]; rfl
    rw [if_pos none_due] at hw
    subst ht
    rw [calm, hw, if_pos none_due]
    exact ⟨rfl, (quiet s : Noticed (fun _ => 0) s s), rfl, (SameBut.updMiller _ s).mono (by decide), BytesBut.refl _ s⟩
  · rw [if_neg none_due] at ht
    rw [if_neg none_due, ← wearRatio, ← wearAppend_eq] at hw
    have same := (SameBut.updMiller (fun m => { m with integrating := false }) s).trans
      (SameBut.updMiller (fun m => { m with wear := wearAppend (wearRatio s.miller.load e) m.wear }) _)
    have miller : ((s.updMiller fun m => { m with integrating := false }).updMiller fun m =>
        { m with wear := wearAppend (wearRatio s.miller.load e) m.wear }).miller =
        { s.miller with integrating := false, wear := wear } := by
      rw [hw]
      rfl
    have mem : ((s.updMiller fun m => { m with integrating := false }).updMiller fun m =>
        { m with wear := wearAppend (wearRatio s.miller.load e) m.wear }).mem = s.mem := rfl
    generalize (s.updMiller fun m => { m with integrating := false }).updMiller (fun m =>
        { m with wear := wearAppend (wearRatio s.miller.load e) m.wear }) = u at *
    have port : u.port = s.port := same .port (by decide)
    have config : u.config = s.config := same .config (by decide)
    obtain ⟨judged, noticed, portAfter, sameAfter, bytes⟩ := State.judgeWear_effect (s := u) (index := index) rfl
      (by rw [miller]; exact hi) ht
    have rise : rises = (u.miller.armed && decide (u.config.settings.wearLimit < index)) := by
      rw [hr, miller, config, decide_eq_true none_due, Bool.true_and]
    rw [← rise] at noticed bytes
    refine ⟨?_, ?_, by rw [portAfter, port], (same.trans sameAfter).mono (by decide),
      ((BytesBut.of_mem (w := []) mem).trans bytes).mono fun _ h => h⟩
    · rw [judged, miller, config, if_neg none_due]
    · cases rises
      · exact noticed.of_counts (by rw [port])
      · exact noticed.of_counts (by rw [port])

theorem Drive.toward_of_none {α : Type} [DecidableEq α] (d : Drive α) : d.toward none = d := rfl

/-- A changeover with no book at position 3 takes up no depth (R105). -/
theorem State.millChangeover_vacant {s : State} (vacant : (s.clampAt 3).isHolding = false) :
    s.millChangeover.miller = { s.miller with pending := false } := by
  have nothing : (s.clampAt 3).goodValues = none := by
    cases place : s.clampAt 3 with
    | holding b => rw [place] at vacant; cases vacant
    | empty => rfl
    | unknown => rfl
  rw [State.millChangeover_effect, nothing]
  rfl

/-- Settles O27: the window's start and end, and the changeover of its depth. -/
theorem millerServes : Obligations.MillerServes := by
  refine ⟨fun s dt io only acting b clamp good g gauged => ?_,
    fun s dt io only engaged acting vacant integrating b clamp g gauged e he wear hw index hi rises hr => ?_,
    fun s b clamp good g gauged => ?_⟩
  · have run := exec_forward_started only acting (by decide) dt io
    have before := State.engaging_same dt .mill s
    have stations := State.engaging_stations dt .mill s
    have mem : ((s.counting dt).engaging .mill).mem = s.mem := rfl
    have now : ((s.counting dt).engaging .mill).now = s.now + dt := rfl
    generalize (s.counting dt).engaging .mill = v at *
    have miller : v.miller = s.miller := before .miller (by decide)
    have carousel : v.carousel = s.carousel := before .carousel (by decide)
    have clamps : ∀ p, v.clampAt p = s.clampAt p := fun p => by rw [State.clampAt, State.clampAt, carousel]
    have format := Slot.goodFormat_of ((clamps 4).trans clamp) good gauged
    obtain ⟨serves, engaged, same, memServe⟩ := v.serve_effect .mill
    rw [show v.startWork .mill io = v.millStart from rfl] at run
    by_cases stands : s.miller.drive.target = none ∧ s.miller.drive.setting = some g.millDepth
    · rw [State.millStart_stands format (by rw [miller]; exact stands)] at run
      have wasMiller : (v.serve .mill).miller = s.miller := (same .miller (by decide)).trans miller
      generalize v.serve .mill = u at *
      refine ⟨_, run, (same .now (by decide)).trans now, ?_, engaged.trans (by rw [stations]), (serves _).mpr (.inl rfl),
        ((before.trans same).trans (SameBut.updMiller _ u)).mono (by decide), BytesBut.of_mem (memServe.trans mem)⟩
      rw [if_pos stands]
      exact ⟨by rw [State.updMiller_miller, wasMiller], (same .carousel (by decide)).trans carousel⟩
    · rw [State.millStart_late format (by rw [miller]; exact stands)] at run
      have wasClamps : ∀ p, (v.serve .mill).clampAt p = s.clampAt p := fun p => clamps p
      generalize v.serve .mill = u at *
      obtain ⟨own, others, -, -, sameMark, memMark⟩ :=
        u.modClamp_effect 4 (Book.spoilWith .millLate (carouselPoint 4) (word32 g.millDepth) false)
      generalize u.modClamp 4 (Book.spoilWith .millLate (carouselPoint 4) (word32 g.millDepth) false) = t at *
      refine ⟨_, run, (sameMark .now (by decide)).trans ((same .now (by decide)).trans now), ?_, ?_, ?_,
        ((before.trans same).trans sameMark).mono (by decide), BytesBut.of_mem (memMark.trans (memServe.trans mem))⟩
      · rw [if_neg stands]
        refine ⟨(sameMark .miller (by decide)).trans ((same .miller (by decide)).trans miller), own.trans ?_,
          fun p hp => (others p hp).trans (wasClamps p)⟩
        rw [wasClamps, clamp]
        exact congrArg Slot.holding (Book.spoilWith_good good _ _ _ _)
      · rw [show t.stations = u.stations from sameMark .stations (by decide), engaged, stations]
      · rw [show t.stations = u.stations from sameMark .stations (by decide)]
        exact (serves _).mpr (.inl rfl)
  · have run := exec_forward_served only engaged dt io
    have before := State.ending_same dt .mill s
    have mem : ((s.counting dt).ending .mill).mem = s.mem := rfl
    have now : ((s.counting dt).ending .mill).now = s.now + dt := rfl
    generalize (s.counting dt).ending .mill = v at *
    have carousel : v.carousel = s.carousel := before .carousel (by decide)
    have miller : v.miller = s.miller := before .miller (by decide)
    have config : v.config = s.config := before .config (by decide)
    have port : v.port = s.port := before .port (by decide)
    have line : v.line = s.line := before .line (by decide)
    have clamps : ∀ p, v.clampAt p = s.clampAt p := fun p => by rw [State.clampAt, State.clampAt, carousel]
    change exec (.forwardEncoderCount dt io) s =
      .next ((v.millEnd.updStations (Stations.drop .mill)).changeover .mill) at run
    obtain ⟨ended, noticed, portAfter, same, bytes⟩ := State.millEnd_effect (s := v) (e := e)
      (wear := wear) (index := index) (rises := rises) (by rw [miller]; exact integrating)
      ((clamps 4).trans clamp) gauged (by rw [config]; exact he) (by rw [miller]; exact hw) hi
      (by rw [miller, config]; exact hr) rfl
    rw [miller, config] at ended
    rw [port] at portAfter
    generalize v.millEnd = u at *
    have dropped := SameBut.updStations (Stations.drop .mill) u
    have memDrop : (u.updStations (Stations.drop .mill)).mem = u.mem := rfl
    have portDrop : (u.updStations (Stations.drop .mill)).port = u.port := rfl
    have away : .mill ∉ (u.updStations (Stations.drop .mill)).stations.engaged := fun h => by
      rw [State.updStations_stations, Stations.mem_drop] at h
      exact h.1 rfl
    have millerDrop : (u.updStations (Stations.drop .mill)).miller = u.miller := rfl
    generalize u.updStations (Stations.drop .mill) = w at *
    have lineDrop : w.line = s.line := (dropped .line (by decide)).trans ((same .line (by decide)).trans line)
    have vacantDrop : (w.clampAt 3).isHolding = false := by
      rw [State.clampAt, show w.carousel = s.carousel from
        (dropped .carousel (by decide)).trans ((same .carousel (by decide)).trans carousel)]
      exact vacant
    obtain ⟨millerAfter, coverAfter, sameAfter, memAfter⟩ := w.changeover_effect .mill
    generalize w.changeover .mill = t at *
    rw [if_pos rfl, lineDrop, acting, if_pos rfl, State.millChangeover_vacant vacantDrop, millerDrop, ended] at millerAfter
    rw [if_neg (by decide)] at coverAfter
    have portLast : t.port = u.port := (sameAfter .port (by decide)).trans portDrop
    have memLast : t.mem = u.mem := memAfter.trans memDrop
    have whole : SameBut [.now, .phase, .stations, .cover, .miller, .port] s t :=
      (((before.trans same).trans dropped).trans sameAfter).mono (by decide)
    have cover : t.cover = s.cover := coverAfter.trans
      ((dropped .cover (by decide)).trans ((same .cover (by decide)).trans (before .cover (by decide))))
    refine ⟨t, run, (sameAfter .now (by decide)).trans ((dropped .now (by decide)).trans ((same .now (by decide)).trans now)),
      millerAfter, ?_, by rw [portLast]; exact portAfter, ?_, whole.sharpen fun p listed apart => ?_, ?_⟩
    · have told : ∀ n, Noticed n v u → Noticed n s t := fun n h c => by
        have hc := h c
        rw [port] at hc
        rw [portLast, State.word, memLast]
        exact hc
      cases rises
      · exact told _ noticed
      · exact told _ noticed
    · rw [show t.stations = w.stations from sameAfter .stations (by decide)]
      exact away
    · simp only [List.mem_cons, List.not_mem_nil, or_false] at listed apart
      by_cases isCover : p = .cover
      · rw [isCover]
        exact cover
      · exact absurd listed (by tauto)
    · intro a ha
      rw [memLast, bytes a ha, mem]
  · have values : (s.clampAt 3).goodValues = some g := by
      rw [Slot.goodValues_eq]
      exact Slot.goodFormat_of clamp good gauged
    rw [State.millChangeover_effect, values]
    refine ⟨rfl, ?_, fun p hp => (by cases p <;> simp [Part.same] at hp ⊢), rfl⟩
    simp only [Option.map_some, Drive.toward]
    by_cases moving : s.miller.drive.target = none
    · rw [if_pos moving, if_neg (by simpa using moving)]
      exact ⟨fun stands => if_pos stands, fun away => if_neg away⟩
    · rw [if_neg moving, if_pos moving]

end Sys2Proof.Machine
end

section
/-!
The glue stations take up a book (R7, R77, R115, R116, R118).
-/

namespace Sys2Proof.Machine

theorem SameBut.updGlue (f : GlueStations → GlueStations) (s : State) : SameBut [.glue] s (s.updGlue f) := fun p hp => by
  cases p <;> simp [Part.same] at hp ⊢

/-- A pair is empty exactly when it is so in signed phases (R115). -/
theorem emptyPair_iff (first comp o c : Nat) :
    (c ≤ o ∨ c - comp ≤ max first (o - comp)) ↔
      (c ≤ o ∨ (c : Int) - comp ≤ first ∨ (c : Int) - comp ≤ (o : Int) - comp) := by
  omega

/-- A valve at its window start, in signed phases (R115, R116). -/
theorem Valve.atStart_eq (w : Span) (comp o c : Nat) :
    Valve.atStart w comp o c =
      if c ≤ o ∨ (c : Int) - comp ≤ w.first ∨ (c : Int) - comp ≤ (o : Int) - comp then ⟨none, none, false, false, 0, true⟩
      else if o ≤ w.first + comp then ⟨none, some (c - comp), true, true, 0, false⟩
      else ⟨some (o - comp), some (c - comp), false, false, 0, false⟩ := by
  unfold Valve.atStart effectivePhases
  rw [if_congr (emptyPair_iff w.first comp o c) rfl rfl]
  by_cases bare : c ≤ o ∨ (c : Int) - comp ≤ w.first ∨ (c : Int) - comp ≤ (o : Int) - comp
  · rw [if_pos bare, if_pos bare]
    rfl
  · rw [if_neg bare, if_neg bare]
    by_cases early : o ≤ w.first + comp
    · have first : max w.first (o - comp) = w.first := by omega
      rw [if_pos early, first]
      exact if_pos rfl
    · have later : max w.first (o - comp) = o - comp := by omega
      rw [if_neg early, later]
      exact if_neg fun same => by
        have : o - comp = w.first := Option.some.inj same
        omega

theorem State.spineStart_inBand {g : GaugeFormat} {s : State} (format : (s.clampAt 6).goodFormat = some g)
    (inBand : s.pot.inBand = true) :
    s.spineStart = (s.serve .spineGlue).updGlue fun x =>
      { x with spine := Valve.atStart s.config.settings.wSpineGlue s.phase.comp g.spineOpen g.spineClose } := by
  unfold State.spineStart
  rw [format]
  dsimp only
  rw [if_pos inBand]
  rfl

theorem State.spineStart_outOfBand {g : GaugeFormat} {s : State} (format : (s.clampAt 6).goodFormat = some g)
    (inBand : s.pot.inBand = false) :
    s.spineStart = ((s.serve .spineGlue).updGlue fun x => { x with spine := Valve.atRest }).modClamp 6
      (Book.spoilWith .glueTemp (carouselPoint 6) (word32 (s.pot.temp.getD 0)) false) := by
  unfold State.spineStart
  rw [format]
  dsimp only
  rw [if_neg (by rw [inBand]; decide)]
  rfl

theorem State.sideStart_good {g : GaugeFormat} {s : State} (format : (s.clampAt 7).goodFormat = some g) :
    s.sideStart = (s.serve .sideGlue).updGlue fun x =>
      { x with side := Valve.atStart s.config.settings.wSideGlue s.phase.comp g.sideOpen g.sideClose } := by
  unfold State.sideStart
  rw [format]
  rfl

/-- Settles O28: the spine station by the band, the side station always. -/
theorem glueStationsStart : Obligations.GlueStationsStart := by
  refine ⟨fun s dt io only acting b clamp good g gauged first hf => ?_,
    fun s dt io only acting b clamp good g gauged first hf => ?_⟩
  · have run := exec_forward_started only acting (by decide) dt io
    have before := State.engaging_same dt .spineGlue s
    have stations := State.engaging_stations dt .spineGlue s
    have mem : ((s.counting dt).engaging .spineGlue).mem = s.mem := rfl
    have now : ((s.counting dt).engaging .spineGlue).now = s.now + dt := rfl
    have comp : ((s.counting dt).engaging .spineGlue).phase.comp = s.phase.comp := rfl
    generalize (s.counting dt).engaging .spineGlue = v at *
    have carousel : v.carousel = s.carousel := before .carousel (by decide)
    have glue : v.glue = s.glue := before .glue (by decide)
    have pot : v.pot = s.pot := before .pot (by decide)
    have config : v.config = s.config := before .config (by decide)
    have clamps : ∀ p, v.clampAt p = s.clampAt p := fun p => by rw [State.clampAt, State.clampAt, carousel]
    have format := Slot.goodFormat_of ((clamps 6).trans clamp) good gauged
    obtain ⟨serves, engaged, same, memServe⟩ := v.serve_effect .spineGlue
    rw [show v.startWork .spineGlue io = v.spineStart from rfl] at run
    cases inBand : s.pot.inBand with
    | true =>
      rw [State.spineStart_inBand format (by rw [pot]; exact inBand), config, comp] at run
      have wasGlue : (v.serve .spineGlue).glue = s.glue := (same .glue (by decide)).trans glue
      generalize v.serve .spineGlue = u at *
      have valve := SameBut.updGlue (fun x => { x with
        spine := Valve.atStart s.config.settings.wSpineGlue s.phase.comp g.spineOpen g.spineClose }) u
      refine ⟨_, run, (same .now (by decide)).trans now, by rw [State.updGlue_glue, wasGlue], engaged.trans (by rw [stations]),
        (serves _).mpr (.inl rfl), fun out => (by cases out), fun _ => ⟨(same .carousel (by decide)).trans carousel, ?_⟩,
        ((before.trans same).trans valve).mono (by decide), BytesBut.of_mem (memServe.trans mem)⟩
      rw [hf]
      exact Valve.atStart_eq _ _ _ _
    | false =>
      rw [State.spineStart_outOfBand format (by rw [pot]; exact inBand), pot] at run
      have wasGlue : (v.serve .spineGlue).glue = s.glue := (same .glue (by decide)).trans glue
      have wasClamps : ∀ p, ((v.serve .spineGlue).updGlue fun x => { x with spine := Valve.atRest }).clampAt p = s.clampAt p :=
        fun p => clamps p
      generalize v.serve .spineGlue = u at *
      have valve := SameBut.updGlue (fun x => { x with spine := Valve.atRest }) u
      have memValve : (u.updGlue fun x => { x with spine := Valve.atRest }).mem = u.mem := rfl
      have glueValve : (u.updGlue fun x => { x with spine := Valve.atRest }).glue = { s.glue with spine := Valve.atRest } := by
        rw [State.updGlue_glue, wasGlue]
      generalize u.updGlue (fun x => { x with spine := Valve.atRest }) = w at *
      obtain ⟨own, others, -, -, sameMark, memMark⟩ :=
        w.modClamp_effect 6 (Book.spoilWith .glueTemp (carouselPoint 6) (word32 (s.pot.temp.getD 0)) false)
      generalize w.modClamp 6 (Book.spoilWith .glueTemp (carouselPoint 6) (word32 (s.pot.temp.getD 0)) false) = t at *
      have glueLast : t.glue = { s.glue with spine := Valve.atRest } := (sameMark .glue (by decide)).trans glueValve
      have stationsLast : t.stations = u.stations :=
        (sameMark .stations (by decide)).trans (valve .stations (by decide))
      refine ⟨t, run, (sameMark .now (by decide)).trans
          ((valve .now (by decide)).trans ((same .now (by decide)).trans now)), by rw [glueLast],
        by rw [stationsLast, engaged, stations], by rw [stationsLast]; exact (serves _).mpr (.inl rfl),
        fun _ => ⟨by rw [glueLast]; rfl, own.trans ?_, fun p hp => (others p hp).trans (wasClamps p)⟩,
        fun inside => (by cases inside), (((before.trans same).trans valve).trans sameMark).mono (by decide),
        BytesBut.of_mem (memMark.trans (memValve.trans (memServe.trans mem)))⟩
      rw [wasClamps, clamp]
      exact congrArg Slot.holding (Book.spoilWith_good good _ _ _ _)
  · have run := exec_forward_started only acting (by decide) dt io
    have before := State.engaging_same dt .sideGlue s
    have stations := State.engaging_stations dt .sideGlue s
    have mem : ((s.counting dt).engaging .sideGlue).mem = s.mem := rfl
    have now : ((s.counting dt).engaging .sideGlue).now = s.now + dt := rfl
    have comp : ((s.counting dt).engaging .sideGlue).phase.comp = s.phase.comp := rfl
    generalize (s.counting dt).engaging .sideGlue = v at *
    have carousel : v.carousel = s.carousel := before .carousel (by decide)
    have glue : v.glue = s.glue := before .glue (by decide)
    have config : v.config = s.config := before .config (by decide)
    have format := Slot.goodFormat_of (x := v.clampAt 7) (by rw [State.clampAt, carousel]; exact clamp) good gauged
    obtain ⟨serves, engaged, same, memServe⟩ := v.serve_effect .sideGlue
    rw [show v.startWork .sideGlue io = v.sideStart from rfl, State.sideStart_good format, config, comp] at run
    have wasGlue : (v.serve .sideGlue).glue = s.glue := (same .glue (by decide)).trans glue
    generalize v.serve .sideGlue = u at *
    have valve := SameBut.updGlue (fun x => { x with
      side := Valve.atStart s.config.settings.wSideGlue s.phase.comp g.sideOpen g.sideClose }) u
    refine ⟨_, run, (same .now (by decide)).trans now, by rw [State.updGlue_glue, wasGlue], engaged.trans (by rw [stations]),
      (serves _).mpr (.inl rfl), ?_, ((before.trans same).trans valve).mono (by decide), BytesBut.of_mem (memServe.trans mem)⟩
    rw [hf]
    exact Valve.atStart_eq _ _ _ _

end Sys2Proof.Machine
end

section
/-!
The glue valves' points and the ends of their windows (R79, R116 to R118).
-/

namespace Sys2Proof.Machine

/-! ### One event, or two, in a list of events (R7) -/

theorem State.foldEvents_none {p : Nat} {io : CountInputs} {s : State} (quiet : ∀ e, s.eventValue e ≠ some p)
    (l : List PhaseEvent) : l.foldl (fun s e => s.eventAt p io e) s = s := by
  induction l with
  | nil => rfl
  | cons e l ih => rw [List.foldl_cons, State.eventAt, if_neg (quiet e), ih]

/-- One event stands at the value: a list that has it takes it and no other. -/
theorem State.foldEvents_single {p : Nat} {io : CountInputs} {s : State} {e : PhaseEvent} (value : s.eventValue e = some p)
    (others : ∀ f, f ≠ e → s.eventValue f ≠ some p) {l : List PhaseEvent} (listed : e ∈ l) :
    l.foldl (fun s e => s.eventAt p io e) s = s.takeEvent io e := by
  induction l with
  | nil => cases listed
  | cons f l ih =>
    rw [List.foldl_cons, State.eventAt]
    by_cases same : f = e
    · subst same
      rw [if_pos value]
      refine State.foldEvents_none (fun g after => ?_) l
      obtain ⟨other, there⟩ := State.takeEvent_value value after
      exact others g other there
    · rw [if_neg (others f same)]
      exact ih ((List.mem_cons.mp listed).resolve_left (Ne.symm same))

/-- Two events stand at the value: a list that has both takes one of them and leads on with the other. -/
theorem State.foldEvents_pair {p : Nat} {io : CountInputs} {s : State} {e f : PhaseEvent} (apart : e ≠ f)
    (first : s.eventValue e = some p) (second : s.eventValue f = some p)
    (others : ∀ g, g ≠ e → g ≠ f → s.eventValue g ≠ some p) {l : List PhaseEvent} (he : e ∈ l) (hf : f ∈ l) :
    (∃ k : List PhaseEvent, f ∈ k ∧ l.foldl (fun s e => s.eventAt p io e) s = k.foldl (fun s e => s.eventAt p io e) (s.takeEvent io e)) ∨
      (∃ k : List PhaseEvent, e ∈ k ∧ l.foldl (fun s e => s.eventAt p io e) s = k.foldl (fun s e => s.eventAt p io e) (s.takeEvent io f)) := by
  induction l with
  | nil => cases he
  | cons g l ih =>
    rw [List.foldl_cons, State.eventAt]
    by_cases isFirst : g = e
    · subst isFirst
      rw [if_pos first]
      exact .inl ⟨l, (List.mem_cons.mp hf).resolve_left (Ne.symm apart), rfl⟩
    · by_cases isSecond : g = f
      · subst isSecond
        rw [if_pos second]
        exact .inr ⟨l, (List.mem_cons.mp he).resolve_left apart, rfl⟩
      · rw [if_neg (others g isFirst isSecond)]
        exact ih ((List.mem_cons.mp he).resolve_left (Ne.symm isFirst)) ((List.mem_cons.mp hf).resolve_left (Ne.symm isSecond))

/-! ### The flow check (R117) -/

theorem flowCheck_eq {b : Book} {g : GaugeFormat} (gauged : b.gauged = some g) (flow : Nat) :
    flowCheck flow b = b.flowJudged flow g.expectedFlow := by
  have judged : flowCheck flow b =
      if g.expectedFlow = 0 then b
      else if flow < 3 * g.expectedFlow / 4 then b.spoilWith .glueStarved ⟨true, 6⟩ (word32 flow) false
      else if 3 * g.expectedFlow / 2 < flow then { b with warnings := { b.warnings with glueHeavy := true } }
      else b := by
    unfold flowCheck
    rw [gauged]
    rfl
  rw [judged, Book.flowJudged]
  by_cases none_due : g.expectedFlow = 0
  · simp [none_due]
  · by_cases low : flow < 3 * g.expectedFlow / 4
    · have light : ¬ 3 * g.expectedFlow / 2 < flow := by omega
      cases marked : b.spoil with
      | none => simp [Book.spoilWith, marked, none_due, low, light]
      | some m =>
        simp only [Book.spoilWith, marked, none_due, low, light, reduceCtorEq, and_false, false_and, if_false, if_true]
        rw [← marked]
    · by_cases heavy : 3 * g.expectedFlow / 2 < flow
      · simp [none_due, low, heavy]
      · simp [none_due, low, heavy]

/-- The spine valve closes at its point: the flow check is made on the book at position 6. -/
theorem State.spineCloses_effect {s t : State} {b : Book} {g : GaugeFormat} (clamp : s.clampAt 6 = .holding b)
    (gauged : b.gauged = some g) (ht : t = s.spineCloses) :
    t.glue = { s.glue with spine := { s.glue.spine with closeAt := none, isOpen := false } } ∧
      t.clampAt 6 = .holding (b.flowJudged s.glue.spine.flow g.expectedFlow) ∧
      (∀ p : Fin 24, p ≠ 6 → t.clampAt p = s.clampAt p) ∧ SameBut [.carousel, .glue] s t ∧ t.mem = s.mem := by
  have closed := SameBut.updGlue (fun g => { g with spine := g.spine.closeNow }) s
  have glue : (s.updGlue fun g => { g with spine := g.spine.closeNow }).glue =
      { s.glue with spine := { s.glue.spine with closeAt := none, isOpen := false } } := rfl
  have mem : (s.updGlue fun g => { g with spine := g.spine.closeNow }).mem = s.mem := rfl
  have clamps : ∀ p, (s.updGlue fun g => { g with spine := g.spine.closeNow }).clampAt p = s.clampAt p := fun _ => rfl
  unfold State.spineCloses at ht
  generalize s.updGlue (fun g => { g with spine := g.spine.closeNow }) = u at *
  obtain ⟨own, others, -, -, same, memMark⟩ := u.modClamp_effect 6 (flowCheck s.glue.spine.flow)
  rw [← ht] at own others same memMark
  refine ⟨(same .glue (by decide)).trans glue, own.trans ?_, fun p hp => (others p hp).trans (clamps p),
    (closed.trans same).mono (by decide), memMark.trans mem⟩
  rw [clamps, clamp]
  exact congrArg Slot.holding (flowCheck_eq gauged _)

/-! ### The end of SPINE_GLUE (R79, R116, R117) -/

/-- An end whose close is still to come takes the close first. -/
theorem State.spineEnd_closes {s : State} (due : s.glue.spine.closeAt.isSome = true) :
    s.spineEnd = s.spineCloses.spineEnd := by
  have closed : s.spineCloses.glue.spine.closeAt.isSome = false := by simp [State.spineCloses, Valve.closeNow]
  have glue : s.spineCloses.glue.spine.emptyLine = s.glue.spine.emptyLine ∧
      s.spineCloses.glue.spine.opened = s.glue.spine.opened := by simp [State.spineCloses, Valve.closeNow]
  have serving : s.spineCloses.isServing .spineGlue = s.isServing .spineGlue := rfl
  unfold State.spineEnd
  rw [due, closed, glue.1, glue.2, serving]
  rfl

/-- The end at a served book with no close to come: an empty line is checked with a count of 0, the mark records that the
valve opened. -/
theorem State.spineEnd_served {s t : State} {b : Book} {g : GaugeFormat} (serving : .spineGlue ∈ s.stations.serving)
    (closed : s.glue.spine.closeAt = none) (clamp : s.clampAt 6 = .holding b) (gauged : b.gauged = some g)
    (ht : t = s.spineEnd) :
    t.clampAt 6 = .holding
        { (if s.glue.spine.emptyLine then b.flowJudged 0 g.expectedFlow else b) with
          glued := b.glued || s.glue.spine.opened } ∧
      (∀ p : Fin 24, p ≠ 6 → t.clampAt p = s.clampAt p) ∧ t.glue = { s.glue with spine := Valve.atRest } ∧
      SameBut [.carousel, .glue] s t ∧ t.mem = s.mem := by
  have served : s.isServing .spineGlue = true := decide_eq_true serving
  obtain ⟨u, hu⟩ : ∃ u, u = if s.glue.spine.emptyLine = true then s.modClamp 6 (flowCheck 0) else s := ⟨_, rfl⟩
  obtain ⟨w, hw⟩ : ∃ w, w = if s.glue.spine.opened = true then u.modClamp 6 (fun b => { b with glued := true }) else u :=
    ⟨_, rfl⟩
  have whole : t = w.updGlue fun g => { g with spine := Valve.atRest } := by
    rw [ht, hw, hu]
    unfold State.spineEnd
    simp only [closed, Option.isSome_none, Bool.false_eq_true, if_false, served, true_and]
  have checked : u.clampAt 6 = .holding (if s.glue.spine.emptyLine then b.flowJudged 0 g.expectedFlow else b) ∧
      (∀ p : Fin 24, p ≠ 6 → u.clampAt p = s.clampAt p) ∧ SameBut [.carousel] s u ∧ u.mem = s.mem := by
    cases bare : s.glue.spine.emptyLine with
    | false =>
      rw [bare, if_neg (by decide)] at hu
      rw [hu]
      exact ⟨clamp, fun _ _ => rfl, SameBut.refl _ s, rfl⟩
    | true =>
      rw [bare, if_pos rfl] at hu
      obtain ⟨own, others, -, -, same, mem⟩ := s.modClamp_effect 6 (flowCheck 0)
      rw [← hu] at own others same mem
      refine ⟨own.trans ?_, others, same, mem⟩
      rw [clamp]
      exact congrArg Slot.holding (flowCheck_eq gauged 0)
  obtain ⟨ownChecked, othersChecked, sameChecked, memChecked⟩ := checked
  have glued : (if s.glue.spine.emptyLine then b.flowJudged 0 g.expectedFlow else b).glued = b.glued := by split <;> rfl
  generalize (if s.glue.spine.emptyLine then b.flowJudged 0 g.expectedFlow else b) = c at *
  have marked : w.clampAt 6 = .holding { c with glued := b.glued || s.glue.spine.opened } ∧
      (∀ p : Fin 24, p ≠ 6 → w.clampAt p = u.clampAt p) ∧ SameBut [.carousel] u w ∧ w.mem = u.mem := by
    cases opened : s.glue.spine.opened with
    | false =>
      rw [opened, if_neg (by decide)] at hw
      rw [hw, Bool.or_false, ← glued]
      exact ⟨ownChecked, fun _ _ => rfl, SameBut.refl _ u, rfl⟩
    | true =>
      rw [opened, if_pos rfl] at hw
      obtain ⟨own, others, -, -, same, mem⟩ := u.modClamp_effect 6 fun b => { b with glued := true }
      rw [← hw] at own others same mem
      refine ⟨own.trans ?_, others, same, mem⟩
      rw [ownChecked, Bool.or_true]
      rfl
  obtain ⟨own, others, same, mem⟩ := marked
  have rest := SameBut.updGlue (fun g => { g with spine := Valve.atRest }) w
  rw [← whole] at rest
  have carousel : t.carousel = w.carousel := rest .carousel (by decide)
  refine ⟨by rw [State.clampAt, carousel]; exact own, fun p hp => ?_, ?_,
    ((sameChecked.trans same).trans rest).mono (by decide), ?_⟩
  · rw [State.clampAt, carousel]
    exact (others p hp).trans (othersChecked p hp)
  · rw [whole, State.updGlue_glue, show w.glue = s.glue from
      (same .glue (by decide)).trans (sameChecked .glue (by decide))]
  · rw [whole]
    exact mem.trans memChecked

/-! ### The close and the end at one value (R116) -/

/-- A forward count at which the end of SPINE_GLUE falls, with or without the valve's close at the same value: the end's
work with the close taken first. -/
theorem exec_forward_spineEnd {s : State} (synced : s.phase.synced = true) (below : s.phase.counter < 4095)
    (value : s.eventValue (.closes .spineGlue) = some (s.phase.counter + 1))
    (others : ∀ f, f ≠ .closes .spineGlue → f ≠ .spineClose → s.eventValue f ≠ some (s.phase.counter + 1))
    (close : s.glue.spine.closeAt = none ∨ s.glue.spine.closeAt = some (s.phase.counter + 1))
    (engaged : .spineGlue ∈ s.stations.engaged) (dt : Nat) (io : CountInputs) :
    exec (.forwardEncoderCount dt io) s =
      .next ((((s.counting dt).ending .spineGlue).spineEnd).updStations (Stations.drop .spineGlue)) := by
  rw [exec_forward_events dt io synced below]
  refine congrArg Host.Outcome.next ?_
  have values : ∀ e, (s.counting dt).eventValue e = s.eventValue e := State.counting_eventValue dt s
  have here : (s.counting dt).isEngaged .spineGlue = true := decide_eq_true engaged
  have glue : (s.counting dt).glue = s.glue := s.counting_same dt .glue (by decide)
  generalize hv : s.counting dt = v at *
  have ends : ∀ u : State, u.isEngaged .spineGlue = true →
      u.takeEvent io (.closes .spineGlue) = ((u.ending .spineGlue).spineEnd).updStations (Stations.drop .spineGlue) := by
    intro u serves
    refine (State.windowEnd_eq .spineGlue io u).trans ?_
    rw [serves]
    rfl
  rcases close with none_due | due
  · have single : ∀ f, f ≠ .closes .spineGlue → v.eventValue f ≠ some (s.phase.counter + 1) := fun f hf => by
      rw [values]
      by_cases valve : f = .spineClose
      · subst valve
        intro h
        have := (State.engagedValue.mp h).2
        rw [none_due] at this
        cases this
      · exact others f hf valve
    exact (State.foldEvents_single (by rw [values]; exact value) single
      (List.mem_append_right _ (mem_defaultOrder _))).trans (ends v here)
  · have closes : v.eventValue .spineClose = some (s.phase.counter + 1) := by
      rw [values]
      exact State.engagedValue.mpr ⟨engaged, due⟩
    have both : ∀ g, g ≠ .closes .spineGlue → g ≠ .spineClose → v.eventValue g ≠ some (s.phase.counter + 1) :=
      fun g h k => by rw [values]; exact others g h k
    rcases State.foldEvents_pair (io := io) (by decide) (by rw [values]; exact value) closes both
      (List.mem_append_right io.order (mem_defaultOrder _)) (List.mem_append_right io.order (mem_defaultOrder _)) with
      ⟨k, -, run⟩ | ⟨k, listed, run⟩
    · refine run.trans ((State.foldEvents_none (fun e after => ?_) k).trans (ends v here))
      obtain ⟨other, there⟩ := State.takeEvent_value (by rw [values]; exact value) after
      by_cases valve : e = .spineClose
      · subst valve
        have drops : (v.takeEvent io (.closes .spineGlue)).stations.engaged =
            v.spineEnd.stations.engaged.filter fun w => decide (w ≠ .spineGlue) := by
          rw [ends v here]
          exact congrArg (List.filter _) (by simp [State.ending])
        have still := (State.engagedValue.mp after).1
        rw [drops, List.mem_filter, decide_eq_true_eq] at still
        exact still.2 rfl
      · exact both e other valve there
    · have left : ∀ e, e ≠ .closes .spineGlue → (v.takeEvent io .spineClose).eventValue e ≠ some (s.phase.counter + 1) := by
        intro e he after
        obtain ⟨other, there⟩ := State.takeEvent_value closes after
        exact both e he other there
      have still : (v.takeEvent io .spineClose).eventValue (.closes .spineGlue) = some (s.phase.counter + 1) :=
        (show v.eventValue (.closes .spineGlue) = some (s.phase.counter + 1) by rw [values]; exact value)
      refine run.trans ((State.foldEvents_single still left listed).trans ((ends v.spineCloses here).trans ?_))
      have due' : (v.ending .spineGlue).glue.spine.closeAt.isSome = true := by
        change v.glue.spine.closeAt.isSome = true
        rw [glue, due]
        rfl
      rw [State.spineEnd_closes due']
      rfl

/-- Settles O29: the valves' points are each one event; the end of SPINE_GLUE is its own with the close taken first. -/
theorem spineValvePoints : Obligations.SpineValvePoints := by
  have counted : ∀ (s : State) (dt : Nat) (f : GlueStations → GlueStations),
      SameBut [.now, .phase, .glue] s ((s.counting dt).updGlue f) := fun s dt f =>
    ((s.counting_same dt).trans (SameBut.updGlue f _)).mono (by decide)
  refine ⟨fun s dt io only => ?_, fun s dt io only => ?_, fun s dt io only => ?_, fun s dt io only engaged => ?_,
    fun s dt io only b clamp g gauged => ?_,
    fun s dt io synced below value others close engaged serving b clamp g gauged bare => ?_⟩
  · exact ⟨_, exec_forward_only only dt io, rfl, rfl, counted s dt _, BytesBut.of_mem rfl⟩
  · exact ⟨_, exec_forward_only only dt io, rfl, rfl, counted s dt _, BytesBut.of_mem rfl⟩
  · exact ⟨_, exec_forward_only only dt io, rfl, rfl, counted s dt _, BytesBut.of_mem rfl⟩
  · have run := exec_forward_served only engaged dt io
    have before := State.ending_same dt .sideGlue s
    have mem : ((s.counting dt).ending .sideGlue).mem = s.mem := rfl
    have now : ((s.counting dt).ending .sideGlue).now = s.now + dt := rfl
    generalize (s.counting dt).ending .sideGlue = v at *
    change exec (.forwardEncoderCount dt io) s = .next (v.sideEnd.updStations (Stations.drop .sideGlue)) at run
    have glue : v.glue = s.glue := before .glue (by decide)
    have rest : SameBut [.glue] v v.sideEnd := SameBut.updGlue _ v
    refine ⟨_, run, (rest .now (by decide)).trans now, ?_, fun h => ?_,
      ((before.trans rest).trans (SameBut.updStations _ _)).mono (by decide), BytesBut.of_mem mem⟩
    · rw [← glue]
      rfl
    · rw [State.updStations_stations, Stations.mem_drop] at h
      exact h.1 rfl
  · have before := s.counting_same dt
    have run := exec_forward_only only dt io
    have mem : (s.counting dt).mem = s.mem := rfl
    have now : (s.counting dt).now = s.now + dt := rfl
    generalize s.counting dt = v at *
    have carousel : v.carousel = s.carousel := before .carousel (by decide)
    have glue : v.glue = s.glue := before .glue (by decide)
    have clamps : ∀ p, v.clampAt p = s.clampAt p := fun p => by rw [State.clampAt, State.clampAt, carousel]
    obtain ⟨valve, own, others, same, memClose⟩ :=
      State.spineCloses_effect ((clamps 6).trans clamp) gauged (t := v.takeEvent io .spineClose) rfl
    rw [glue] at valve own
    exact ⟨_, run, (same .now (by decide)).trans now, valve, own, fun p hp => (others p hp).trans (clamps p),
      (before.trans same).mono (by decide), BytesBut.of_mem (memClose.trans mem)⟩
  · have run := exec_forward_spineEnd synced below value (fun f h k => others f (mem_defaultOrder f) h k) close engaged dt io
    have before := State.ending_same dt .spineGlue s
    have mem : ((s.counting dt).ending .spineGlue).mem = s.mem := rfl
    have now : ((s.counting dt).ending .spineGlue).now = s.now + dt := rfl
    generalize (s.counting dt).ending .spineGlue = v at *
    have carousel : v.carousel = s.carousel := before .carousel (by decide)
    have glue : v.glue = s.glue := before .glue (by decide)
    have stations : v.stations = s.stations := before .stations (by decide)
    have clamps : ∀ p, v.clampAt p = s.clampAt p := fun p => by rw [State.clampAt, State.clampAt, carousel]
    have ended : v.spineEnd.clampAt 6 = .holding
          { (if s.glue.spine.emptyLine then b.flowJudged 0 g.expectedFlow
             else if s.glue.spine.closeAt = none then b else b.flowJudged s.glue.spine.flow g.expectedFlow) with
            glued := b.glued || s.glue.spine.opened } ∧
        (∀ p : Fin 24, p ≠ 6 → v.spineEnd.clampAt p = s.clampAt p) ∧
        v.spineEnd.glue = { s.glue with spine := Valve.atRest } ∧ SameBut [.carousel, .glue] v v.spineEnd ∧
        v.spineEnd.mem = v.mem := by
      by_cases none_due : s.glue.spine.closeAt = none
      · obtain ⟨own, away, rest, same, memEnd⟩ := State.spineEnd_served (s := v) (by rw [stations]; exact serving)
          (by rw [glue]; exact none_due) ((clamps 6).trans clamp) gauged rfl
        rw [glue] at own rest
        refine ⟨own.trans ?_, fun p hp => (away p hp).trans (clamps p), rest, same, memEnd⟩
        rw [if_pos none_due]
      · have full : s.glue.spine.emptyLine = false := Bool.eq_false_iff.mpr fun h => none_due (bare h)
        have due : v.glue.spine.closeAt.isSome = true := by
          rw [glue]
          exact Option.isSome_iff_ne_none.mpr none_due
        rw [State.spineEnd_closes due]
        obtain ⟨valve, ownClose, awayClose, sameClose, memClose⟩ :=
          State.spineCloses_effect ((clamps 6).trans clamp) gauged (t := v.spineCloses) rfl
        rw [glue] at valve ownClose
        generalize v.spineCloses = u at *
        obtain ⟨own, away, rest, same, memEnd⟩ := State.spineEnd_served (s := u)
          (by rw [show u.stations = s.stations from (sameClose .stations (by decide)).trans stations]; exact serving)
          (by rw [valve]) ownClose gauged rfl
        rw [valve] at own rest
        refine ⟨own.trans ?_, fun p hp => (away p hp).trans ((awayClose p hp).trans (clamps p)), rest,
          (sameClose.trans same).mono (by decide), memEnd.trans memClose⟩
        rw [full, if_neg none_due]
        rfl
    obtain ⟨own, away, rest, same, memEnd⟩ := ended
    refine ⟨_, run, (same .now (by decide)).trans now, own, away, congrArg GlueStations.spine rest,
      (congrArg GlueStations.side rest :), fun h => ?_, ((before.trans same).trans (SameBut.updStations _ _)).mono (by decide),
      BytesBut.of_mem (memEnd.trans mem)⟩
    rw [State.updStations_stations, Stations.mem_drop] at h
    exact h.1 rfl

end Sys2Proof.Machine
end

section
/-!
The COVER window (R7, R77 to R79, R121 to R124, R161, R162).
-/

namespace Sys2Proof.Machine

/-! ### The code check (R123) -/

theorem highHalf_eq (c : Word) : highHalf c = c.toNat / 65536 := by
  have bound := c.isLt
  rw [highHalf, BitVec.extractLsb'_toNat, Nat.shiftRight_eq_div_pow]
  omega

theorem lowHalf_eq (c : Word) : lowHalf c = c.toNat % 65536 := by
  rw [lowHalf, BitVec.extractLsb'_toNat]
  rfl

/-- Whether a cover's code is a book's own (R123). -/
def ownCode (l : LaunchFormat) (code : Option Word) : Bool :=
  match code with
  | some c => decide (c.toNat / 65536 = l.coverTitle) && decide (c.toNat % 65536 = l.personal.toNat)
  | none => false

theorem coverCheck_own {l : LaunchFormat} {code : Option Word} (personal : l.mode = .personal) (own : ownCode l code = true) :
    coverCheck l code = (none, false) := by
  cases code with
  | none => cases own
  | some c =>
    simp only [ownCode, Bool.and_eq_true, decide_eq_true_eq] at own
    unfold coverCheck
    rw [personal]
    dsimp only
    rw [highHalf_eq, lowHalf_eq, if_pos own]

theorem coverCheck_foreign {l : LaunchFormat} {code : Option Word} (personal : l.mode = .personal)
    (own : ownCode l code = false) : coverCheck l code = (some .coverMismatch, true) := by
  unfold coverCheck
  rw [personal]
  cases code with
  | none => rfl
  | some c =>
    dsimp only
    rw [highHalf_eq, lowHalf_eq, if_neg]
    rintro ⟨title, own'⟩
    simp [ownCode, title, own'] at own

theorem coverCheck_title {l : LaunchFormat} (title : l.mode = .title) (code : Option Word) :
    coverCheck l code =
      ((match code with
        | some c => if c.toNat / 65536 = l.coverTitle then none else some .coverMismatch
        | none => some .coverNoread), false) := by
  unfold coverCheck
  rw [title]
  cases code with
  | none => rfl
  | some c =>
    dsimp only
    rw [highHalf_eq]
    split <;> rfl

/-! ### A cover drawn (R122 check 3, R123) -/

/-- The book after the code check. -/
def coverJudged (l : LaunchFormat) (code : Option Word) (b : Book) : Book :=
  match (coverCheck l code).1 with
  | some x => b.spoilWithCode x (carouselPoint 9) code
  | none => b

/-- The state in which a cover is drawn and its code checked. -/
def State.coverDrawn (l : LaunchFormat) (code : Option Word) (scored : Bool) (b : Book) (s : State) : State :=
  (s.setClamp 9 (.holding (coverJudged l code b))).updCover fun k => { k with fed := some ⟨l.magazine, code, scored⟩ }

theorem State.feedCover_eq (l : LaunchFormat) (code : Option Word) (scored : Bool) (b : Book) (s : State) :
    s.feedCover l code scored b =
      if (coverCheck l code).2 then (s.coverDrawn l code scored b).raiseCause .coverSequence
      else s.coverDrawn l code scored b := by
  unfold State.feedCover State.coverDrawn coverJudged
  obtain ⟨x, halts⟩ := coverCheck l code
  cases x <;> rfl

theorem State.coverDrawn_effect (l : LaunchFormat) (code : Option Word) (scored : Bool) (b : Book) (s : State) :
    (s.coverDrawn l code scored b).clampAt 9 = .holding (coverJudged l code b) ∧
      (∀ p : Fin 24, p ≠ 9 → (s.coverDrawn l code scored b).clampAt p = s.clampAt p) ∧
      (s.coverDrawn l code scored b).cover = { s.cover with fed := some ⟨l.magazine, code, scored⟩ } ∧
      SameBut [.carousel, .cover] s (s.coverDrawn l code scored b) ∧ (s.coverDrawn l code scored b).mem = s.mem := by
  obtain ⟨own, others, -, -, same, mem⟩ := s.setClamp_effect 9 (.holding (coverJudged l code b))
  refine ⟨own, others, rfl, ?_, mem⟩
  exact (same.trans (SameBut.updCover _ _)).mono (by decide)

/-! ### The feed given up at a halt (R12, R124) -/

theorem State.disengage_fed {s : State} (w : Window) (h : .cover ∈ s.stations.engaged ∨ s.cover.fed = none) :
    .cover ∈ (s.disengage w).stations.engaged ∨ (s.disengage w).cover.fed = none := by
  unfold State.disengage
  split
  · by_cases cover : w = .cover
    · subst cover
      exact .inr rfl
    · rcases h with engaged | rest
      · left
        rw [State.restStation_frame w _ |>.2.2.1, State.updStations_stations, Stations.mem_drop]
        exact ⟨fun same => cover same.symm, engaged⟩
      · right
        cases w <;> simp [State.restStation, rest]
  · exact h

theorem State.disengageAll_fed {s : State} (h : .cover ∈ s.stations.engaged ∨ s.cover.fed = none) :
    s.disengageAll.cover.fed = none := by
  have fold : ∀ (l : List Window) (s : State), (.cover ∈ s.stations.engaged ∨ s.cover.fed = none) →
      .cover ∈ (l.foldl (fun s w => s.disengage w) s).stations.engaged ∨
        (l.foldl (fun s w => s.disengage w) s).cover.fed = none := by
    intro l
    induction l with
    | nil => exact fun _ h => h
    | cons w l ih => exact fun s h => ih _ (State.disengage_fed w h)
  have none_engaged : s.disengageAll.stations.engaged = [] := State.disengageAll_engaged s
  have after := fold allWindows s h
  rw [← State.disengageAll] at after
  rcases after with engaged | rest
  · rw [none_engaged] at engaged
    cases engaged
  · exact rest

/-- A halt out of an acting mode gives up the feed of an engaged COVER station. -/
theorem State.changeMode_fed {m : LineMode} {s : State} (rests : m.acting = false) (acting : s.line.mode.acting = true)
    (engaged : .cover ∈ s.stations.engaged) : (s.changeMode m).cover.fed = none := by
  have same : (s.changeMode m).cover = (s.driven m).cover := s.changeMode_same m .cover (by decide)
  rw [same, State.driven_eq, State.changeDrive_rests _ rests, acting, if_pos rfl]
  obtain ⟨heater, -⟩ := (s.marked m).stopDrive.disengageAll.modeHeater_effect m
  have cover : ((s.marked m).stopDrive.disengageAll.modeHeater m).cover = (s.marked m).stopDrive.disengageAll.cover :=
    heater .cover (by decide)
  have stations : (s.marked m).stopDrive.stations = s.stations := s.marked_same m .stations (by decide)
  rw [cover]
  exact State.disengageAll_fed (.inl (by rw [stations]; exact engaged))

theorem State.raiseCause_fed {c : Cause} {s : State} (acting : s.line.mode.acting = true)
    (engaged : .cover ∈ s.stations.engaged) : (s.raiseCause c).cover.fed = none := by
  have halts : s.line.mode.halts = true := by
    revert acting
    cases s.line.mode <;> decide
  obtain ⟨u, run, line, same, -⟩ := State.raiseCause_of_halts c s halts
  rw [run]
  refine State.changeMode_fed rfl ?_ ?_
  · rw [State.updLine_line, line]
    exact acting
  · rw [State.updLine_stations, show u.stations = s.stations from same .stations (by decide)]
    exact engaged

/-- An entry to a mode, seen from a state with the same line, configuration and works. -/
theorem Entered.of_works {m : LineMode} {s u t : State} (h : Entered m u t) (cool : m ≠ .warming)
    (config : u.config = s.config) (line : u.line = s.line) (port : u.port = s.port) (miller : u.miller = s.miller)
    (scorer : u.cover.scorer = s.cover.scorer) (pending : u.cover.pending = s.cover.pending) : Entered m s t := by
  unfold Entered at h ⊢
  rw [if_neg (c := m = .warming ∧ u.pot.inBand = true) fun k => cool k.1, config, line, port, miller, scorer, pending] at h
  rw [if_neg (c := m = .warming ∧ s.pot.inBand = true) fun k => cool k.1]
  exact h

/-- A foreign code on a PERSONAL book: the cover drawn, the cause set, the line halted, the feed given up. -/
theorem State.feedCover_halts {l : LaunchFormat} {code : Option Word} {scored : Bool} {b : Book} {s t : State}
    (personal : l.mode = .personal) (own : ownCode l code = false) (acting : s.line.mode.acting = true)
    (engaged : .cover ∈ s.stations.engaged) (ht : t = s.feedCover l code scored b) :
    Entered .halted s t ∧ t.line.causes = { s.line.causes with coverSequence := true } ∧
      t.line.haltStart = some s.now ∧ t.clampAt 9 = .holding (b.spoilWithCode .coverMismatch ⟨true, 9⟩ code) ∧
      (∀ p : Fin 24, p ≠ 9 → t.clampAt p = s.clampAt p) ∧ t.cover.fed = none ∧ t.gathering.cells = s.gathering.cells ∧
      Noticed (fun c => if c = 3 ∨ c = 4 then 1 else 0) s t ∧
      SameBut [.stations, .gathering, .carousel, .format, .miller, .glue, .cover, .line, .port] s t ∧
      BytesBut (Header.causes :: modeWords) s t := by
  have check := coverCheck_foreign personal own
  rw [State.feedCover_eq, check, if_pos rfl] at ht
  obtain ⟨clamp, others, cover, same, mem⟩ := s.coverDrawn_effect l code scored b
  have judged : coverJudged l code b = b.spoilWithCode .coverMismatch ⟨true, 9⟩ code := by
    unfold coverJudged
    rw [check]
    rfl
  rw [judged] at clamp
  generalize s.coverDrawn l code scored b = u at *
  have line : u.line = s.line := same .line (by decide)
  have port : u.port = s.port := same .port (by decide)
  have stations : u.stations = s.stations := same .stations (by decide)
  have halts : u.line.mode.halts = true := by
    rw [line]
    revert acting
    cases s.line.mode <;> decide
  have raised := State.raiseCause_whole .coverSequence u
  obtain ⟨entered, haltStart, noticed⟩ := raised.halted halts
  have fed := State.raiseCause_fed (c := .coverSequence) (s := u) (by rw [line]; exact acting) (by rw [stations]; exact engaged)
  rw [← ht] at raised entered haltStart noticed fed
  obtain ⟨cells, places, -⟩ := raised.works
  have sameClamps : ∀ p, t.clampAt p = u.clampAt p := fun p => by rw [State.clampAt, State.clampAt, places]
  refine ⟨?_, by rw [raised.causes, line]; rfl, by rw [haltStart, show u.now = s.now from same .now (by decide)],
    (sameClamps 9).trans clamp, fun p hp => (sameClamps p).trans (others p hp), fed,
    cells.trans (congrArg Gathering.cells (same .gathering (by decide))), noticed.of_counts (by rw [port]),
    (same.trans raised.same).mono (by decide), ((BytesBut.of_mem (w := []) mem).trans raised.bytes).mono fun _ h => h⟩
  exact entered.of_works (by decide) (same .config (by decide)) line port (same .miller (by decide)) (by rw [cover])
    (by rw [cover])

/-! ### The checks in order (R122) -/

theorem State.scorerReady_iff {s : State} {b : Book} {g : GaugeFormat} {k : CoverFormat} (gauged : b.gauged = some g)
    (cover : g.cover = some k) :
    s.scorerReady b = true ↔ s.cover.scorer.target = none ∧ s.cover.scorer.setting = some k.scores := by
  unfold State.scorerReady
  rw [gauged, Option.bind_some, cover]
  exact Drive.standsAt_iff _ _

theorem Book.scoreDetail_of {b : Book} {g : GaugeFormat} {k : CoverFormat} (gauged : b.gauged = some g)
    (cover : g.cover = some k) : b.scoreDetail = word32 k.scores.s1.toNat := by
  unfold Book.scoreDetail
  rw [gauged, Option.bind_some, cover]

/-- A good book with the scorer in place: the cover is drawn and scored, or missing. -/
theorem State.coverChecks_ready {l : LaunchFormat} {code : Option Word} {b : Book} {s : State} (good : b.spoil = none)
    (ready : s.scorerReady b = true) :
    s.coverChecks l code b =
      if s.magazineEmpty l.magazine then
        s.setClamp 9 (.holding { b with
          spoil := some ⟨.coverMissing, ⟨true, 9⟩, word32 (magazineNumber l.magazine), false⟩ })
      else s.feedCover l code true b := by
  have taken : b.good = true := by rw [Book.good, good]; rfl
  unfold State.coverChecks
  rw [ready, taken]
  simp only [Bool.not_true, Bool.and_false, Bool.false_eq_true, false_and, if_false, Bool.not_false, Bool.and_true]
  rw [Book.spoilWith_good good]
  rfl

/-- A good book with the scorer away: SCORE_LATE, and the cover drawn unscored for a PERSONAL book alone. -/
theorem State.coverChecks_late {l : LaunchFormat} {code : Option Word} {b c : Book} {s : State} (good : b.spoil = none)
    (away : s.scorerReady b = false) (hc : c = { b with spoil := some ⟨.scoreLate, ⟨true, 9⟩, b.scoreDetail, false⟩ }) :
    s.coverChecks l code b =
      if l.mode = .title ∨ s.magazineEmpty l.magazine = true then s.setClamp 9 (.holding c)
      else s.feedCover l code false c := by
  have taken : b.good = true := by rw [Book.good, good]; rfl
  have marked : b.spoilWith .scoreLate (carouselPoint 9) b.scoreDetail false = c := by
    rw [Book.spoilWith_good good, hc]
    rfl
  have kept : ∀ detail, c.spoilWith .coverMissing (carouselPoint 9) detail false = c := fun detail => by
    rw [hc]
    rfl
  unfold State.coverChecks
  rw [away, taken]
  simp only [Bool.not_false, Bool.true_or, Bool.and_true, if_true, true_and, marked, kept, Bool.not_true, Bool.and_false]
  by_cases title : l.mode = .title
  · rw [if_pos title, if_pos (.inl title)]
  · rw [if_neg title]
    exact if_congr (by simp [title]) rfl rfl

/-- A spoiled PERSONAL book keeps its code: the cover is drawn unscored, if there is one. -/
theorem State.coverChecks_spoiled {l : LaunchFormat} {code : Option Word} {b : Book} {s : State} (spoiled : b.spoil ≠ none)
    (personal : l.mode = .personal) :
    s.coverChecks l code b =
      if s.magazineEmpty l.magazine then s.setClamp 9 (.holding b) else s.feedCover l code false b := by
  obtain ⟨m, marked⟩ := Option.ne_none_iff_exists'.mp spoiled
  have bad : b.good = false := by rw [Book.good, marked]; rfl
  have kept : ∀ detail, b.spoilWith .coverMissing (carouselPoint 9) detail false = b := fun detail => by
    rw [Book.spoilWith, marked]
  unfold State.coverChecks
  rw [bad, personal]
  simp only [ne_eq, not_true_eq_false, decide_false, Bool.or_false, Bool.false_and, Bool.false_eq_true, if_false, false_and,
    kept]

/-! ### The window start (R77, R78, R122) -/

/-- A station engaged at its window start that takes up the book at its position. -/
structure TakenUp (w : Window) (dt : Nat) (s u : State) : Prop where
  now : u.now = s.now + dt
  engaged : u.stations.engaged = w :: s.stations.engaged
  serving : w ∈ u.stations.serving
  same : SameBut [.now, .phase, .stations] s u
  mem : u.mem = s.mem

theorem State.takenUp (w : Window) (dt : Nat) (s : State) : TakenUp w dt s (((s.counting dt).engaging w).serve w) := by
  obtain ⟨serves, engaged, same, mem⟩ := ((s.counting dt).engaging w).serve_effect w
  exact ⟨rfl, engaged, (serves w).mpr (.inl rfl), ((s.engaging_same dt w).trans same).mono (by decide), mem⟩

/-- The checks run on a good book with a cover, and on a spoiled PERSONAL one. -/
theorem exec_coverStart {s : State} (only : OnlyEvent (.opens .cover) s) (acting : s.line.mode.acting = true) (dt : Nat)
    (io : CountInputs) {b : Book} (clamp : s.clampAt 9 = .holding b) {l : LaunchFormat} (launched : b.atLaunch = some l)
    (covered : l.mode ≠ .noCover) (served : b.spoil = none ∨ l.mode = .personal) :
    ∃ u, TakenUp .cover dt s u ∧ exec (.forwardEncoderCount dt io) s = .next (u.coverChecks l io.cover b) := by
  refine ⟨_, s.takenUp .cover dt, (exec_forward_started only acting (by decide) dt io).trans ?_⟩
  refine congrArg Host.Outcome.next ?_
  have before : ((s.counting dt).engaging .cover).clampAt 9 = .holding b := clamp
  generalize (s.counting dt).engaging .cover = v at *
  have takes : b.good = true ∨ l.mode = .personal := served.imp (fun good => by rw [Book.good, good]; rfl) id
  change v.coverStart io.cover = _
  rw [State.coverStart, before]
  dsimp only
  rw [launched]
  dsimp only
  rw [if_pos takes, if_neg covered]

theorem TakenUp.clamps {w : Window} {dt : Nat} {s u : State} (h : TakenUp w dt s u) (p : Fin 24) :
    u.clampAt p = s.clampAt p := by
  rw [State.clampAt, State.clampAt, show u.carousel = s.carousel from h.same .carousel (by decide)]

/-- A book marked where it stands. -/
theorem TakenUp.clamped {dt : Nat} {s u : State} (h : TakenUp .cover dt s u) (x : Slot) :
    Later dt s (u.setClamp 9 x) ∧ (u.setClamp 9 x).clampAt 9 = x ∧
      (∀ p : Fin 24, p ≠ 9 → (u.setClamp 9 x).clampAt p = s.clampAt p) ∧
      (u.setClamp 9 x).stations.engaged = .cover :: s.stations.engaged ∧ .cover ∈ (u.setClamp 9 x).stations.serving ∧
      SameBut [.now, .phase, .stations, .carousel] s (u.setClamp 9 x) ∧ BytesBut [] s (u.setClamp 9 x) := by
  obtain ⟨own, others, -, -, same, mem⟩ := u.setClamp_effect 9 x
  exact ⟨h.now, own, fun p hp => (others p hp).trans (h.clamps p), h.engaged, h.serving, (h.same.trans same).mono (by decide),
    BytesBut.of_mem (mem.trans h.mem)⟩

/-- A cover drawn whose code halts nothing. -/
theorem TakenUp.drawn {dt : Nat} {s u t : State} (h : TakenUp .cover dt s u) {l : LaunchFormat} {code : Option Word}
    {scored : Bool} {b : Book} (quiet : (coverCheck l code).2 = false) (ht : t = u.feedCover l code scored b) :
    Later dt s t ∧ t.cover = { s.cover with fed := some ⟨l.magazine, code, scored⟩ } ∧
      t.clampAt 9 = .holding (coverJudged l code b) ∧ (∀ p : Fin 24, p ≠ 9 → t.clampAt p = s.clampAt p) ∧
      t.stations.engaged = .cover :: s.stations.engaged ∧ .cover ∈ t.stations.serving ∧
      SameBut [.now, .phase, .stations, .carousel, .cover] s t ∧ BytesBut [] s t := by
  rw [State.feedCover_eq, if_neg (by rw [quiet]; decide)] at ht
  obtain ⟨clamp, others, cover, same, mem⟩ := u.coverDrawn_effect l code scored b
  rw [← ht] at clamp others cover same mem
  have stations : t.stations = u.stations := same .stations (by decide)
  refine ⟨(same .now (by decide)).trans h.now, ?_, clamp, fun p hp => (others p hp).trans (h.clamps p),
    by rw [stations, h.engaged], by rw [stations]; exact h.serving, (h.same.trans same).mono (by decide),
    BytesBut.of_mem (mem.trans h.mem)⟩
  rw [cover, show u.cover = s.cover from h.same .cover (by decide)]

/-- A foreign code on a PERSONAL book. -/
theorem TakenUp.foreign {dt : Nat} {s u t : State} (h : TakenUp .cover dt s u) {l : LaunchFormat} {code : Option Word}
    {scored : Bool} {b : Book} (acting : s.line.mode.acting = true) (personal : l.mode = .personal)
    (own : ownCode l code = false) (ht : t = u.feedCover l code scored b) :
    Later dt s t ∧ Entered .halted s t ∧ t.line.causes = { s.line.causes with coverSequence := true } ∧
      t.line.haltStart = some (s.now + dt) ∧ t.clampAt 9 = .holding (b.spoilWithCode .coverMismatch ⟨true, 9⟩ code) ∧
      t.cover.fed = none ∧ (∀ p : Fin 24, p ≠ 9 → t.clampAt p = s.clampAt p) ∧ t.gathering.cells = s.gathering.cells ∧
      Noticed (fun c => if c = 3 ∨ c = 4 then 1 else 0) s t ∧
      SameBut [.now, .phase, .stations, .gathering, .carousel, .format, .miller, .glue, .cover, .line, .port] s t ∧
      BytesBut (Header.causes :: modeWords) s t := by
  have line : u.line = s.line := h.same .line (by decide)
  have port : u.port = s.port := h.same .port (by decide)
  have cover : u.cover = s.cover := h.same .cover (by decide)
  obtain ⟨entered, causes, haltStart, clamp, others, fed, cells, noticed, same, bytes⟩ :=
    State.feedCover_halts personal own (by rw [line]; exact acting) (by rw [h.engaged]; exact List.mem_cons_self) ht
  refine ⟨(same .now (by decide)).trans h.now, ?_, by rw [causes, line], by rw [haltStart, h.now], clamp, fed,
    fun p hp => (others p hp).trans (h.clamps p), cells.trans (congrArg Gathering.cells (h.same .gathering (by decide))),
    noticed.of_counts (by rw [port]), (h.same.trans same).mono (by decide),
    ((BytesBut.of_mem (w := []) h.mem).trans bytes).mono fun _ k => k⟩
  exact entered.of_works (by decide) (h.same .config (by decide)) line port (h.same .miller (by decide)) (by rw [cover])
    (by rw [cover])

/-! ### The window end and the changeover (R79, R121, R124) -/

theorem State.coverEnd_effect {s t : State} {b : Book} (clamp : s.clampAt 9 = .holding b) (ht : t = s.coverEnd) :
    t.clampAt 9 = .holding
        { b with covered := b.covered || (decide (.cover ∈ s.stations.serving) && s.cover.fed.isSome) } ∧
      (∀ p : Fin 24, p ≠ 9 → t.clampAt p = s.clampAt p) ∧ t.cover = { s.cover with fed := none } ∧
      SameBut [.carousel, .cover] s t ∧ t.mem = s.mem := by
  obtain ⟨u, hu⟩ : ∃ u, u = if s.isServing .cover = true ∧ s.cover.fed.isSome = true then
      s.modClamp 9 fun b => { b with covered := true } else s := ⟨_, rfl⟩
  have whole : t = u.updCover fun c => { c with fed := none } := by rw [ht, hu]; rfl
  have served : s.isServing .cover = decide (.cover ∈ s.stations.serving) := rfl
  have marked : u.clampAt 9 = .holding
        { b with covered := b.covered || (decide (.cover ∈ s.stations.serving) && s.cover.fed.isSome) } ∧
      (∀ p : Fin 24, p ≠ 9 → u.clampAt p = s.clampAt p) ∧ SameBut [.carousel] s u ∧ u.mem = s.mem := by
    rw [served] at hu
    by_cases both : decide (Window.cover ∈ s.stations.serving) = true ∧ s.cover.fed.isSome = true
    · rw [if_pos both] at hu
      obtain ⟨own, others, -, -, same, mem⟩ := s.modClamp_effect 9 fun b => { b with covered := true }
      rw [← hu] at own others same mem
      refine ⟨own.trans ?_, others, same, mem⟩
      rw [clamp, both.1, both.2, Bool.and_true, Bool.or_true]
      rfl
    · rw [if_neg both] at hu
      have neither : (decide (Window.cover ∈ s.stations.serving) && s.cover.fed.isSome) = false :=
        Bool.eq_false_iff.mpr fun h => both ((Bool.and_eq_true _ _).mp h)
      rw [neither, Bool.or_false, hu]
      exact ⟨clamp, fun _ _ => rfl, SameBut.refl _ s, rfl⟩
  obtain ⟨own, others, same, mem⟩ := marked
  have rest := SameBut.updCover (fun c => { c with fed := none }) u
  rw [← whole] at rest
  have carousel : t.carousel = u.carousel := rest .carousel (by decide)
  refine ⟨by rw [State.clampAt, carousel]; exact own, fun p hp => ?_, ?_, (same.trans rest).mono (by decide), ?_⟩
  · rw [State.clampAt, carousel]
    exact others p hp
  · rw [whole, State.updCover_cover, show u.cover = s.cover from same .cover (by decide)]
  · rw [whole]
    exact mem

/-- Settles O30: the start by the checks in order, the end, and the changeover of the scorer. -/
theorem coverStartChecksCode : Obligations.CoverStartChecksCode := by
  refine ⟨fun s dt io only acting b clamp good l launched g gauged k cover idle stands fullA fullB => ?_,
    fun s dt io only acting b clamp l launched empty he own ho => ?_,
    fun s dt io only engaged acting b clamp => ?_, fun s => ?_⟩
  · have stocked : s.magazineEmpty l.magazine = false := by
      unfold State.magazineEmpty
      cases magazine : l.magazine with
      | a => exact fullA magazine
      | b => exact fullB magazine
    have checks : ∀ u, TakenUp .cover dt s u → u.coverChecks l io.cover b = u.feedCover l io.cover true b := fun u taken => by
      have same : u.cover = s.cover := taken.same .cover (by decide)
      have ready : u.scorerReady b = true := (State.scorerReady_iff gauged cover).mpr (by rw [same]; exact ⟨idle, stands⟩)
      rw [State.coverChecks_ready good ready, if_neg]
      rw [show u.magazineEmpty l.magazine = s.magazineEmpty l.magazine by simp only [State.magazineEmpty, same] <;> rfl, stocked]
      decide
    refine ⟨fun title => ?_, fun personal own => ?_, fun personal foreign => ?_⟩
    · obtain ⟨u, taken, run⟩ := exec_coverStart only acting dt io clamp launched (by rw [title]; decide) (.inl good)
      rw [checks u taken] at run
      have check := coverCheck_title title io.cover
      obtain ⟨later, fed, own, others, engaged, serving, same, bytes⟩ :=
        taken.drawn (l := l) (code := io.cover) (scored := true) (b := b) (by rw [check]) rfl
      refine ⟨_, run, later, fed, own.trans (congrArg Slot.holding ?_), others, engaged, serving, same, bytes⟩
      unfold coverJudged
      rw [check]
      cases io.cover with
      | none => exact Book.spoilWith_good good _ _ _ _
      | some c =>
        by_cases right : c.toNat / 65536 = l.coverTitle
        · simp only [right, if_true]
          rw [← good]
        · simp only [right, if_false]
          exact Book.spoilWith_good good _ _ _ _
    · obtain ⟨u, taken, run⟩ := exec_coverStart only acting dt io clamp launched (by rw [personal]; decide) (.inl good)
      rw [checks u taken] at run
      obtain ⟨c, read, title, code⟩ := own
      have check := coverCheck_own personal (code := io.cover) (by
        rw [Option.mem_def.mp read]
        simp [ownCode, title, code])
      obtain ⟨later, fed, judged, others, -, -, same, bytes⟩ :=
        taken.drawn (l := l) (code := io.cover) (scored := true) (b := b) (by rw [check]) rfl
      refine ⟨_, run, later, fed, judged.trans (congrArg Slot.holding ?_), others, same, bytes⟩
      unfold coverJudged
      rw [check]
    · obtain ⟨u, taken, run⟩ := exec_coverStart only acting dt io clamp launched (by rw [personal]; decide) (.inl good)
      rw [checks u taken] at run
      have other : ownCode l io.cover = false := by
        cases read : io.cover with
        | none => rfl
        | some c =>
          have wrong := foreign c read
          simp only [ownCode, Bool.and_eq_false_iff, decide_eq_false_iff_not]
          exact wrong
      obtain ⟨later, entered, causes, haltStart, marked, fed, others, cells, noticed, same, bytes⟩ :=
        taken.foreign acting personal other (scored := true) (b := b) rfl
      refine ⟨_, run, later, entered, causes, haltStart, marked.trans (congrArg Slot.holding ?_), fed, others, cells, noticed,
        same, bytes⟩
      exact Book.spoilWith_good good _ _ _ _
  · have magazine : ∀ u, TakenUp .cover dt s u → u.magazineEmpty l.magazine = empty := fun u taken => by
      have cover : u.cover = s.cover := taken.same .cover (by decide)
      unfold State.magazineEmpty
      rw [he, cover] <;> cases l.magazine <;> rfl
    have codes : ownCode l io.cover = own := by
      unfold ownCode
      rw [ho] <;> cases io.cover <;> rfl
    refine ⟨fun quiet => ?_, fun good g gauged k cover covered away late hl => ⟨fun missed => ?_, fun personal stocked right => ?_⟩,
      fun good g gauged k cover covered idle stands bare => ?_,
      fun spoiled personal stocked => ⟨fun right => ?_, fun foreign => ?_⟩⟩
    · have run := exec_forward_started only acting (by decide) dt io
      have before := State.engaging_same dt .cover s
      have stations := State.engaging_stations dt .cover s
      have mem : ((s.counting dt).engaging .cover).mem = s.mem := rfl
      have now : ((s.counting dt).engaging .cover).now = s.now + dt := rfl
      have taken := s.takenUp .cover dt
      generalize (s.counting dt).engaging .cover = v at *
      have clamps : ∀ p, v.clampAt p = s.clampAt p := fun p => by
        rw [State.clampAt, State.clampAt, show v.carousel = s.carousel from before .carousel (by decide)]
      change exec (.forwardEncoderCount dt io) s = .next (v.coverStart io.cover) at run
      have start : v.coverStart io.cover = if b.good = true ∨ l.mode = .personal then
          if l.mode = .noCover then v.serve .cover else (v.serve .cover).coverChecks l io.cover b else v := by
        rw [State.coverStart, clamps, clamp]
        dsimp only
        rw [launched]
      rw [start] at run
      rcases quiet with ⟨good, bare⟩ | ⟨spoiled, idle⟩
      · have taking : b.good = true := by rw [Book.good, good]; rfl
        rw [if_pos (.inl taking), if_pos bare] at run
        exact ⟨_, run, taken.now, taken.engaged, taken.same.mono (by decide), taken.clamps, BytesBut.of_mem taken.mem⟩
      · have bad : b.good = false := by
          obtain ⟨m, marked⟩ := Option.ne_none_iff_exists'.mp spoiled
          rw [Book.good, marked]
          rfl
        by_cases personal : l.mode = .personal
        · have bare : empty = true := idle.resolve_left fun h => h personal
          rw [if_pos (.inr personal), if_neg (by rw [personal]; decide), State.coverChecks_spoiled spoiled personal,
            magazine _ taken, bare, if_pos rfl] at run
          obtain ⟨later, here, others, engaged, -, same, bytes⟩ := taken.clamped (.holding b)
          refine ⟨_, run, later, engaged, same, fun p => ?_, bytes⟩
          by_cases nine : p = 9
          · rw [nine, here, clamp]
          · exact others p nine
        · rw [if_neg (fun h => h.elim (fun taking => by rw [bad] at taking; cases taking) personal)] at run
          exact ⟨_, run, now, by rw [stations], before.mono (by decide), clamps, BytesBut.of_mem mem⟩
    · obtain ⟨u, taken, run⟩ := exec_coverStart only acting dt io clamp launched covered (.inl good)
      have late_scorer : u.scorerReady b = false := Bool.eq_false_iff.mpr fun h => by
        obtain ⟨idle, stands⟩ := (State.scorerReady_iff gauged cover).mp h
        rw [show u.cover = s.cover from taken.same .cover (by decide)] at idle stands
        exact away.elim (fun h => h idle) (fun h => h stands)
      rw [State.coverChecks_late good late_scorer (hl.trans (by rw [Book.scoreDetail_of gauged cover])), magazine u taken,
        if_pos missed] at run
      obtain ⟨later, here, others, -, serving, same, bytes⟩ := taken.clamped (.holding late)
      exact ⟨_, run, later, here, others, serving, same, bytes⟩
    · obtain ⟨u, taken, run⟩ := exec_coverStart only acting dt io clamp launched covered (.inl good)
      have late_scorer : u.scorerReady b = false := Bool.eq_false_iff.mpr fun h => by
        obtain ⟨idle, stands⟩ := (State.scorerReady_iff gauged cover).mp h
        rw [show u.cover = s.cover from taken.same .cover (by decide)] at idle stands
        exact away.elim (fun h => h idle) (fun h => h stands)
      have check := coverCheck_own personal (codes.trans right)
      rw [State.coverChecks_late good late_scorer (hl.trans (by rw [Book.scoreDetail_of gauged cover])), magazine u taken,
        if_neg (by rw [personal, stocked]; decide)] at run
      obtain ⟨later, fed, judged, others, -, serving, same, bytes⟩ :=
        taken.drawn (l := l) (code := io.cover) (scored := false) (b := late) (by rw [check]) rfl
      refine ⟨_, run, later, judged.trans (congrArg Slot.holding ?_), others, serving, fed, same, bytes⟩
      unfold coverJudged
      rw [check]
    · obtain ⟨u, taken, run⟩ := exec_coverStart only acting dt io clamp launched covered (.inl good)
      have ready : u.scorerReady b = true := (State.scorerReady_iff gauged cover).mpr (by
        rw [show u.cover = s.cover from taken.same .cover (by decide)]
        exact ⟨idle, stands⟩)
      rw [State.coverChecks_ready good ready, magazine u taken, bare, if_pos rfl] at run
      obtain ⟨later, here, others, -, serving, same, bytes⟩ := taken.clamped _
      refine ⟨_, run, later, here.trans ?_, others, serving, same, bytes⟩
      cases l.magazine <;> rfl
    · obtain ⟨u, taken, run⟩ := exec_coverStart only acting dt io clamp launched (by rw [personal]; decide) (.inr personal)
      have check := coverCheck_own personal (codes.trans right)
      rw [State.coverChecks_spoiled spoiled personal, magazine u taken, if_neg (by rw [stocked]; decide)] at run
      obtain ⟨later, fed, judged, others, -, serving, same, bytes⟩ :=
        taken.drawn (l := l) (code := io.cover) (scored := false) (b := b) (by rw [check]) rfl
      refine ⟨_, run, later, fed, fun p => ?_, serving, same, bytes⟩
      by_cases nine : p = 9
      · rw [nine, judged, clamp]
        unfold coverJudged
        rw [check]
      · exact others p nine
    · obtain ⟨u, taken, run⟩ := exec_coverStart only acting dt io clamp launched (by rw [personal]; decide) (.inr personal)
      rw [State.coverChecks_spoiled spoiled personal, magazine u taken, if_neg (by rw [stocked]; decide)] at run
      obtain ⟨later, entered, causes, -, marked, fed, others, -, noticed, -⟩ :=
        taken.foreign acting personal (codes.trans foreign) (scored := false) (b := b) rfl
      refine ⟨_, run, later, entered, causes, fed, fun p => ?_, noticed⟩
      by_cases nine : p = 9
      · obtain ⟨m, mark⟩ := Option.ne_none_iff_exists'.mp spoiled
        rw [nine, marked, clamp, Book.spoilWithCode, Book.spoilWith, mark]
      · exact others p nine
  · have run := exec_forward_served only engaged dt io
    have before := State.ending_same dt .cover s
    have mem : ((s.counting dt).ending .cover).mem = s.mem := rfl
    have now : ((s.counting dt).ending .cover).now = s.now + dt := rfl
    generalize (s.counting dt).ending .cover = v at *
    have carousel : v.carousel = s.carousel := before .carousel (by decide)
    have cover : v.cover = s.cover := before .cover (by decide)
    have stations : v.stations = s.stations := before .stations (by decide)
    have clamps : ∀ p, v.clampAt p = s.clampAt p := fun p => by rw [State.clampAt, State.clampAt, carousel]
    change exec (.forwardEncoderCount dt io) s =
      .next ((v.coverEnd.updStations (Stations.drop .cover)).changeover .cover) at run
    obtain ⟨own, others, fed, same, memEnd⟩ := State.coverEnd_effect ((clamps 9).trans clamp) (t := v.coverEnd) rfl
    rw [stations, cover] at own
    rw [cover] at fed
    generalize v.coverEnd = u at *
    have dropped := SameBut.updStations (Stations.drop .cover) u
    have memDrop : (u.updStations (Stations.drop .cover)).mem = u.mem := rfl
    have away : .cover ∉ (u.updStations (Stations.drop .cover)).stations.engaged := fun h => by
      rw [State.updStations_stations, Stations.mem_drop] at h
      exact h.1 rfl
    generalize u.updStations (Stations.drop .cover) = w at *
    have line : w.line = s.line :=
      (dropped .line (by decide)).trans ((same .line (by decide)).trans (before .line (by decide)))
    have sameClamps : ∀ p, w.clampAt p = u.clampAt p := fun p => by
      rw [State.clampAt, State.clampAt, show w.carousel = u.carousel from dropped .carousel (by decide)]
    obtain ⟨millerAfter, coverAfter, sameAfter, memAfter⟩ := w.changeover_effect .cover
    generalize w.changeover .cover = t at *
    rw [if_pos rfl, line, acting, if_pos rfl] at coverAfter
    rw [if_neg (by decide)] at millerAfter
    have last : ∀ p, t.clampAt p = u.clampAt p := fun p => by
      rw [← sameClamps, State.clampAt, State.clampAt, show t.carousel = w.carousel from sameAfter .carousel (by decide)]
    have whole : SameBut [.now, .phase, .stations, .miller, .carousel, .cover] s t :=
      (((before.trans same).trans dropped).trans sameAfter).mono (by decide)
    have miller : t.miller = s.miller := millerAfter.trans
      ((dropped .miller (by decide)).trans ((same .miller (by decide)).trans (before .miller (by decide))))
    refine ⟨t, run, (sameAfter .now (by decide)).trans ((dropped .now (by decide)).trans ((same .now (by decide)).trans now)),
      (last 9).trans own, fun p hp => (last p).trans ((others p hp).trans (clamps p)), ?_, ?_,
      whole.sharpen fun p listed apart => ?_, BytesBut.of_mem (memAfter.trans (memDrop.trans (memEnd.trans mem)))⟩
    · have eight : w.clampAt 8 = s.clampAt 8 := (sameClamps 8).trans ((others 8 (by decide)).trans (clamps 8))
      rw [coverAfter, State.coverChangeover_effect, State.coverChangeover_effect, eight,
        show w.cover = u.cover from dropped .cover (by decide), fed]
    · rw [show t.stations = w.stations from sameAfter .stations (by decide)]
      exact away
    · simp only [List.mem_cons, List.not_mem_nil, or_false] at listed apart
      by_cases isMiller : p = .miller
      · rw [isMiller]
        exact miller
      · exact absurd listed (by tauto)
  · rw [State.coverChangeover_effect]
    refine ⟨fun p hp => (by cases p <;> simp [Part.same] at hp ⊢), rfl, rfl, fun none_there => ?_,
      fun b clamp good g gauged k cover => ?_⟩
    · have nothing : ((s.clampAt 8).goodValues.bind fun g => g.cover.map (·.scores)) = none := by
        cases place : s.clampAt 8 with
        | empty => rfl
        | unknown => rfl
        | holding b =>
          rw [Slot.goodValues]
          by_cases good : b.spoil = none
          · rw [if_pos good]
            cases gauged : b.gauged with
            | none => rfl
            | some g => rw [Option.bind_some, none_there b place good g gauged]; rfl
          · rw [if_neg good]
            rfl
      rw [nothing]
      rfl
    · have target : ((s.clampAt 8).goodValues.bind fun g => g.cover.map (·.scores)) = some k.scores := by
        rw [clamp, Slot.goodValues, if_pos good, gauged, Option.bind_some, cover]
        rfl
      rw [target]
      unfold Drive.toward
      dsimp only
      by_cases idle : s.cover.scorer.target = none
      · rw [if_neg (by simp [idle]), if_pos idle]
      · rw [if_pos idle, if_neg idle]

end Sys2Proof.Machine
end

section
/-!
The POCKET window (R7, R12, R53, R61 to R66, R69).
-/

namespace Sys2Proof.Machine

theorem SameBut.updGathering (f : Gathering → Gathering) (s : State) : SameBut [.gathering] s (s.updGathering f) :=
  fun p hp => by cases p <;> simp [Part.same] at hp ⊢

/-! ### The feed decisions (R61) -/

theorem JobRecord.sigFor_isSome (r : JobRecord) (k : Fin 16) :
    (r.sigFor k).isSome = r.entries.any fun g => decide (g.pocket = k.val + 1) := by
  rw [JobRecord.sigFor, List.isSome_find?]

theorem State.feedDecision_eq (s : State) (k : Fin 16) :
    s.feedDecision k =
      match s.cell (pocketPosition k) with
      | .holding b =>
        if b.format = .present ∧ b.spoil = none ∧
            ((s.jobCopy b).any fun r => r.entries.any fun g => decide (g.pocket = k.val + 1)) = true then some b.serial
        else none
      | _ => none := by
  unfold State.feedDecision
  cases s.cell (pocketPosition k) with
  | holding b =>
    dsimp only
    have good : b.good = true ↔ b.spoil = none := by rw [Book.good, Option.isNone_iff_eq_none]
    cases s.jobCopy b with
    | none => simp
    | some r => simp only [good, JobRecord.sigFor_isSome, Option.any_some]
  | empty => rfl
  | unknown => rfl

/-- The feed decisions change the pockets and nothing else. -/
theorem State.feedAll_effect (s : State) :
    (∀ k : Fin 16, s.feedAll.gathering.pockets[k] =
      match s.feedDecision k with
      | some n => { s.gathering.pockets[k] with feed := some n, code := none }
      | none => { s.gathering.pockets[k] with feed := none }) ∧
      s.feedAll.gathering.cells = s.gathering.cells ∧ SameBut [.gathering] s s.feedAll ∧ s.feedAll.mem = s.mem := by
  refine ⟨fun k => ?_, rfl, SameBut.updGathering _ s, rfl⟩
  have decided : s.feedAll.gathering.pockets[k] = s.gathering.pockets[k].decide (s.feedDecision k) := by
    simp [State.feedAll, Fin.getElem_fin]
  rw [decided]
  cases s.feedDecision k <;> rfl

/-! ### The use points (R53) -/

theorem State.usePoint_idle {p : Fin 18} {s : State} (idle : (s.cell p).waits = false) : s.usePoint p = s := by
  unfold State.usePoint
  cases place : s.cell p with
  | holding b =>
    rw [place] at idle
    exact if_neg (of_decide_eq_false idle)
  | empty => rfl
  | unknown => rfl

theorem State.usePointClamp_idle {p : Fin 24} {s : State} (idle : (s.clampAt p).waits = false) : s.usePointClamp p = s := by
  unfold State.usePointClamp
  cases place : s.clampAt p with
  | holding b =>
    rw [place] at idle
    exact if_neg (of_decide_eq_false idle)
  | empty => rfl
  | unknown => rfl

theorem State.foldl_usePoint_idle {s : State} {l : List (Fin 18)} (idle : ∀ p ∈ l, (s.cell p).waits = false) :
    l.foldl (fun s p => s.usePoint p) s = s := by
  induction l with
  | nil => rfl
  | cons p l ih =>
    rw [List.foldl_cons, State.usePoint_idle (idle p List.mem_cons_self)]
    exact ih fun q hq => idle q (List.mem_cons_of_mem p hq)

theorem State.foldl_usePointClamp_idle {s : State} {l : List (Fin 24)} (idle : ∀ p ∈ l, (s.clampAt p).waits = false) :
    l.foldl (fun s p => s.usePointClamp p) s = s := by
  induction l with
  | nil => rfl
  | cons p l ih =>
    rw [List.foldl_cons, State.usePointClamp_idle (idle p List.mem_cons_self)]
    exact ih fun q hq => idle q (List.mem_cons_of_mem p hq)

theorem launchedPositions_eq : ∃ l : List (Fin 18), launchedPositions = 1 :: l ∧ ∀ p ∈ l, 1 < p :=
  ⟨launchedPositions.tail, by decide, by decide⟩

theorem mem_launchedPositions {p : Fin 18} (h : p ∈ launchedPositions) : p ≠ 0 := by
  revert p
  decide

theorem State.usePoints_idle {s : State} (cells : ∀ p : Fin 18, p ≠ 0 → (s.cell p).waits = false)
    (clamps : ∀ p : Fin 24, (s.clampAt p).waits = false) : s.usePoints = s := by
  unfold State.usePoints
  rw [State.foldl_usePoint_idle fun p hp => cells p (mem_launchedPositions hp)]
  exact State.foldl_usePointClamp_idle fun p _ => clamps p

/-- The use point of the only waiting book, at chain position 1. -/
theorem State.usePoints_first {s t : State} {b : Book} {e : Fin 16} (cell : s.cell 1 = .holding b)
    (pending : b.format = .pending) (entry : b.entry = some e) (fresh : s.cache.entries[e].stale = false)
    (cells : ∀ p : Fin 18, 1 < p → (s.cell p).waits = false) (clamps : ∀ p : Fin 24, (s.clampAt p).waits = false)
    (ht : t = s.usePoints) :
    t.cell 1 = .holding { b with
        format := .failed, entry := none
        spoil := some (b.spoil.getD ⟨.unformatted, ⟨false, 1⟩, 0, false⟩) } ∧
      (∀ p : Fin 18, p ≠ 1 → t.cell p = s.cell p) ∧
      (∀ f : Fin 16, t.cache.entries[f] =
        if f = e then { s.cache.entries[e] with locks := s.cache.entries[e].locks - 1 } else s.cache.entries[f]) ∧
      t.cache.stock = s.cache.stock ∧ t.cache.fetch = s.cache.fetch ∧ t.gathering.pockets = s.gathering.pockets ∧
      SameBut [.cache, .gathering] s t ∧ t.mem = s.mem := by
  have marked : b.unformatted (chainPoint 1) = { b with
      format := .failed, entry := none
      spoil := some (b.spoil.getD ⟨.unformatted, ⟨false, 1⟩, 0, false⟩) } := by
    rw [Book.unformatted, Book.spoilWith_spoil]
    rfl
  have first : s.usePoint 1 = (s.setCell 1 (.holding (b.unformatted (chainPoint 1)))).dropLock e := by
    unfold State.usePoint
    rw [cell]
    dsimp only
    rw [if_pos pending, State.freeLock, entry]
    rfl
  obtain ⟨own, others, pockets, sameCell, memCell⟩ := s.setCell_effect 1 (.holding (b.unformatted (chainPoint 1)))
  generalize s.setCell 1 (.holding (b.unformatted (chainPoint 1))) = u at *
  have cache : u.cache = s.cache := sameCell .cache (by decide)
  obtain ⟨lock, locks, sameDrop, memDrop⟩ := State.dropLock_fresh (s := u) (e := e) (by rw [cache]; exact fresh)
  obtain ⟨⟨-, -, stock, fetch⟩, -, -⟩ := u.dropLock_effect e
  rw [← first] at lock locks sameDrop memDrop stock fetch
  have whole : SameBut [.gathering, .cache] s (s.usePoint 1) := sameCell.trans sameDrop
  have gathering : (s.usePoint 1).gathering = u.gathering := sameDrop .gathering (by decide)
  have cellsAfter : ∀ p, (s.usePoint 1).cell p = u.cell p := fun p => by rw [State.cell, State.cell, gathering]
  have clampsAfter : ∀ p, (s.usePoint 1).clampAt p = s.clampAt p := fun p => by
    rw [State.clampAt, State.clampAt, show (s.usePoint 1).carousel = s.carousel from whole .carousel (by decide)]
  have only : s.usePoints = s.usePoint 1 := by
    obtain ⟨l, positions, later⟩ := launchedPositions_eq
    unfold State.usePoints
    rw [positions, List.foldl_cons, State.foldl_usePoint_idle fun p hp => ?_]
    · exact State.foldl_usePointClamp_idle fun p _ => by rw [clampsAfter]; exact clamps p
    · rw [cellsAfter, others p (later p hp).ne']
      exact cells p (later p hp)
  rw [only] at ht
  subst ht
  refine ⟨by rw [cellsAfter, own, marked], fun p hp => (cellsAfter p).trans (others p hp), fun f => ?_, by rw [stock, cache],
    by rw [fetch, cache], by rw [gathering, pockets], whole.mono (by decide), memDrop.trans memCell⟩
  by_cases same : f = e
  · rw [if_pos same, same, lock, cache]
  · rw [if_neg same, locks f same, cache]

/-! ### The window start (R7, R12) -/

theorem State.opened_pocket (s : State) :
    s.opened .pocket = (if s.line.mode.acting then s.engaging .pocket else s.starting .pocket).usePoints := by
  unfold State.opened
  dsimp only
  rw [if_neg (show ¬ Window.pocket = .launch by decide), if_pos (show Window.pocket = .pocket from rfl), State.engaging]

/-- A forward count whose one event is the POCKET start. -/
theorem exec_forward_pocket {s : State} (only : OnlyEvent (.opens .pocket) s) (dt : Nat) (io : CountInputs) :
    exec (.forwardEncoderCount dt io) s =
      .next (if s.line.mode.acting then ((s.counting dt).engaging .pocket).usePoints.feedAll
        else ((s.counting dt).starting .pocket).usePoints) := by
  have line : (s.counting dt).line = s.line := s.counting_same dt .line (by decide)
  refine (exec_forward_only only dt io).trans (congrArg Host.Outcome.next ((State.windowStart_eq .pocket io _).trans ?_))
  rw [State.opened_pocket, line]
  cases s.line.mode.acting with
  | true => rw [if_pos rfl, if_pos rfl, if_pos rfl]; rfl
  | false => rw [if_neg Bool.false_ne_true, if_neg Bool.false_ne_true, if_neg Bool.false_ne_true]

theorem State.starting_same (dt : Nat) (w : Window) (s : State) : SameBut [.now, .phase] s ((s.counting dt).starting w) := by
  have started : SameBut [.phase] (s.counting dt) ((s.counting dt).starting w) := fun p hp => by
    cases p <;> simp [Part.same, State.starting] at hp ⊢
  exact ((s.counting_same dt).trans started).mono (by decide)

theorem State.engaging_phase {s : State} (below : s.phase.counter < 4095) (dt : Nat) (w : Window) :
    ((s.counting dt).engaging w).phase = { s.phase with
      counter := s.phase.counter + 1
      sinceIndex := min 65 (s.phase.sinceIndex + 1)
      startTaken := w :: s.phase.startTaken } := by
  have counter : (if 4095 ≤ s.phase.counter then 0 else s.phase.counter + 1) = s.phase.counter + 1 := if_neg (by omega)
  rw [State.engaging, State.updStations_phase, State.starting, State.updPhase_phase, State.counting_phase, PhaseUnit.count,
    counter]

theorem jobCopy_congr {s t : State} (cache : t.cache = s.cache) (b : Book) : t.jobCopy b = s.jobCopy b := by
  rw [State.jobCopy, State.jobCopy, cache]

theorem State.feedDecision_congr {s t : State} {k : Fin 16} (cell : t.cell (pocketPosition k) = s.cell (pocketPosition k))
    (cache : t.cache = s.cache) : t.feedDecision k = s.feedDecision k := by
  rw [State.feedDecision_eq, State.feedDecision_eq, cell]
  cases s.cell (pocketPosition k) with
  | holding b => simp only [jobCopy_congr cache b]
  | empty => rfl
  | unknown => rfl

/-- Settles O22: the feed decisions where nothing waits, and the one use point. -/
theorem pocketStartFeeds : Obligations.PocketStartFeeds := by
  refine ⟨fun s dt io only acting cells clamps => ?_,
    fun s dt io only b e cell pending entry fresh cells clamps => ?_⟩
  · have run := exec_forward_pocket only dt io
    have before := State.engaging_same dt .pocket s
    have stations := State.engaging_stations dt .pocket s
    have phase := State.engaging_phase only.2.1 dt .pocket
    have mem : ((s.counting dt).engaging .pocket).mem = s.mem := rfl
    have now : ((s.counting dt).engaging .pocket).now = s.now + dt := rfl
    rw [if_pos acting] at run
    generalize (s.counting dt).engaging .pocket = v at *
    have gathering : v.gathering = s.gathering := before .gathering (by decide)
    have carousel : v.carousel = s.carousel := before .carousel (by decide)
    have sameCells : ∀ p, v.cell p = s.cell p := fun p => by rw [State.cell, State.cell, gathering]
    rw [State.usePoints_idle (fun p hp => by rw [sameCells]; exact cells p hp)
      (fun p => by rw [State.clampAt, carousel]; exact clamps p)] at run
    obtain ⟨pockets, chain, same, memFeed⟩ := v.feedAll_effect
    refine ⟨_, run, (same .now (by decide)).trans now, fun k => (pockets k).trans ?_, chain.trans (by rw [gathering]),
      (same .stations (by decide)).trans stations, (same .phase (by decide)).trans phase,
      (before.trans same).mono (by decide), BytesBut.of_mem (memFeed.trans mem)⟩
    rw [State.feedDecision_congr (sameCells _) (before .cache (by decide)), State.feedDecision_eq, gathering]
    cases s.cell (pocketPosition k) with
    | holding b =>
      dsimp only
      by_cases feeds : b.format = .present ∧ b.spoil = none ∧
          ((s.jobCopy b).any fun r => r.entries.any fun g => decide (g.pocket = k.val + 1)) = true
      · rw [if_pos feeds, if_pos feeds]
      · rw [if_neg feeds, if_neg feeds]
    | empty => rfl
    | unknown => rfl
  · have run := exec_forward_pocket only dt io
    cases acting : s.line.mode.acting with
    | true =>
      rw [acting, if_pos rfl] at run
      have before := State.engaging_same dt .pocket s
      have mem : ((s.counting dt).engaging .pocket).mem = s.mem := rfl
      have now : ((s.counting dt).engaging .pocket).now = s.now + dt := rfl
      generalize (s.counting dt).engaging .pocket = v at *
      have gathering : v.gathering = s.gathering := before .gathering (by decide)
      have carousel : v.carousel = s.carousel := before .carousel (by decide)
      have cache : v.cache = s.cache := before .cache (by decide)
      have sameCells : ∀ p, v.cell p = s.cell p := fun p => by rw [State.cell, State.cell, gathering]
      obtain ⟨own, others, locks, stock, fetch, pockets, same, memUse⟩ := State.usePoints_first ((sameCells 1).trans cell)
        pending entry (by rw [cache]; exact fresh) (fun p hp => by rw [sameCells]; exact cells p hp)
        (fun p => by rw [State.clampAt, carousel]; exact clamps p) rfl
      rw [cache] at locks stock fetch
      rw [gathering] at pockets
      generalize v.usePoints = u at *
      obtain ⟨fed, chain, sameFeed, memFeed⟩ := u.feedAll_effect
      have chainCells : ∀ p, u.feedAll.cell p = u.cell p := fun p => by rw [State.cell, State.cell, chain]
      have cacheFeed : u.feedAll.cache = u.cache := sameFeed .cache (by decide)
      refine ⟨_, run, (sameFeed .now (by decide)).trans ((same .now (by decide)).trans now), (chainCells 1).trans own,
        fun p hp => (chainCells p).trans ((others p hp).trans (sameCells p)), fun f => by rw [cacheFeed]; exact locks f,
        by rw [cacheFeed]; exact stock, by rw [cacheFeed]; exact fetch, ?_,
        ((before.trans same).trans sameFeed).mono (by decide), BytesBut.of_mem (memFeed.trans (memUse.trans mem))⟩
      have none_fed : u.feedDecision 0 = none := by
        rw [State.feedDecision_eq, show pocketPosition 0 = 1 from rfl, own]
        exact if_neg fun h => by cases h.1
      rw [fed 0, none_fed, pockets, if_pos rfl]
    | false =>
      rw [acting, if_neg (by decide)] at run
      have before := State.starting_same dt .pocket s
      have mem : ((s.counting dt).starting .pocket).mem = s.mem := rfl
      have now : ((s.counting dt).starting .pocket).now = s.now + dt := rfl
      generalize (s.counting dt).starting .pocket = v at *
      have gathering : v.gathering = s.gathering := before .gathering (by decide)
      have carousel : v.carousel = s.carousel := before .carousel (by decide)
      have cache : v.cache = s.cache := before .cache (by decide)
      have sameCells : ∀ p, v.cell p = s.cell p := fun p => by rw [State.cell, State.cell, gathering]
      obtain ⟨own, others, locks, stock, fetch, pockets, same, memUse⟩ := State.usePoints_first ((sameCells 1).trans cell)
        pending entry (by rw [cache]; exact fresh) (fun p hp => by rw [sameCells]; exact cells p hp)
        (fun p => by rw [State.clampAt, carousel]; exact clamps p) rfl
      rw [cache] at locks stock fetch
      exact ⟨_, run, (same .now (by decide)).trans now, own, fun p hp => (others p hp).trans (sameCells p), locks, stock, fetch,
        by rw [pockets, gathering, if_neg (by decide)], (before.trans same).mono (by decide),
        BytesBut.of_mem (memUse.trans mem)⟩

/-! ### The verdict of a pocket (R63 to R66, R69) -/

theorem word_eq_iff_halves (c d : Word) : (highHalf c = highHalf d ∧ lowHalf c = lowHalf d) ↔ c = d := by
  rw [highHalf_eq, highHalf_eq, lowHalf_eq, lowHalf_eq]
  refine ⟨fun h => BitVec.eq_of_toNat_eq ?_, fun h => by rw [h]; exact ⟨rfl, rfl⟩⟩
  omega

theorem judgeSheet_eq (g : SigEntry) (tolerate : Bool) (sheet : SheetReading) (code : Option Word) :
    judgeSheet g tolerate sheet code =
      match sheet, code with
      | .double, _ => some .sigDouble
      | .noSheet, _ => some .sigMissing
      | .one, some c => if g.uncoded = true ∨ c = g.code then none else some .sigWrong
      | .one, none => if g.uncoded = true ∨ tolerate = true then none else some .sigNoread := by
  unfold judgeSheet
  cases sheet with
  | double => cases code <;> rfl
  | noSheet => cases code <;> rfl
  | one =>
    dsimp only
    by_cases uncoded : g.uncoded = true
    · rw [if_pos uncoded]
      cases code <;> exact (if_pos (.inl uncoded)).symm
    · rw [if_neg uncoded]
      cases code with
      | none => exact if_congr (by simp [uncoded]) rfl rfl
      | some c =>
        dsimp only
        by_cases own : c = g.code
        · obtain ⟨high, low⟩ := (word_eq_iff_halves c g.code).mpr own
          rw [if_neg (not_not.mpr high), if_neg (not_not.mpr low), if_pos (.inr own)]
        · rw [if_neg (c := g.uncoded = true ∨ c = g.code) fun h => h.elim uncoded own]
          by_cases high : highHalf c = highHalf g.code
          · have low : lowHalf c ≠ lowHalf g.code := fun low => own ((word_eq_iff_halves c g.code).mp ⟨high, low⟩)
            rw [if_neg (not_not.mpr high), if_pos low]
          · rw [if_pos high]

/-- A book without a spoil code after a verdict. -/
theorem Book.afterVerdict_good {b : Book} (good : b.spoil = none) (k : Fin 16) (sheet : SheetReading) (code : Option Word)
    (outcome : Option SpoilCode) :
    b.afterVerdict k sheet code outcome = { b with
      mask := if sheet = .noSheet then b.mask else b.mask ||| (1 <<< k.val)
      spoil := outcome.map fun c => ⟨c, ⟨false, k.val + 1⟩, code.getD 0, code.isNone⟩ } := by
  have masked : ∀ c : Book, c = (if sheet = .noSheet then b else { b with mask := b.mask ||| (1 <<< k.val) }) →
      c = { b with mask := if sheet = .noSheet then b.mask else b.mask ||| (1 <<< k.val) } := fun c hc => by
    rw [hc]
    split <;> rfl
  unfold Book.afterVerdict
  dsimp only
  rw [masked _ rfl]
  cases outcome with
  | none => rw [Option.map_none, ← good]
  | some c =>
    exact Book.spoilWith_good (b := { b with mask := if sheet = .noSheet then b.mask else b.mask ||| (1 <<< k.val) }) good
      c ⟨false, k.val + 1⟩ (code.getD 0) code.isNone

/-- A pocket after a verdict. -/
theorem pocketAfterVerdict_eq (limit : Nat) (sheet : SheetReading) (outcome : Option SpoilCode)
    (missing : sheet = .noSheet → outcome ≠ none) {starves : Bool} (p : Pocket)
    (hs : starves = (decide (sheet = .noSheet) && decide (limit ≤ p.misses + 1))) :
    p.afterVerdict limit sheet outcome.isNone = { p with
      feed := none
      misses :=
        if starves then limit
        else if sheet = .noSheet then p.misses + 1
        else if outcome = none then 0 else p.misses
      starved := if outcome = none then false else p.starved || starves } := by
  unfold Pocket.afterVerdict
  subst hs
  cases sheet with
  | noSheet =>
    have found := missing rfl
    by_cases full : limit ≤ p.misses + 1
    · simp [full, found]
    · simp [full, found]
  | one => cases outcome <;> simp
  | double => cases outcome <;> simp

/-- Settles O23: the book and the pocket by their own lemmas, and the one notice. -/
theorem pocketVerdict : Obligations.PocketVerdict := by
  intro s io k feeding b cell r job g entry good outcome ho starves hs t ht
  obtain ⟨n, feed⟩ := Option.isSome_iff_exists.mp feeding
  have judged : s.sheetOutcome k b io.sheets[k] s.gathering.pockets[k].code = outcome := by
    rw [ho]
    unfold State.sheetOutcome
    rw [job, Option.bind_some, entry]
    refine (judgeSheet_eq g r.tolerateNoread _ _).trans ?_
    cases io.sheets[k] <;> cases s.gathering.pockets[k].code <;> rfl
  have missing : io.sheets[k] = .noSheet → outcome ≠ none := fun h => by
    rw [ho, h]
    exact Option.some_ne_none _
  obtain ⟨q, hq⟩ : ∃ q, q = s.gathering.pockets[k].afterVerdict s.config.settings.missLimit io.sheets[k] outcome.isNone :=
    ⟨_, rfl⟩
  have pocket := pocketAfterVerdict_eq s.config.settings.missLimit io.sheets[k] outcome missing s.gathering.pockets[k] hs
  rw [← hq] at pocket
  obtain ⟨u, hu⟩ : ∃ u, u = (s.modCell (pocketPosition k)
      (Book.afterVerdict k io.sheets[k] s.gathering.pockets[k].code outcome)).updGathering fun g =>
        { g with pockets := g.pockets.set k q } := ⟨_, rfl⟩
  have whole : t = if q.starved = true ∧ s.gathering.pockets[k].starved = false then u.notify .pocketStarved else u := by
    rw [← ht, hu, hq, ← judged]
    unfold State.pocketVerdict
    dsimp only
    rw [feed, cell]
  obtain ⟨own, others, pockets, same, mem⟩ := s.setCell_effect (pocketPosition k)
    ((s.cell (pocketPosition k)).mapBook (Book.afterVerdict k io.sheets[k] s.gathering.pockets[k].code outcome))
  have verdict : u.cell (pocketPosition k) = .holding
        { b with
          mask := if io.sheets[k] = .noSheet then b.mask else b.mask ||| (1 <<< k.val)
          spoil := outcome.map fun c =>
            ⟨c, ⟨false, k.val + 1⟩, s.gathering.pockets[k].code.getD 0, s.gathering.pockets[k].code.isNone⟩ } := by
    rw [hu]
    refine own.trans ?_
    rw [cell]
    exact congrArg Slot.holding (Book.afterVerdict_good good _ _ _ _)
  have away : ∀ p : Fin 18, p ≠ pocketPosition k → u.cell p = s.cell p := fun p hp => by
    rw [hu]
    exact others p hp
  have ownPocket : u.gathering.pockets[k] = q := by
    rw [hu]
    simp [Fin.getElem_fin]
  have otherPockets : ∀ j : Fin 16, j ≠ k → u.gathering.pockets[j] = s.gathering.pockets[j] := fun j hj => by
    have apart : k.val ≠ j.val := fun h => hj (Fin.ext h.symm)
    rw [hu]
    exact (Vector.getElem_set_ne k.isLt j.isLt apart).trans (congrArg (fun v : Vector Pocket 16 => v[j.val]) pockets)
  have sameAll : SameBut [.gathering] s u := by
    rw [hu]
    exact (same.trans (SameBut.updGathering _ _)).mono (by decide)
  have memAll : u.mem = s.mem := by rw [hu]; exact mem
  have goes : (q.starved = true ∧ s.gathering.pockets[k].starved = false) ↔
      (starves = true ∧ s.gathering.pockets[k].starved = false) := by
    refine and_congr_left fun calm => ?_
    have found : starves = true → outcome ≠ none := fun h => missing (by
      rw [hs, Bool.and_eq_true, decide_eq_true_eq] at h
      exact h.1)
    rw [pocket, calm, Bool.false_or]
    by_cases clean : outcome = none
    · rw [if_pos clean]
      exact ⟨fun h => (by cases h), fun h => absurd clean (found h)⟩
    · rw [if_neg clean]
  clear hu ht
  rw [if_congr goes rfl rfl] at whole
  rw [← ownPocket] at pocket
  by_cases notice : starves = true ∧ s.gathering.pockets[k].starved = false
  · rw [if_pos notice] at whole ⊢
    obtain ⟨-, -, judgedLine, port⟩ := State.notify_effect .pocketStarved u
    have noticed := State.notify_noticed .pocketStarved u
    have bytes := State.notify_bytes .pocketStarved u
    have told : SameBut [.port] u (u.notify .pocketStarved) := fun p hp => by cases p <;> simp [Part.same] at hp ⊢
    rw [← whole] at judgedLine port noticed bytes told
    have gathering : t.gathering = u.gathering := told .gathering (by decide)
    have cells : ∀ p, t.cell p = u.cell p := fun p => by rw [State.cell, State.cell, gathering]
    have before : u.port = s.port := sameAll .port (by decide)
    refine ⟨(cells _).trans verdict, fun p hp => (cells p).trans (away p hp), by rw [gathering]; exact pocket,
      fun j hj => by rw [gathering]; exact otherPockets j hj, noticed.of_counts (by rw [before]), judgedLine,
      (sameAll.trans told).mono (by decide), by rw [port, before],
      ((BytesBut.of_mem (w := []) memAll).trans bytes).mono fun _ h => h⟩
  · rw [if_neg notice] at whole ⊢
    subst whole
    exact ⟨verdict, away, pocket, otherPockets, sameAll, memAll⟩

end Sys2Proof.Machine
end

section
/-!
The cycle index event (R2, R7, R10, R11, R14, R160, R166, R179).
-/

namespace Sys2Proof.Machine

/-! ### The advance (R2) -/

/-- The cells and the places changed, and nothing else. -/
theorem State.updLines_effect (f : Gathering → Vector Slot 18) (g : Carousel → Vector ClampPlace 24) (s : State) {t : State}
    (ht : t = (s.updGathering fun x => { x with cells := f x }).updCarousel fun c => { c with places := g c }) :
    t.gathering = { s.gathering with cells := f s.gathering } ∧ t.carousel = { s.carousel with places := g s.carousel } ∧
      SameBut [.gathering, .carousel] s t ∧ t.mem = s.mem := by
  subst ht
  exact ⟨rfl, rfl, fun p hp => (by cases p <;> simp [Part.same] at hp ⊢), rfl⟩

theorem State.advance_effect (s : State) :
    (∀ p : Fin 18, s.advance.cell p = s.cell (p - 1)) ∧
      (∀ p : Fin 24, s.advance.carousel.places[p] = s.carousel.places[p - 1]) ∧
      s.advance.gathering.pockets = s.gathering.pockets ∧ s.advance.carousel.gate1 = s.carousel.gate1 ∧
      s.advance.carousel.lastDrop = s.carousel.lastDrop ∧ SameBut [.gathering, .carousel] s s.advance ∧
      s.advance.mem = s.mem := by
  obtain ⟨gathering, carousel, same, mem⟩ := State.updLines_effect
    (fun g => Vector.ofFn fun p : Fin 18 => g.cells[p - 1]) (fun c => Vector.ofFn fun p : Fin 24 => c.places[p - 1]) s
    (t := s.advance) (by rw [State.advance])
  refine ⟨fun p => ?_, fun p => ?_, by rw [gathering], by rw [carousel], by rw [carousel], same, mem⟩
  · rw [State.cell, gathering]
    exact Vector.getElem_ofFn p.isLt
  · rw [carousel]
    exact Vector.getElem_ofFn p.isLt

/-- A line moved one place on holds what it held. -/
theorem perm_moved {α : Type} {n : Nat} [NeZero n] (v : Vector α n) :
    (Vector.ofFn fun p : Fin n => v[p - 1]).toList.Perm v.toList := by
  have whole : v.toList = List.ofFn fun p : Fin n => v[p] := by
    rw [← Vector.toList_ofFn]
    exact congrArg Vector.toList (Vector.ofFn_getElem (xs := v)).symm
  rw [whole, Vector.toList_ofFn]
  exact Equiv.Perm.ofFn_comp_perm (Equiv.subRight (1 : Fin n)) fun p : Fin n => v[p]

theorem State.advance_slots (s : State) : s.advance.slots.Perm s.slots :=
  (perm_moved s.gathering.cells).append ((perm_moved s.carousel.places).map _)

theorem State.advance_inFlight (s : State) : s.advance.inFlight = s.inFlight := by
  have held : (s.advance.slots.filter Slot.isHolding).length = (s.slots.filter Slot.isHolding).length :=
    (s.advance_slots.filter _).length_eq
  rw [State.inFlight, State.inFlight, held]
  rfl

theorem State.advance_anyUnknown (s : State) : s.advance.anyUnknown = s.anyUnknown := by
  rw [State.anyUnknown, State.anyUnknown, Bool.eq_iff_iff, List.any_eq_true, List.any_eq_true]
  exact ⟨fun ⟨x, hx, h⟩ => ⟨x, s.advance_slots.mem_iff.mp hx, h⟩, fun ⟨x, hx, h⟩ => ⟨x, s.advance_slots.mem_iff.mpr hx, h⟩⟩

/-! ### The event up to its two tests (R2) -/

/-- The Phase unit's own part of a cycle index event (R2, R7, R10, R11). -/
def State.phaseAtIndex (now : Nat) (s : State) : State := (s.updPhase (PhaseUnit.atIndex now)).recomputeComp

theorem State.phaseAtIndex_effect (now : Nat) (s : State) :
    SameBut [.phase] s (s.phaseAtIndex now) ∧ (s.phaseAtIndex now).mem = s.mem :=
  ⟨fun p hp => (by cases p <;> simp [Part.same, State.phaseAtIndex] at hp ⊢), rfl⟩

/-- The card at a cycle index event when the stations' ends have been dealt with: the chain end of R14, the advance, the
Phase unit's own part. -/
def State.moved (now : Nat) (s : State) : State := s.advance.phaseAtIndex now

theorem State.moved_effect (now : Nat) (s : State) :
    (∀ p : Fin 18, (s.moved now).cell p = s.cell (p - 1)) ∧
      (∀ p : Fin 24, (s.moved now).carousel.places[p] = s.carousel.places[p - 1]) ∧
      (s.moved now).gathering.pockets = s.gathering.pockets ∧ (s.moved now).carousel.gate1 = s.carousel.gate1 ∧
      (s.moved now).carousel.lastDrop = s.carousel.lastDrop ∧ (s.moved now).inFlight = s.inFlight ∧
      (s.moved now).anyUnknown = s.anyUnknown ∧ SameBut [.phase, .gathering, .carousel] s (s.moved now) ∧
      (s.moved now).mem = s.mem := by
  obtain ⟨cells, places, pockets, gate, drop, same, mem⟩ := s.advance_effect
  obtain ⟨phase, memPhase⟩ := s.advance.phaseAtIndex_effect now
  rw [← State.moved] at phase memPhase
  have gathering : (s.moved now).gathering = s.advance.gathering := phase .gathering (by decide)
  have carousel : (s.moved now).carousel = s.advance.carousel := phase .carousel (by decide)
  refine ⟨fun p => ?_, fun p => by rw [carousel]; exact places p, by rw [gathering, pockets], by rw [carousel, gate],
    by rw [carousel, drop], ?_, ?_, (same.trans phase).mono (by decide), memPhase.trans mem⟩
  · rw [State.cell, gathering]
    exact cells p
  · exact (State.inFlight_congr (s := s.advance) (by rw [gathering]) (by rw [carousel]) (phase .trim (by decide))).trans
      s.advance_inFlight
  · exact (State.anyUnknown_congr (s := s.advance) (by rw [gathering]) (by rw [carousel])).trans s.advance_anyUnknown

theorem State.cycleIndex_eq (s : State) :
    s.cycleIndex = (s.dealUntaken.chainEnd.moved s.now).emptyingCheck.levelOne.snapshot := rfl

/-- Every end has been taken: none is dealt with (R80). -/
theorem State.dealUntaken_taken {s : State} (taken : ∀ w : Window, w ∈ s.phase.endTaken) : s.dealUntaken = s := by
  unfold State.dealUntaken
  induction allWindows with
  | nil => rfl
  | cons w l ih => rw [List.foldl_cons, State.dealUntakenAt, if_pos (taken w), ih]

theorem State.chainEnd_vacant {s : State} (vacant : (s.cell 17).isHolding = false) : s.chainEnd = s := by
  unfold State.chainEnd
  cases place : s.cell 17 with
  | holding b => rw [place] at vacant; cases vacant
  | empty => rfl
  | unknown => rfl

/-- A record at the chain end is posted, its cell UNKNOWN and its lock gone (R14). -/
theorem State.chainEnd_posts {s : State} {b : Book} (cell : s.cell 17 = .holding b) :
    s.chainEnd = ((s.setCell 17 .unknown).freeLock b).postBook (b.markInched ⟨false, 17⟩) .chainEnd := by
  unfold State.chainEnd
  rw [cell]
  dsimp only
  rw [Book.inched_eq]
  rfl

theorem State.levelOne_stays {s : State} (h : s.line.mode = .running → s.config.settings.idleLimit = 0 ∨
    s.line.idle < s.config.settings.idleLimit ∨ s.inFlight ≠ 0 ∨ s.anyUnknown = true) : s.levelOne = s := by
  refine if_neg ?_
  rintro ⟨running, due, idle, none_left, known⟩
  rcases h running with k | k | k | k
  · omega
  · omega
  · exact k none_left
  · rw [known] at k
    cases k

/-! ### The snapshot (R179) -/

theorem State.snapshot_same (s : State) : SameBut [.port] s s.snapshot := fun p hp => by
  cases p <;> simp [Part.same] at hp ⊢

theorem State.snapshot_noticed {n : Fin 8 → Nat} {s t : State} (h : Noticed n s t) : Noticed n s t.snapshot := by
  intro c
  obtain ⟨count, word⟩ := h c
  have counts : t.snapshot.port.counts = t.port.counts := by rw [t.snapshot_effect.1]
  have apart : ∀ c : Fin 8, ∀ w ∈ snapshotArea, Header.count c + 4 ≤ w ∨ w + 4 ≤ Header.count c := by decide
  rw [counts, t.snapshot_effect.2.2.word (apart c)]
  exact ⟨count, word⟩

/-! ### The chain end (R14) -/

/-- A log entry stands after writes below the log. -/
theorem SpoilLogged.of_bytes {serial : Word} {code posting : Nat} {point : DetectionPoint} {s u t : State} {ws : List Nat}
    (h : SpoilLogged serial code posting point s u) (bytes : BytesBut ws u t) (below : ∀ w ∈ ws, w + 4 ≤ 0x8800)
    (counts : t.port.counts[(2 : Fin 8)] = u.port.counts[(2 : Fin 8)]) : SpoilLogged serial code posting point s t := by
  obtain ⟨count, number, own, codeByte, plain, posted, position, place⟩ := h
  have slot := logSlot_bounds s.port.counts[(2 : Fin 8)]
  have words : ∀ a, 0x8800 ≤ a → t.mem.readWord a = u.mem.readWord a := fun a ha =>
    bytes.word fun w hw => .inr (by have := below w hw; omega)
  have reads : ∀ a, 0x8800 ≤ a → t.mem.read a = u.mem.read a := fun a ha =>
    bytes a fun w hw => .inr (by have := below w hw; omega)
  refine ⟨counts.trans count, ?_, ?_, ?_, ?_, ?_, ?_, ?_⟩
  · rw [words _ (by omega)]; exact number
  · rw [words _ (by omega)]; exact own
  · rw [reads _ (by omega)]; exact codeByte
  · rw [reads _ (by omega)]; exact plain
  · rw [reads _ (by omega)]; exact posted
  · rw [reads _ (by omega)]; exact position
  · rw [reads _ (by omega)]; exact place

theorem State.anyUnknown_of_cell {s : State} {p : Fin 18} (h : s.cell p = .unknown) : s.anyUnknown = true := by
  rw [State.anyUnknown, List.any_eq_true]
  refine ⟨s.cell p, List.mem_append_left _ ?_, by rw [h]; rfl⟩
  exact Vector.mem_toList_iff.mpr (Vector.getElem_mem p.isLt)

/-- The record at the chain end leaves its cell and is posted (R14, R51). -/
theorem State.chainEnd_effect {s t : State} {b : Book} (inv : HeldInTable s) (cell : s.cell 17 = .holding b)
    (ht : t = s.chainEnd) :
    t.cell 17 = .unknown ∧ (∀ p : Fin 18, p ≠ 17 → t.cell p = s.cell p) ∧ t.gathering.pockets = s.gathering.pockets ∧
      (b.entry = none → t.cache = s.cache) ∧ (∀ e, b.entry = some e → LockReleased e s t) ∧ t.inFlight + 1 = s.inFlight ∧
      (∀ m, (b.markInched ⟨false, 17⟩).spoil = some m → SpoilLogged b.serial m.code.number 0 m.point s t) ∧
      (∀ c : Fin 8, c ≠ 1 → c ≠ 2 → t.port.counts[c] = s.port.counts[c]) ∧ t.port.snapSeq = s.port.snapSeq ∧
      SameBut [.sched, .cache, .gathering, .port] s t := by
  obtain ⟨m, marked⟩ : ∃ m, (b.markInched ⟨false, 17⟩).spoil = some m := ⟨_, rfl⟩
  rw [State.chainEnd_posts cell] at ht
  obtain ⟨own, others, pockets, sameCell, -⟩ := s.setCell_effect 17 .unknown
  have flight := s.inFlight_setCell 17 .unknown
  rw [cell] at flight
  generalize s.setCell 17 .unknown = u at *
  obtain ⟨unlocked, released, sameFree, -⟩ := u.freeLock_effect b
  have cache : u.cache = s.cache := sameCell .cache (by decide)
  have gatheringFree : (u.freeLock b).gathering = u.gathering := sameFree .gathering (by decide)
  have flightFree : (u.freeLock b).inFlight = u.inFlight :=
    State.inFlight_congr (by rw [gatheringFree]) (congrArg Carousel.places (sameFree .carousel (by decide)))
      (sameFree .trim (by decide))
  have before : SameBut [.gathering, .cache] s (u.freeLock b) := sameCell.trans sameFree
  generalize u.freeLock b = v at *
  have port : v.port = s.port := before .port (by decide)
  have held : HeldInTable v := by
    intro x hx
    rw [show v.sched = s.sched from before .sched (by decide)] at hx
    exact inv x hx
  rw [State.postBook, marked] at ht
  dsimp only at ht
  obtain ⟨-, -, counts, portAfter, same, -⟩ := State.postSpoiled_effect held ht
  have logged : SpoilLogged b.serial m.code.number 0 m.point v t := by
    rw [ht]
    exact State.postSpoiled_spoilLogged (p := .chainEnd) held
  have gathering : t.gathering = u.gathering := (same .gathering (by decide)).trans gatheringFree
  have cacheAfter : t.cache = v.cache := same .cache (by decide)
  refine ⟨by rw [State.cell, gathering]; exact own, fun p hp => by rw [State.cell, gathering]; exact others p hp,
    by rw [gathering, pockets], fun none_held => by rw [cacheAfter, unlocked none_held, cache],
    fun e he => (released e he).congr cache.symm cacheAfter, ?_, fun m' hm => ?_, fun c first second => by
      rw [counts c first second, port], by rw [portAfter, port], (before.trans same).mono (by decide)⟩
  · have unmoved : t.inFlight = v.inFlight :=
      State.inFlight_congr (congrArg Gathering.cells (same .gathering (by decide)))
        (congrArg Carousel.places (same .carousel (by decide))) (same .trim (by decide))
    rw [unmoved, flightFree]
    exact flight
  · cases marked.symm.trans hm
    exact logged.of_counts port

/-! ### The wrap (R2, R11, R160, R166) -/

/-- The Phase unit at a cycle index event. -/
theorem State.cycleIndex_atIndexEvent {s t : State} {p : PhaseUnit} {k : Nat}
    (phase : s.phase = { p with counter := 0, sinceIndex := k }) (ht : t = s.cycleIndex) :
    PhaseUnit.AtIndexEvent s.now s.config.settings.valveLead p t.phase := by
  unfold PhaseUnit.AtIndexEvent
  rw [ht, State.cycleIndex_phase, phase]
  rfl

/-- READY is entered at a cycle index event, and then the snapshot is written again (R2, R156, R179). -/
theorem State.emptied_snapshot {s t : State} (acting : s.line.mode.acting = true)
    (ht : t = (s.changeMode .ready).levelOne.snapshot) :
    t.line = { s.line with
        mode := .ready, drive := .stopped, reference := none, stableAt := none
        restAt := if s.config.settings.setbackDelay = 0 then none
          else some (t.now + s.config.settings.setbackDelay * 1000000) } ∧
      t.word Header.mode = 2 ∧ t.stations.engaged = [] ∧ t.gathering.cells = s.gathering.cells ∧
      t.carousel.places = s.carousel.places ∧ Noticed (oneNotice .modeChanged) s t ∧
      t.port.snapSeq = s.port.snapSeq + 4 ∧ (∀ x ∈ t.snapshotWords, t.word x.1 = x.2) ∧
      t.miller.drive = s.miller.drive ∧ t.cover.scorer = s.cover.scorer ∧
      SameBut [.stations, .gathering, .carousel, .format, .miller, .glue, .cover, .line, .port] s t ∧
      BytesBut modeWords s t := by
  have ends := State.changeMode_emptied acting
  have entered := ends.entered
  generalize s.changeMode .ready = u at *
  obtain ⟨mode, modeWord, -, -, -, -, -, -, -, -, works, seq⟩ := entered
  obtain ⟨drive, -, scorer, -⟩ := works rfl
  rw [State.levelOne_stays fun running => by rw [mode] at running; cases running] at ht
  have same := u.snapshot_same
  obtain ⟨port, -, bytes⟩ := u.snapshot_effect
  have noticed := State.snapshot_noticed ends.noticed
  have words := u.snapshot_words
  rw [← ht] at same port bytes noticed words
  have now : t.now = u.now := same .now (by decide)
  refine ⟨?_, ?_, by rw [show t.stations = u.stations from same .stations (by decide)]; exact ends.engaged,
    by rw [show t.gathering = u.gathering from same .gathering (by decide), ends.cells],
    by rw [show t.carousel = u.carousel from same .carousel (by decide), ends.places], noticed, ?_, words,
    by rw [show t.miller = u.miller from same .miller (by decide), drive],
    by rw [show t.cover = u.cover from same .cover (by decide), scorer], (ends.same.trans same).mono (by decide),
    (ends.bytes.trans bytes).mono (by decide)⟩
  · rw [show t.line = u.line from same .line (by decide), ends.line, now]
    rfl
  · rw [bytes.word (by decide), modeWord]
    rfl
  · have two : (if LineMode.ready.acting then s.port.snapSeq else s.port.snapSeq + 2) = s.port.snapSeq + 2 := rfl
    rw [port, seq, two, BitVec.add_assoc]
    rfl

theorem State.not_holding_of_inFlight {s : State} (none_left : s.inFlight = 0) (p : Fin 18) : (s.cell p).isHolding = false := by
  rw [State.inFlight_eq] at none_left
  have cells : s.gathering.cells.toList.countP Slot.isHolding = 0 := by omega
  have away := List.countP_eq_zero.mp cells (s.cell p) (Vector.mem_toList_iff.mpr (Vector.getElem_mem p.isLt))
  exact Bool.eq_false_iff.mpr away

/-- Settles O15: the wrap by its chain end and its two tests. -/
theorem wrapAdvancesTheLine : Obligations.WrapAdvancesTheLine := by
  intro s dt io synced wrap taken
  have run := exec_forward_wrap dt io synced (by omega)
  have before := s.counting_same dt
  have phase : (s.counting dt).phase = { s.phase with counter := 0, sinceIndex := min 65 (s.phase.sinceIndex + 1) } := by
    rw [State.counting_phase, PhaseUnit.count, if_pos (by omega)]
  have now : (s.counting dt).now = s.now + dt := rfl
  have mem : (s.counting dt).mem = s.mem := rfl
  generalize s.counting dt = x at *
  have line : x.line = s.line := before .line (by decide)
  have config : x.config = s.config := before .config (by decide)
  have gathering : x.gathering = s.gathering := before .gathering (by decide)
  have carousel : x.carousel = s.carousel := before .carousel (by decide)
  have port : x.port = s.port := before .port (by decide)
  have cells : ∀ p, x.cell p = s.cell p := fun p => by rw [State.cell, State.cell, gathering]
  have flight : x.inFlight = s.inFlight :=
    State.inFlight_congr (by rw [gathering]) (by rw [carousel]) (before .trim (by decide))
  have unknown : x.anyUnknown = s.anyUnknown := State.anyUnknown_congr (by rw [gathering]) (by rw [carousel])
  have held : MemoryInv s → HeldInTable x := fun inv => by
    rw [HeldInTable, show x.sched = s.sched from before .sched (by decide)]
    exact inv.2.2
  have index : PhaseUnit.AtIndexEvent x.now s.config.settings.valveLead s.phase x.cycleIndex.phase := by
    rw [← config]
    exact State.cycleIndex_atIndexEvent phase rfl
  have dealt : x.dealUntaken = x := State.dealUntaken_taken fun w => by rw [phase]; exact taken w
  have event := x.cycleIndex_eq
  rw [dealt] at event
  refine ⟨fun vacant stays => ?_, fun b cell stays inv => ?_, fun b cell mode last inv => ?_, fun none_left due => ?_⟩
  · rw [State.chainEnd_vacant (by rw [cells]; exact vacant)] at event
    obtain ⟨chain, places, pockets, gate, drop, flightMoved, unknownMoved, same, memMoved⟩ := x.moved_effect x.now
    generalize x.moved x.now = z at *
    have lineMoved : z.line = s.line := (same .line (by decide)).trans line
    have configMoved : z.config = s.config := (same .config (by decide)).trans config
    rw [State.emptyingCheck_stays (s := z) fun mode => by
        rw [flightMoved, flight]
        exact stays.1 (by rw [← lineMoved]; exact mode),
      State.levelOne_stays (s := z) fun mode => by
        rw [flightMoved, flight, unknownMoved, unknown, lineMoved, configMoved]
        exact stays.2 (by rw [← lineMoved]; exact mode)] at event
    have told := z.snapshot_same
    obtain ⟨portAfter, seq, bytes⟩ := z.snapshot_effect
    have words := z.snapshot_words
    rw [← event] at told portAfter seq bytes words
    have portMoved : z.port = s.port := (same .port (by decide)).trans port
    have gatheringAfter : x.cycleIndex.gathering = z.gathering := told .gathering (by decide)
    have carouselAfter : x.cycleIndex.carousel = z.carousel := told .carousel (by decide)
    have nowAfter : x.cycleIndex.now = x.now := (told .now (by decide)).trans (same .now (by decide))
    refine ⟨_, run, nowAfter.trans now, fun p => ?_, by rw [gatheringAfter, pockets, gathering], fun p => ?_,
      by rw [carouselAfter, gate, carousel], by rw [carouselAfter, drop, carousel], by rw [nowAfter]; exact index,
      by rw [portAfter, portMoved], by rw [seq, portMoved], words, ((before.trans same).trans told).mono (by decide),
      ((BytesBut.of_mem (w := []) (memMoved.trans mem)).trans bytes).mono fun _ h => h⟩
    · rw [State.cell, gatheringAfter]
      exact (chain p).trans (cells _)
    · rw [carouselAfter, places, carousel]
  · obtain ⟨own, others, pocketsEnd, unlocked, released, flightEnd, logged, -, seqEnd, sameEnd⟩ :=
      State.chainEnd_effect (held inv) ((cells 17).trans cell) (t := x.chainEnd) rfl
    generalize x.chainEnd = y at *
    have unknownEnd := State.anyUnknown_of_cell own
    obtain ⟨chain, places, pockets, -, -, flightMoved, unknownMoved, same, memMoved⟩ := y.moved_effect x.now
    generalize y.moved x.now = z at *
    have lineMoved : z.line = s.line := (same .line (by decide)).trans ((sameEnd .line (by decide)).trans line)
    rw [State.emptyingCheck_stays (s := z) fun mode none_left => stays (by rw [← lineMoved]; exact mode) (by
        rw [← flight, ← flightEnd, ← flightMoved, none_left]),
      State.levelOne_stays (s := z) fun _ => .inr (.inr (.inr (by rw [unknownMoved, unknownEnd])))] at event
    have told := z.snapshot_same
    obtain ⟨portAfter, -, bytes⟩ := z.snapshot_effect
    have words := z.snapshot_words
    rw [← event] at told portAfter bytes words
    have portMoved : z.port = y.port := same .port (by decide)
    have gatheringAfter : x.cycleIndex.gathering = z.gathering := told .gathering (by decide)
    have carouselAfter : x.cycleIndex.carousel = z.carousel := told .carousel (by decide)
    have cacheAfter : x.cycleIndex.cache = y.cache := (told .cache (by decide)).trans (same .cache (by decide))
    have nowAfter : x.cycleIndex.now = x.now :=
      (told .now (by decide)).trans ((same .now (by decide)).trans (sameEnd .now (by decide)))
    have cellsAfter : ∀ p, x.cycleIndex.cell p = y.cell (p - 1) := fun p => by
      rw [State.cell, gatheringAfter]
      exact chain p
    refine ⟨_, run, nowAfter.trans now, (cellsAfter 0).trans own, fun p hp => (cellsAfter p).trans ?_,
      by rw [gatheringAfter, pockets, pocketsEnd, gathering], fun p => ?_, by rw [nowAfter]; exact index, fun m hm => ?_,
      fun none_held => ?_, fun e he => ?_, ?_, words,
      (((before.trans sameEnd).trans same).trans told).mono (by decide)⟩
    · exact (others _ fun last => hp (by revert last; revert p; decide)).trans (cells _)
    · rw [carouselAfter, places, show y.carousel = x.carousel from sameEnd .carousel (by decide), carousel]
    · have moved := (logged m hm).of_bytes (BytesBut.of_mem (w := []) memMoved) (fun w hw => by cases hw) (by rw [portMoved])
      exact (moved.of_bytes bytes (by decide) (by rw [portAfter])).of_counts port
    · rw [cacheAfter, unlocked none_held]
      exact before .cache (by decide)
    · exact (released e he).congr (before .cache (by decide)).symm cacheAfter
    · rw [portAfter, portMoved, seqEnd, port]
  · obtain ⟨own, others, -, unlocked, released, flightEnd, logged, countsEnd, seqEnd, sameEnd⟩ :=
      State.chainEnd_effect (held inv) ((cells 17).trans cell) (t := x.chainEnd) rfl
    generalize x.chainEnd = y at *
    obtain ⟨chain, places, -, -, -, flightMoved, -, same, memMoved⟩ := y.moved_effect x.now
    generalize y.moved x.now = z at *
    have lineMoved : z.line = s.line := (same .line (by decide)).trans ((sameEnd .line (by decide)).trans line)
    have configMoved : z.config = s.config := (same .config (by decide)).trans ((sameEnd .config (by decide)).trans config)
    have portMoved : z.port = y.port := same .port (by decide)
    rw [State.emptyingCheck_ends (s := z) (by rw [lineMoved]; exact mode) (by omega)] at event
    obtain ⟨lineAfter, modeWord, engaged, cellsKept, placesKept, noticed, seq, words, drive, scorer, sameAfter, bytes⟩ :=
      State.emptied_snapshot (s := z) (by rw [lineMoved, mode]; rfl) event
    rw [lineMoved, configMoved] at lineAfter
    have nowAfter : x.cycleIndex.now = x.now :=
      (sameAfter .now (by decide)).trans ((same .now (by decide)).trans (sameEnd .now (by decide)))
    have cacheAfter : x.cycleIndex.cache = y.cache := (sameAfter .cache (by decide)).trans (same .cache (by decide))
    have cellsAfter : ∀ p, x.cycleIndex.cell p = y.cell (p - 1) := fun p => by
      rw [State.cell, cellsKept]
      exact chain p
    have changed := noticed 3
    have two : x.cycleIndex.port.counts[(2 : Fin 8)] = z.port.counts[(2 : Fin 8)] := by
      rw [(noticed 2).1]
      simp [oneNotice, Attention.number]
    refine ⟨_, run, nowAfter.trans now, (cellsAfter 0).trans own, fun p hp => (cellsAfter p).trans ?_, fun p => ?_,
      by rw [nowAfter]; exact index, fun m hm => ?_, fun none_held => ?_, fun e he => ?_, lineAfter, modeWord, engaged, ?_, ?_,
      words, ?_, ?_, (((before.trans sameEnd).trans same).trans sameAfter).mono (by decide)⟩
    · exact (others _ fun last => hp (by revert last; revert p; decide)).trans (cells _)
    · rw [placesKept, places, show y.carousel = x.carousel from sameEnd .carousel (by decide), carousel]
    · have moved := (logged m hm).of_bytes (BytesBut.of_mem (w := []) memMoved) (fun w hw => by cases hw) (by rw [portMoved])
      exact (moved.of_bytes bytes (by decide) two).of_counts port
    · rw [cacheAfter, unlocked none_held]
      exact before .cache (by decide)
    · exact (released e he).congr (before .cache (by decide)).symm cacheAfter
    · rw [changed.1, portMoved, countsEnd 3 (by decide) (by decide), port]
      rfl
    · rw [seq, portMoved, seqEnd, port]
    · rw [drive, show z.miller = y.miller from same .miller (by decide),
        show y.miller = x.miller from sameEnd .miller (by decide), show x.miller = s.miller from before .miller (by decide)]
    · rw [scorer, show z.cover = y.cover from same .cover (by decide), show y.cover = x.cover from sameEnd .cover (by decide),
        show x.cover = s.cover from before .cover (by decide)]
  · rw [State.chainEnd_vacant (State.not_holding_of_inFlight (by rw [flight]; exact none_left) 17)] at event
    obtain ⟨chain, places, -, -, -, flightMoved, unknownMoved, same, memMoved⟩ := x.moved_effect x.now
    generalize x.moved x.now = z at *
    have lineMoved : z.line = s.line := (same .line (by decide)).trans line
    have configMoved : z.config = s.config := (same .config (by decide)).trans config
    have portMoved : z.port = s.port := (same .port (by decide)).trans port
    have empty : z.inFlight = 0 := by rw [flightMoved, flight, none_left]
    have ends : z.emptyingCheck.levelOne = (z.changeMode .ready).levelOne ∧ z.line.mode.acting = true := by
      rcases due with mode | ⟨mode, limit, idle, known⟩
      · exact ⟨by rw [State.emptyingCheck_ends (s := z) (by rw [lineMoved]; exact mode) empty], by rw [lineMoved, mode]; rfl⟩
      · have stays : z.emptyingCheck = z := State.emptyingCheck_stays fun emptying => by
          rw [lineMoved, mode] at emptying
          cases emptying
        have level : z.levelOne = z.changeMode .ready :=
          if_pos ⟨by rw [lineMoved]; exact mode, by rw [configMoved]; exact limit, by rw [configMoved, lineMoved]; exact idle,
            empty, by rw [unknownMoved, unknown]; exact known⟩
        have again : (z.changeMode .ready).levelOne = z.changeMode .ready := State.levelOne_stays fun running => by
          rw [(z.changeMode_entered .ready).1] at running
          cases running
        exact ⟨by rw [stays, level, again], by rw [lineMoved, mode]; rfl⟩
    rw [ends.1] at event
    obtain ⟨lineAfter, modeWord, engaged, cellsKept, placesKept, noticed, seq, words, -, -, sameAfter, bytes⟩ :=
      State.emptied_snapshot (s := z) ends.2 event
    rw [lineMoved, configMoved] at lineAfter
    have nowAfter : x.cycleIndex.now = x.now := (sameAfter .now (by decide)).trans (same .now (by decide))
    refine ⟨_, run, nowAfter.trans now, lineAfter, modeWord, engaged, fun p => ?_, fun p => ?_, by rw [nowAfter]; exact index,
      noticed.of_counts (by rw [portMoved]), by rw [seq, portMoved], words,
      ((before.trans same).trans sameAfter).mono (by decide),
      ((BytesBut.of_mem (w := []) (memMoved.trans mem)).trans bytes).mono fun _ h => h⟩
    · rw [State.cell, cellsKept]
      exact (chain p).trans (cells _)
    · rw [placesKept, places, carousel]

end Sys2Proof.Machine
end

section
/-!
The first index mark after a reset (R2, R5, R10, R13, R80).
-/

namespace Sys2Proof.Machine

/-! ### Places marked without a record gained or lost -/

theorem countP_ofFn_congr {α : Type} {n : Nat} {p : α → Bool} {f g : Fin n → α} (h : ∀ i, p (f i) = p (g i)) :
    (List.ofFn f).countP p = (List.ofFn g).countP p := by
  rw [← List.map_id (List.ofFn f), List.map_ofFn, ← List.map_id (List.ofFn g), List.map_ofFn]
  have same : (p ∘ id ∘ f) = (p ∘ id ∘ g) := funext h
  have count : ∀ k : Fin n → α, (List.ofFn k).countP p = (List.ofFn (p ∘ k)).countP id := fun k => by
    rw [← List.map_ofFn, List.countP_map]
    rfl
  rw [count, count, same]

theorem State.inFlight_ofFn (s : State) :
    s.inFlight = (List.ofFn s.cell).countP Slot.isHolding + (List.ofFn s.clampAt).countP Slot.isHolding +
      s.trim.queue.length + s.trim.books.length := by
  have cells : s.gathering.cells.toList = List.ofFn s.cell := by
    rw [← Vector.toList_ofFn]
    exact congrArg Vector.toList (Vector.ofFn_getElem (xs := s.gathering.cells)).symm
  have places : s.carousel.places.toList.map (·.slot) = List.ofFn s.clampAt := by
    have whole : s.carousel.places.toList = List.ofFn fun p : Fin 24 => s.carousel.places[p] := by
      rw [← Vector.toList_ofFn]
      exact congrArg Vector.toList (Vector.ofFn_getElem (xs := s.carousel.places)).symm
    rw [whole, List.map_ofFn]
    rfl
  rw [State.inFlight_eq, cells, places]

/-- Places that hold a record where they held one: as many records are in flight. -/
theorem State.inFlight_of_holding {s t : State} (cells : ∀ p, (t.cell p).isHolding = (s.cell p).isHolding)
    (clamps : ∀ p, (t.clampAt p).isHolding = (s.clampAt p).isHolding) (trim : t.trim = s.trim) : t.inFlight = s.inFlight := by
  rw [State.inFlight_ofFn, State.inFlight_ofFn, countP_ofFn_congr cells, countP_ofFn_congr clamps, trim]

theorem Slot.markInched_isHolding (point : DetectionPoint) (x : Slot) : (x.markInched point).isHolding = x.isHolding := by
  cases x <;> rfl

/-! ### The ends dealt with at a line at rest (R13, R80) -/

/-- What the dealing with the ends of some stations, none of them engaged, makes of the card (R13, R80). -/
structure Dealt (l : List Window) (s t : State) : Prop where
  cells : ∀ p : Fin 18, t.cell p = if .pocket ∈ l ∧ ¬ (p = 0 ∨ p = 17) then (s.cell p).markInched ⟨false, p.val⟩ else s.cell p
  clamps : ∀ p : Fin 24, t.clampAt p =
    if .deliver ∈ l ∧ p = 17 then .empty
    else if ∃ w ∈ l, stationPosition w = some p then (s.clampAt p).markInched ⟨true, p.val⟩
    else s.clampAt p
  numbers : ∀ p : Fin 24, t.carousel.places[p].number = s.carousel.places[p].number
  pockets : t.gathering.pockets = s.gathering.pockets
  miller : t.miller = if .mill ∈ l then { s.miller with pending := true } else s.miller
  cover : t.cover = if .cover ∈ l then { s.cover with pending := true } else s.cover
  same : SameBut [.gathering, .carousel, .miller, .cover] s t
  mem : t.mem = s.mem

theorem Dealt.nil (s : State) : Dealt [] s s where
  cells _ := (if_neg fun h => by cases h.1).symm
  clamps _ := by simp
  numbers _ := rfl
  pockets := rfl
  miller := rfl
  cover := rfl
  same := SameBut.refl _ s
  mem := rfl

theorem stationPosition_injective {v w : Window} {p : Fin 24} (hv : stationPosition v = some p) (hw : stationPosition w = some p) :
    v = w := by
  revert hv hw
  revert p
  cases v <;> cases w <;> decide

theorem stationPosition_ne_deliver {w : Window} {p : Fin 24} (h : stationPosition w = some p) : p ≠ 17 := by
  revert h
  revert p
  cases w <;> decide

theorem Dealt.cons {w : Window} {l : List Window} {s t u : State} (first : Dealt [w] s u) (rest : Dealt l u t) (once : w ∉ l) :
    Dealt (w :: l) s t where
  cells p := by
    rw [rest.cells, first.cells]
    by_cases pocket : w = .pocket
    · subst pocket
      simp [once]
    · simp [Ne.symm pocket]
  clamps p := by
    rw [rest.clamps, first.clamps]
    by_cases own : stationPosition w = some p
    · have apart : p ≠ 17 := stationPosition_ne_deliver own
      have alone : ¬ ∃ v ∈ l, stationPosition v = some p := fun ⟨v, hv, here⟩ =>
        once (stationPosition_injective here own ▸ hv)
      simp [apart, alone, own]
    · by_cases deliver : w = .deliver
      · subst deliver
        by_cases last : p = 17
        · have none_there : ¬ ∃ v ∈ l, stationPosition v = some (17 : Fin 24) := fun ⟨v, _, here⟩ =>
            stationPosition_ne_deliver here rfl
          subst last
          simp [none_there, once]
        · simp [last, own]
      · simp [own, Ne.symm deliver]
  numbers p := (rest.numbers p).trans (first.numbers p)
  pockets := rest.pockets.trans first.pockets
  miller := by
    rw [rest.miller, first.miller]
    by_cases mill : w = .mill
    · subst mill
      simp [once]
    · simp [Ne.symm mill]
  cover := by
    rw [rest.cover, first.cover]
    by_cases cover : w = .cover
    · subst cover
      simp [once]
    · simp [Ne.symm cover]
  same := (first.same.trans rest.same).mono (by decide)
  mem := rest.mem.trans first.mem

/-- A line whose stations are at rest with no end taken, nothing to be posted and no lock to be released (R80). -/
structure Undealt (s : State) : Prop where
  taken : s.phase.endTaken = []
  stations : s.stations = ⟨[], []⟩
  deliver : (s.clampAt 17).isHolding = false
  gauge : ∀ b, s.clampAt 2 = .holding b → b.entry = none

theorem State.leavePending_effect (w : Window) (s : State) :
    (s.leavePending w).miller = (if w = .mill then { s.miller with pending := true } else s.miller) ∧
      (s.leavePending w).cover = (if w = .cover then { s.cover with pending := true } else s.cover) ∧
      SameBut [.miller, .cover] s (s.leavePending w) ∧ (s.leavePending w).mem = s.mem := by
  unfold State.leavePending
  cases w
  case mill => exact ⟨rfl, rfl, fun q hq => (by cases q <;> simp [Part.same] at hq ⊢), rfl⟩
  case cover => exact ⟨rfl, rfl, fun q hq => (by cases q <;> simp [Part.same] at hq ⊢), rfl⟩
  all_goals exact ⟨rfl, rfl, SameBut.refl _ s, rfl⟩

theorem State.dealUntakenAt_rest {s : State} (h : Undealt s) (w : Window) :
    s.dealUntakenAt w = (s.unservedEnd w).leavePending w := by
  have away : s.isEngaged w = false := by
    rw [State.isEngaged, h.stations]
    exact decide_eq_false List.not_mem_nil
  rw [State.dealUntakenAt, if_neg (by rw [h.taken]; exact List.not_mem_nil), State.disengage, away, if_neg (by decide)]

/-- An end dealt with by a work on the cells and clamps alone. -/
theorem Dealt.single {w : Window} {s u : State} (h : Undealt s) (hu : u = s.unservedEnd w)
    (cells : ∀ p : Fin 18, u.cell p =
      if w = .pocket ∧ ¬ (p = 0 ∨ p = 17) then (s.cell p).markInched ⟨false, p.val⟩ else s.cell p)
    (clamps : ∀ p : Fin 24, u.clampAt p =
      if w = .deliver ∧ p = 17 then .empty
      else if stationPosition w = some p then (s.clampAt p).markInched ⟨true, p.val⟩
      else s.clampAt p)
    (numbers : ∀ p : Fin 24, u.carousel.places[p].number = s.carousel.places[p].number)
    (pockets : u.gathering.pockets = s.gathering.pockets) (same : SameBut [.gathering, .carousel] s u) (mem : u.mem = s.mem) :
    Dealt [w] s (s.dealUntakenAt w) := by
  rw [State.dealUntakenAt_rest h, ← hu]
  obtain ⟨miller, cover, samePending, memPending⟩ := u.leavePending_effect w
  generalize u.leavePending w = t at *
  have gathering : t.gathering = u.gathering := samePending .gathering (by decide)
  have carousel : t.carousel = u.carousel := samePending .carousel (by decide)
  refine
    { cells := fun p => ?_
      clamps := fun p => ?_
      numbers := fun p => by rw [carousel]; exact numbers p
      pockets := by rw [gathering, pockets]
      miller := ?_
      cover := ?_
      same := (same.trans samePending).mono (by decide)
      mem := memPending.trans mem }
  · rw [State.cell, gathering]
    refine (cells p).trans (if_congr ?_ rfl rfl)
    rw [List.mem_singleton, eq_comm (a := w)]
  · rw [State.clampAt, carousel]
    refine (clamps p).trans (if_congr ?_ rfl (if_congr ?_ rfl rfl))
    · rw [List.mem_singleton, eq_comm (a := w)]
    · simp
  · rw [miller, show u.miller = s.miller from same .miller (by decide)]
    exact if_congr (by rw [List.mem_singleton, eq_comm (a := w)]) rfl rfl
  · rw [cover, show u.cover = s.cover from same .cover (by decide)]
    exact if_congr (by rw [List.mem_singleton, eq_comm (a := w)]) rfl rfl

/-- A marking station's end: the book at its position. -/
theorem Dealt.station {w : Window} {p : Fin 24} {s : State} (h : Undealt s) (position : stationPosition w = some p)
    (other : w ≠ .gauge) : Dealt [w] s (s.dealUntakenAt w) := by
  have marks : s.unservedEnd w = s.modClamp p (Book.inched (carouselPoint p)) := by
    cases w <;> simp [stationPosition] at position other <;> subst position <;> rfl
  have plain : w ≠ .pocket ∧ w ≠ .deliver := by
    cases w <;> simp [stationPosition] at position other ⊢
  obtain ⟨own, others, numbers, -, same, mem⟩ := s.modClamp_effect p (Book.inched (carouselPoint p))
  refine Dealt.single h marks.symm (fun q => ?_) (fun q => ?_) numbers ?_ (same.mono (by decide)) mem
  · rw [if_neg fun k => plain.1 k.1]
    rfl
  · rw [if_neg fun k => plain.2 k.1, position]
    by_cases here : q = p
    · subst here
      rw [if_pos rfl]
      exact own.trans (Slot.mapBook_inched _ _)
    · rw [if_neg fun k => here (Option.some.inj k).symm]
      exact others q here
  · exact congrArg Gathering.pockets (same .gathering (by decide))

/-- The book at GAUGE holds no lock: its release changes nothing. -/
theorem State.releaseClamp_free {p : Fin 24} {s : State} (free : ∀ b, s.clampAt p = .holding b → b.entry = none) :
    (∀ q, (s.releaseClamp p).clampAt q = s.clampAt q) ∧
      (∀ q : Fin 24, (s.releaseClamp p).carousel.places[q].number = s.carousel.places[q].number) ∧
      SameBut [.carousel] s (s.releaseClamp p) ∧ (s.releaseClamp p).mem = s.mem := by
  unfold State.releaseClamp
  cases held : s.clampAt p with
  | empty => exact ⟨fun _ => rfl, fun _ => rfl, SameBut.refl _ s, rfl⟩
  | unknown => exact ⟨fun _ => rfl, fun _ => rfl, SameBut.refl _ s, rfl⟩
  | holding b =>
    have none_held := free b held
    have released : (s.modClamp p fun b => { b with entry := none }).freeLock b = s.modClamp p fun b => { b with entry := none } := by
      rw [State.freeLock, none_held]
    dsimp only
    rw [released]
    obtain ⟨own, others, numbers, -, same, mem⟩ := s.modClamp_effect p fun b => { b with entry := none }
    refine ⟨fun q => ?_, numbers, same, mem⟩
    by_cases here : q = p
    · subst here
      rw [own, held]
      change Slot.holding { b with entry := none } = Slot.holding b
      rw [← none_held]
    · exact others q here

theorem Dealt.gauge {s : State} (h : Undealt s) : Dealt [.gauge] s (s.dealUntakenAt .gauge) := by
  obtain ⟨own, others, numbers, -, same, mem⟩ := s.modClamp_effect 2 (Book.inched (carouselPoint 2))
  rw [Slot.mapBook_inched] at own
  obtain ⟨u, hu⟩ : ∃ u, u = s.modClamp 2 (Book.inched (carouselPoint 2)) := ⟨_, rfl⟩
  rw [← hu] at own others numbers same mem
  have free : ∀ b, u.clampAt 2 = .holding b → b.entry = none := fun b held => by
    rw [own] at held
    cases place : s.clampAt 2 with
    | holding c =>
      rw [place] at held
      cases held
      exact h.gauge c place
    | empty => rw [place] at held; cases held
    | unknown => rw [place] at held; cases held
  obtain ⟨clamps, numbersFree, sameFree, memFree⟩ := State.releaseClamp_free free
  have unserved : u.releaseClamp 2 = s.unservedEnd .gauge := by rw [hu]; rfl
  have whole : SameBut [.carousel] s (u.releaseClamp 2) := (same.trans sameFree).mono (by decide)
  refine Dealt.single h unserved (fun p => ?_) (fun p => ?_) (fun p => (numbersFree p).trans (numbers p)) ?_
    (whole.mono (by decide)) (memFree.trans mem)
  · rw [if_neg (fun k => (by cases k.1)), State.cell, show (u.releaseClamp 2).gathering = s.gathering from
      whole .gathering (by decide)]
    rfl
  · rw [clamps, if_neg (fun k => (by cases k.1))]
    rw [show stationPosition .gauge = some 2 from rfl]
    by_cases here : p = 2
    · subst here
      rw [if_pos rfl]
      exact own
    · rw [if_neg fun k => here (Option.some.inj k).symm]
      exact others p here
  · exact congrArg Gathering.pockets (whole .gathering (by decide))

theorem Dealt.idle {w : Window} {s : State} (h : Undealt s) (idle : w = .launch ∨ w = .load) :
    Dealt [w] s (s.dealUntakenAt w) := by
  have nothing : s = s.unservedEnd w := by rcases idle with rfl | rfl <;> rfl
  have nowhere : stationPosition w = none := by rcases idle with rfl | rfl <;> rfl
  have plain : w ≠ .pocket ∧ w ≠ .deliver := by rcases idle with rfl | rfl <;> decide
  refine Dealt.single h nothing (fun p => ?_) (fun p => ?_) (fun _ => rfl) rfl (SameBut.refl _ s) rfl
  · rw [if_neg fun k => plain.1 k.1]
  · rw [if_neg fun k => plain.2 k.1, if_neg (fun k => (by rw [nowhere] at k; cases k))]

theorem Dealt.pocket {s : State} (h : Undealt s) : Dealt [.pocket] s (s.dealUntakenAt .pocket) := by
  obtain ⟨cells, pockets, -, -, same, -⟩ := unservedEnd_pocket (s := s) (v := s) (SameBut.refl _ s) rfl rfl
  obtain ⟨-, -, sameFold, mem⟩ := State.foldl_modCell (f := fun p => Book.inched (chainPoint p)) pocketPositions_nodup s rfl
  have carousel : (s.unservedEnd .pocket).carousel = s.carousel := same .carousel (by decide)
  refine Dealt.single h rfl (fun p => ?_) (fun p => ?_) (fun p => by rw [carousel]) pockets (sameFold.mono (by decide)) mem
  · rw [cells]
    by_cases away : p = 0 ∨ p = 17
    · rw [if_pos away, if_neg fun k => k.2 away]
    · rw [if_neg away, if_pos ⟨rfl, away⟩]
  · rw [if_neg (fun k => (by cases k.1)), if_neg (fun k => (by cases k)), State.clampAt, State.clampAt, carousel]

theorem Dealt.deliver {s : State} (h : Undealt s) : Dealt [.deliver] s (s.dealUntakenAt .deliver) := by
  have drops : s.openClamp .toReject = s.unservedEnd .deliver := by
    change _ = s.deliverUnserved
    rw [State.deliverUnserved]
    cases place : s.clampAt 17 with
    | holding b =>
      have vacant := h.deliver
      rw [place] at vacant
      cases vacant
    | empty => rfl
    | unknown => rfl
  obtain ⟨own, others, -, -, same, mem⟩ := s.openClamp_effect .toReject
  obtain ⟨-, -, numbers, -⟩ := s.setClamp_effect 17 .empty
  refine Dealt.single h drops (fun p => ?_) (fun p => ?_) numbers ?_ (same.mono (by decide)) mem
  · rw [if_neg (fun k => (by cases k.1))]
    rfl
  · by_cases last : p = 17
    · rw [if_pos ⟨rfl, last⟩, last]
      exact own
    · rw [if_neg fun k => last k.2, if_neg (fun k => (by cases k))]
      exact others p last
  · exact congrArg Gathering.pockets (same .gathering (by decide))

theorem Dealt.one {s : State} (h : Undealt s) (w : Window) : Dealt [w] s (s.dealUntakenAt w) := by
  cases w
  case launch => exact .idle h (.inl rfl)
  case load => exact .idle h (.inr rfl)
  case pocket => exact .pocket h
  case gauge => exact .gauge h
  case deliver => exact .deliver h
  all_goals exact .station h rfl (by decide)

/-- Dealing with an end leaves the line as it was for the next one. -/
theorem Dealt.undealt {l : List Window} {s t : State} (d : Dealt l s t) (h : Undealt s) : Undealt t where
  taken := by rw [show t.phase = s.phase from d.same .phase (by decide), h.taken]
  stations := by rw [show t.stations = s.stations from d.same .stations (by decide), h.stations]
  deliver := by
    rw [d.clamps]
    split
    · rfl
    · split
      · rw [Slot.markInched_isHolding]
        exact h.deliver
      · exact h.deliver
  gauge b held := by
    rw [d.clamps, if_neg (fun k => (by cases k.2))] at held
    split at held
    · cases place : s.clampAt 2 with
      | holding c =>
        rw [place] at held
        cases held
        exact h.gauge c place
      | empty => rw [place] at held; cases held
      | unknown => rw [place] at held; cases held
    · exact h.gauge b held

theorem Dealt.all {s : State} (h : Undealt s) : Dealt allWindows s s.dealUntaken := by
  have fold : ∀ (l : List Window) (s : State), l.Nodup → Undealt s → Dealt l s (l.foldl (fun s w => s.dealUntakenAt w) s) := by
    intro l
    induction l with
    | nil => exact fun s _ _ => .nil s
    | cons w l ih =>
      intro s once h
      obtain ⟨apart, rest⟩ := List.nodup_cons.mp once
      have first := Dealt.one h w
      exact first.cons (ih _ rest (first.undealt h)) apart
  exact fold allWindows s (by decide) h

/-! ### The first mark (R2, R5) -/

/-- A line at rest holds as many records after its ends have been dealt with. -/
theorem Dealt.inFlight {l : List Window} {s t : State} (d : Dealt l s t) (h : Undealt s) : t.inFlight = s.inFlight := by
  refine State.inFlight_of_holding (fun p => ?_) (fun p => ?_) (d.same .trim (by decide))
  · rw [d.cells]
    split
    · exact Slot.markInched_isHolding _ _
    · rfl
  · rw [d.clamps]
    split
    · next last => rw [last.2, h.deliver]; rfl
    · split
      · exact Slot.markInched_isHolding _ _
      · rfl

theorem exec_indexMark_unsynced (dt : Nat) (io : CountInputs) {s : State} (unsynced : s.phase.synced = false) :
    exec (.indexMark dt io) s =
      .next ((((s.elapse dt).updPhase fun p => { p with counter := 0 }).cycleIndex).updPhase fun p => { p with synced := true }) :=
  congrArg Host.Outcome.next (if_neg (by rw [State.elapse_phase, unsynced]; decide))

theorem State.snapshotWords_synced (s : State) :
    (s.updPhase fun p => { p with synced := true }).snapshotWords = s.snapshotWords := rfl

/-- The card in which the first mark's cycle index event is raised. -/
theorem State.forced_effect (dt : Nat) (s : State) {x : State}
    (hx : x = (s.elapse dt).updPhase fun p => { p with counter := 0 }) :
    x.now = s.now + dt ∧ x.phase = { s.phase with counter := 0 } ∧ SameBut [.now, .phase] s x ∧ x.mem = s.mem := by
  subst hx
  exact ⟨rfl, rfl, fun p hp => (by cases p <;> simp [Part.same] at hp ⊢), rfl⟩

theorem atIndexEvent_synced {now lead : Nat} {p q : PhaseUnit} (h : PhaseUnit.AtIndexEvent now lead p q) :
    PhaseUnit.AtIndexEvent now lead { p with synced := true } { q with synced := true } := by
  unfold PhaseUnit.AtIndexEvent at h ⊢
  exact congrArg (fun r : PhaseUnit => { r with synced := true }) h

theorem inner_of_moved : ∀ p : Fin 18, p ≠ 1 → p ≠ 0 → ¬ (p - 1 = 0 ∨ p - 1 = 17) := by decide

theorem last_of_moved : ∀ p : Fin 24, (Window.deliver ∈ allWindows ∧ p - 1 = 17) ↔ p = 18 := by decide

theorem marked_iff : ∀ q : Fin 24,
    (∃ w ∈ allWindows, stationPosition w = some q) ↔ q ∈ [(2 : Fin 24), 4, 6, 7, 9, 10] := by decide

/-- Settles O18: the counter and the marks of the index event, and at a line at rest every end dealt with. -/
theorem firstMarkSynchronises : Obligations.FirstMarkSynchronises := by
  refine ⟨fun s dt io unsynced => ?_, fun s dt io unsynced ends stations chain deliver gauge emptying running => ?_⟩
  · have run := exec_indexMark_unsynced dt io unsynced
    obtain ⟨x, hx⟩ : ∃ x, x = (s.elapse dt).updPhase fun p => { p with counter := 0 } := ⟨_, rfl⟩
    obtain ⟨now, phase, same, -⟩ := s.forced_effect dt hx
    rw [← hx] at run
    have index := State.cycleIndex_atIndexEvent (s := x) (p := s.phase) (k := s.phase.sinceIndex) phase rfl
    rw [show x.config = s.config from same .config (by decide)] at index
    have nowAfter : x.cycleIndex.now = x.now := by simp
    generalize x.cycleIndex = c at *
    refine ⟨_, run, nowAfter.trans now, ?_⟩
    rw [State.updPhase_now, nowAfter]
    exact atIndexEvent_synced index
  · have run := exec_indexMark_unsynced dt io unsynced
    obtain ⟨x, hx⟩ : ∃ x, x = (s.elapse dt).updPhase fun p => { p with counter := 0 } := ⟨_, rfl⟩
    obtain ⟨now, phase, before, mem⟩ := s.forced_effect dt hx
    rw [← hx] at run
    clear hx
    have index := State.cycleIndex_atIndexEvent (s := x) (p := s.phase) (k := s.phase.sinceIndex) phase rfl
    have gathering : x.gathering = s.gathering := before .gathering (by decide)
    have carousel : x.carousel = s.carousel := before .carousel (by decide)
    have line : x.line = s.line := before .line (by decide)
    have config : x.config = s.config := before .config (by decide)
    have port : x.port = s.port := before .port (by decide)
    have cells : ∀ p, x.cell p = s.cell p := fun p => by rw [State.cell, State.cell, gathering]
    have clamps : ∀ p, x.clampAt p = s.clampAt p := fun p => by rw [State.clampAt, State.clampAt, carousel]
    have flight : x.inFlight = s.inFlight :=
      State.inFlight_congr (by rw [gathering]) (by rw [carousel]) (before .trim (by decide))
    rw [config] at index
    have atRest : Undealt x :=
      ⟨by rw [phase]; exact ends, by rw [show x.stations = s.stations from before .stations (by decide)]; exact stations,
        by rw [clamps]; exact deliver, fun b held => gauge b (by rw [← clamps]; exact held)⟩
    have dealt := Dealt.all atRest
    have flightDealt := dealt.inFlight atRest
    have event := x.cycleIndex_eq
    generalize x.dealUntaken = y at *
    have vacant : (y.cell 17).isHolding = false := by
      rw [dealt.cells, if_neg fun k => k.2 (.inr rfl), cells]
      exact chain
    rw [State.chainEnd_vacant vacant] at event
    obtain ⟨chainMoved, places, pockets, -, -, flightMoved, -, same, memMoved⟩ := y.moved_effect x.now
    generalize y.moved x.now = z at *
    have lineMoved : z.line = s.line := (same .line (by decide)).trans ((dealt.same .line (by decide)).trans line)
    have configMoved : z.config = s.config := (same .config (by decide)).trans ((dealt.same .config (by decide)).trans config)
    have portMoved : z.port = s.port := (same .port (by decide)).trans ((dealt.same .port (by decide)).trans port)
    have flightAll : z.inFlight = s.inFlight := flightMoved.trans (flightDealt.trans flight)
    rw [State.emptyingCheck_stays (s := z) fun mode => by
        rw [flightAll]
        exact emptying (by rw [← lineMoved]; exact mode),
      State.levelOne_stays (s := z) fun mode => by
        rw [flightAll, lineMoved, configMoved]
        rcases running (by rw [← lineMoved]; exact mode) with h | h | h
        · exact .inl h
        · exact .inr (.inl h)
        · exact .inr (.inr (.inl h))] at event
    have told := z.snapshot_same
    obtain ⟨portAfter, -, bytes⟩ := z.snapshot_effect
    have words := z.snapshot_words
    rw [← event] at told portAfter bytes words
    generalize x.cycleIndex = c at *
    have whole : SameBut [.now, .phase, .gathering, .carousel, .miller, .cover, .port] s c :=
      (((before.trans dealt.same).trans same).trans told).mono (by decide)
    have synced : SameBut [.phase] c (c.updPhase fun p => { p with synced := true }) := fun p hp => by
      cases p <;> simp [Part.same] at hp ⊢
    have gatheringAfter : c.gathering = z.gathering := told .gathering (by decide)
    have carouselAfter : c.carousel = z.carousel := told .carousel (by decide)
    have nowAfter : c.now = x.now :=
      (told .now (by decide)).trans ((same .now (by decide)).trans (dealt.same .now (by decide)))
    refine ⟨_, run, nowAfter.trans now, ?_, fun p => ?_, ?_, fun p => ?_, fun p => ?_, ?_, ?_, ?_, ?_,
      (whole.trans synced).mono (by decide), ?_⟩
    · rw [State.updPhase_now, nowAfter]
      exact atIndexEvent_synced index
    · have moved : c.cell p = y.cell (p - 1) := by
        rw [State.cell, gatheringAfter]
        exact chainMoved p
      refine moved.trans ?_
      rw [dealt.cells, cells]
      by_cases first : p = 1
      · subst first
        rfl
      · rw [if_neg first]
        by_cases wrapped : p = 0
        · subst wrapped
          cases place : s.cell (0 - 1) with
          | holding b =>
            rw [show ((0 : Fin 18) - 1) = 17 from rfl] at place
            rw [place] at chain
            cases chain
          | empty => rfl
          | unknown => rfl
        · exact if_pos ⟨by decide, inner_of_moved p first wrapped⟩
    · exact (congrArg Gathering.pockets gatheringAfter).trans (pockets.trans (dealt.pockets.trans (by rw [gathering])))
    · have moved : c.clampAt p = y.clampAt (p - 1) := by
        rw [State.clampAt, carouselAfter, places]
        rfl
      refine moved.trans ?_
      rw [dealt.clamps, clamps]
      exact if_congr (last_of_moved p) rfl (if_congr (marked_iff (p - 1)) rfl rfl)
    · have moved : c.carousel.places[p].number = y.carousel.places[p - 1].number := by rw [carouselAfter, places]
      exact moved.trans ((dealt.numbers _).trans (by rw [carousel]))
    · exact (told .miller (by decide)).trans ((same .miller (by decide)).trans (dealt.miller.trans (by
        rw [if_pos (by decide), show x.miller = s.miller from before .miller (by decide)])))
    · exact (told .cover (by decide)).trans ((same .cover (by decide)).trans (dealt.cover.trans (by
        rw [if_pos (by decide), show x.cover = s.cover from before .cover (by decide)])))
    · exact portAfter.trans (by rw [portMoved])
    · rw [State.snapshotWords_synced]
      exact words
    · exact ((BytesBut.of_mem (w := []) (memMoved.trans (dealt.mem.trans mem))).trans bytes).mono fun _ h => h

end Sys2Proof.Machine
end

section
/-!
The knife drive's report, the trimmer's faults and its return to IDLE from a fault (R130, R132, R135 to R139, R161).
-/

namespace Sys2Proof.Machine

/-! ### The test for a take (R132) -/

theorem SameBut.updTrim (f : Trimmer → Trimmer) (s : State) : SameBut [.trim] s (s.updTrim f) := fun p hp => by
  cases p <;> simp [Part.same] at hp ⊢

theorem guarded_eq_false {c : Causes} : c.guarded = false ↔ c.estop = false ∧ c.guardOpen = false := by
  simp [Causes.guarded]

/-- An idle trimmer that is not guarded takes an eligible head with values. -/
theorem State.testTake_takes {s : State} {e : QueueEntry} {rest : List QueueEntry} {g : GaugeFormat}
    (queue : s.trim.queue = e :: rest) (values : e.book.gauged = some g) (idle : s.trim.phase = .idle)
    (free : s.line.causes.guarded = false) (ripe : e.eligible = true) :
    s.testTake = s.updTrim (Trimmer.takeFrom s.now s.config.settings g.knives) := by
  have knives : e.book.knives = some g.knives := by rw [Book.knives, values]; rfl
  rw [State.testTake, queue]
  simp only
  rw [if_pos ⟨idle, free, ripe⟩, knives]

/-- What a take makes depends on what a take keeps: the knives, the cut timer, the fault reason and the outfeed. -/
theorem Taken.congr {now : Nat} {c : Settings} {e : QueueEntry} {rest : List QueueEntry} {g : GaugeFormat} {u w v : Trimmer}
    (h : Taken now c e rest g u v) (knives : w.knives = u.knives) (cutAt : w.cutAt = u.cutAt) (reason : w.reason = u.reason)
    (outfeed : w.outfeed = u.outfeed) : Taken now c e rest g w v := by
  intro two both
  obtain ⟨kept, drive⟩ := h two both
  rw [knives, cutAt, reason]
  refine ⟨kept.trans ?_, drive⟩
  cases u; cases w
  simp only at outfeed
  rw [outfeed]

/-! ### The drive's report (R130, R135) -/

theorem Drive.standsAt_report {α : Type} [DecidableEq α] {d : Drive α} {m k : α} (moving : d.target = some m) :
    d.report.standsAt k = (decide (d.next = none ∨ d.next = some m) && decide (m = k)) := by
  rw [Drive.report_of_target moving, Bool.eq_iff_iff, Drive.standsAt_iff]
  by_cases last : d.next = none ∨ d.next = some m
  · simp [last]
  · have goes : d.next ≠ none := fun none => last (.inl none)
    rw [if_neg last, decide_eq_false last]
    simp [goes]

/-- The drive takes a report first. -/
def Trimmer.reported (t : Trimmer) : Trimmer := { t with knives := t.knives.report }

theorem State.knifeReport_moving {s : State} {d : KnifeSet} (moving : s.trim.knives.target = some d) :
    s.knifeReport = (s.updTrim Trimmer.reported).afterReport := by
  rw [State.knifeReport, moving]
  rfl

theorem State.afterReport_astray {s : State} {k : KnifeSet} (target : s.trim.target = some k)
    (away : s.trim.knives.standsAt k = false) : s.afterReport = s := by
  rw [State.afterReport, target]
  simp only
  rw [away, if_neg (by decide)]

theorem State.afterReport_positioned {s : State} {k : KnifeSet} (target : s.trim.target = some k)
    (stands : s.trim.knives.standsAt k = true) (phase : s.trim.phase = .positioning) :
    s.afterReport = s.updTrim (Trimmer.cutting s.now s.config.settings.cutTime) := by
  rw [State.afterReport, target]
  simp only
  rw [stands, if_pos rfl, phase]

theorem State.afterReport_mended {s : State} {k : KnifeSet} (target : s.trim.target = some k)
    (stands : s.trim.knives.standsAt k = true) (phase : s.trim.phase = .fault) (reason : s.trim.reason = .positioning) :
    s.afterReport =
      if s.trim.books = [] then ((s.clearCause .trimmer).updTrim Trimmer.toIdle).testTake
      else (s.clearCause .trimmer).updTrim (Trimmer.cutting s.now s.config.settings.cutTime) := by
  rw [State.afterReport, target]
  simp only
  rw [stands, if_pos rfl, phase]
  simp only
  rw [if_pos reason]

/-! ### The trimmer cleared of a fault (R139, R161) -/

/-- TRIMMER is cleared and the trimmer changed by `f`: nothing else. -/
structure Mended (f : Trimmer → Trimmer) (s t : State) : Prop where
  trim : t.trim = f s.trim
  line : t.line = { s.line with causes := { s.line.causes with trimmer := false } }
  word : s.line.causes.trimmer = true → t.word Header.causes = t.line.causes.word
  same : SameBut [.trim, .line] s t
  bytes : BytesBut [Header.causes] s t

theorem State.mended (f : Trimmer → Trimmer) (s : State) : Mended f s ((s.clearCause .trimmer).updTrim f) := by
  obtain ⟨line, word, same, bytes⟩ := s.clearCause_whole .trimmer
  have trim : (s.clearCause .trimmer).trim = s.trim := same .trim (by decide)
  exact ⟨congrArg f trim, line, word, (same.trans (SameBut.updTrim f _)).mono (by decide), bytes⟩

theorem Mended.noTake {s t : State} (h : Mended Trimmer.toIdle s t)
    (rests : s.line.causes.guarded = true ∨ ∀ e ∈ s.trim.queue.head?, e.eligible = false) : t.testTake = t := by
  refine State.testTake_of_noTake t (.inr ?_)
  rw [h.trim, h.line]
  exact rests

theorem Mended.takes {s t : State} (h : Mended Trimmer.toIdle s t) {e : QueueEntry} {rest : List QueueEntry} {g : GaugeFormat}
    (queue : s.trim.queue = e :: rest) (values : e.book.gauged = some g) (free : s.line.causes.guarded = false)
    (ripe : e.eligible = true) :
    Taken s.now s.config.settings e rest g s.trim.toIdle t.testTake.trim ∧ t.testTake.line = t.line ∧
      SameBut [.trim] t t.testTake ∧ t.testTake.mem = t.mem := by
  have queue' : t.trim.queue = e :: rest := by rw [h.trim]; exact queue
  have now : t.now = s.now := h.same .now (by decide)
  have config : t.config = s.config := h.same .config (by decide)
  rw [State.testTake_takes queue' values (by rw [h.trim]; rfl) (by rw [h.line]; exact free) ripe, now, config]
  refine ⟨?_, rfl, SameBut.updTrim _ _, rfl⟩
  rw [State.updTrim_trim, h.trim]
  exact Trimmer.takeFrom_effect _ _ _ _ _ _ queue values

/-- Settles O43: by whether the drive stands at the trimmer's target after it took the report. -/
theorem knifeReportStartsTheCut : Obligations.KnifeReportStartsTheCut := by
  refine ⟨fun s dt still => ?_, fun s dt phase k target d moving => ?_,
    fun s dt phase reason k target d moving stands stands_eq => ?_⟩
  · refine congrArg Host.Outcome.next (if_neg ?_)
    rw [State.elapse_trim, still]
    decide
  · have report := Drive.report_of_target moving
    have stands := Drive.standsAt_report (k := k) moving
    obtain ⟨u, hu⟩ : ∃ u, u = (s.elapse dt).updTrim Trimmer.reported := ⟨_, rfl⟩
    have trim : u.trim = { s.trim with knives := s.trim.knives.report } := by rw [hu]; rfl
    have same : SameBut [.now, .trim] s u := hu ▸ (s.elapse_same dt).trans (SameBut.updTrim _ _)
    have mem : u.mem = s.mem := by rw [hu]; rfl
    have now : u.now = s.now + dt := by rw [hu]; rfl
    have run : exec (.knifePositioningReport dt) s = .next u.afterReport :=
      congrArg Host.Outcome.next ((State.knifeReport_moving (s := s.elapse dt) moving).trans (by rw [hu]))
    by_cases last : s.trim.knives.next = none ∨ s.trim.knives.next = some d
    · rw [if_pos last] at report
      by_cases there : d = k
      · have stood : u.trim.knives.standsAt k = true := by
          rw [trim]
          exact stands.trans (by rw [decide_eq_true last, decide_eq_true there]; rfl)
        have config : u.config = s.config := same .config (by decide)
        refine ⟨_, run.trans (congrArg _ (State.afterReport_positioned (by rw [trim]; exact target) stood
          (by rw [trim]; exact phase))), now, ?_, (same.trans (SameBut.updTrim _ _)).mono (by decide), BytesBut.of_mem mem⟩
        rw [if_pos last, if_pos there, State.updTrim_trim, trim, now, config, report]
        rfl
      · have stood : u.trim.knives.standsAt k = false := by rw [trim]; simp [stands, there]
        refine ⟨u, run.trans (congrArg _ (State.afterReport_astray (by rw [trim]; exact target) stood)), now, ?_, same,
          BytesBut.of_mem mem⟩
        rw [if_pos last, if_neg there, trim, report]
    · have stood : u.trim.knives.standsAt k = false := by rw [trim]; simp [stands, last]
      refine ⟨u, run.trans (congrArg _ (State.afterReport_astray (by rw [trim]; exact target) stood)), now, ?_, same,
        BytesBut.of_mem mem⟩
      rw [if_neg last, trim, report, if_neg last]
  · have report := Drive.report_of_target moving
    have stood := Drive.standsAt_report (k := k) moving
    rw [← stands_eq] at stood
    obtain ⟨u, hu⟩ : ∃ u, u = (s.elapse dt).updTrim Trimmer.reported := ⟨_, rfl⟩
    have trim : u.trim = { s.trim with knives := s.trim.knives.report } := by rw [hu]; rfl
    have same : SameBut [.now, .trim] s u := hu ▸ (s.elapse_same dt).trans (SameBut.updTrim _ _)
    have mem : u.mem = s.mem := by rw [hu]; rfl
    have now : u.now = s.now + dt := by rw [hu]; rfl
    have line : u.line = s.line := same .line (by decide)
    have run : exec (.knifePositioningReport dt) s = .next u.afterReport :=
      congrArg Host.Outcome.next ((State.knifeReport_moving (s := s.elapse dt) moving).trans (by rw [hu]))
    have stands_u : u.trim.knives.standsAt k = stands := by rw [trim]; exact stood
    refine ⟨fun away => ?_, fun there rests => ?_⟩
    · refine ⟨u, run.trans (congrArg _ (State.afterReport_astray (by rw [trim]; exact target) (stands_u.trans away))), now, ?_,
        same, BytesBut.of_mem mem⟩
      rw [trim, report]
    · have last : s.trim.knives.next = none ∨ s.trim.knives.next = some d := by
        rw [there] at stands_eq
        simp only [Bool.true_eq, Bool.and_eq_true, decide_eq_true_eq] at stands_eq
        exact stands_eq.1
      have config : u.config = s.config := same .config (by decide)
      have books : u.trim.books = s.trim.books := by rw [trim]
      have mends := State.afterReport_mended (s := u) (by rw [trim]; exact target) (stands_u.trans there)
        (by rw [trim]; exact phase) (by rw [trim]; exact reason)
      rw [if_pos last] at report
      by_cases empty : s.trim.books = []
      · have mended := u.mended Trimmer.toIdle
        rw [books, if_pos empty, mended.noTake] at mends
        · obtain ⟨trim', line', word, same', bytes⟩ := mended
          refine ⟨_, run.trans (congrArg _ mends), (same' .now (by decide)).trans now, ?_, by rw [line', line],
            fun present => word (by rw [line]; exact present), (same.trans same').mono (by decide),
            ((BytesBut.of_mem (w := []) mem).trans bytes).mono fun _ h => h⟩
          rw [if_pos empty, trim', trim, report]
          simp [Trimmer.toIdle, stopWhenIdle, empty]
        · rw [line, trim]
          exact (rests empty).resolve_left (fun busy => busy rfl)
      · rw [books, if_neg empty] at mends
        obtain ⟨trim', line', word, same', bytes⟩ := u.mended (Trimmer.cutting u.now u.config.settings.cutTime)
        refine ⟨_, run.trans (congrArg _ mends), (same' .now (by decide)).trans now, ?_, by rw [line', line],
          fun present => word (by rw [line]; exact present), (same.trans same').mono (by decide),
          ((BytesBut.of_mem (w := []) mem).trans bytes).mono fun _ h => h⟩
        rw [if_neg empty, trim', trim, report, now, config]
        rfl

end Sys2Proof.Machine
end

section
/-!
The made posting and the cut (R35, R39, R137, R138, R147, R148, R150, R160).
-/

namespace Sys2Proof.Machine

/-! ### Entries of the defect log, one behind the other (R148) -/

/-- The entries of one book are written to the log. -/
def State.logAll (b : Book) (l : List LogEntry) (s : State) : State := l.foldl (fun u e => u.logEntry b e) s

theorem State.logAll_cons (b : Book) (e : LogEntry) (l : List LogEntry) (s : State) :
    s.logAll b (e :: l) = (s.logEntry b e).logAll b l := List.foldl_cons ..

theorem count_succ (n : Word) (i : Nat) : n + 1 + BitVec.ofNat 32 i = n + BitVec.ofNat 32 (i + 1) := by
  rw [show (1 : Word) = BitVec.ofNat 32 1 from rfl]
  apply BitVec.eq_of_toNat_eq
  simp only [BitVec.toNat_add, BitVec.toNat_ofNat]
  omega

theorem logSlot_apart {n : Word} {i : Nat} (one : 1 ≤ i) (few : i < 128) :
    logSlot (n + BitVec.ofNat 32 i) + 32 ≤ logSlot n ∨ logSlot n + 32 ≤ logSlot (n + BitVec.ofNat 32 i) := by
  have wide := n.isLt
  simp only [logSlot, BitVec.toNat_add, BitVec.toNat_ofNat]
  omega

/-- The words that the entries of one book, and its notices, can write. -/
def logAllWords (count : Word) (n : Nat) : List Nat :=
  (List.range n).flatMap fun i => Header.count 2 :: logWordsAt (count + BitVec.ofNat 32 i)

theorem mem_logAllWords {count : Word} {n w : Nat} :
    w ∈ logAllWords count n ↔ ∃ i < n, w = Header.count 2 ∨ w ∈ logWordsAt (count + BitVec.ofNat 32 i) := by
  simp only [logAllWords, List.mem_flatMap, List.mem_range, List.mem_cons]

theorem State.logAll_effect (b : Book) (l : List LogEntry) (few : l.length ≤ 128) (s : State) :
    (∀ i e, l[i]? = some e → Logged (s.port.counts[(2 : Fin 8)] + BitVec.ofNat 32 i) b e (s.logAll b l)) ∧
      Noticed (fun c => if c = 2 then l.length else 0) s (s.logAll b l) ∧
      (s.logAll b l).port = { s.port with
        counts := (s.logAll b l).port.counts, attention := (s.logAll b l).port.attention } ∧
      SameBut [.port] s (s.logAll b l) ∧ BytesBut (logAllWords s.port.counts[(2 : Fin 8)] l.length) s (s.logAll b l) := by
  induction l generalizing s with
  | nil =>
    have none : s.logAll b [] = s := rfl
    rw [none]
    refine ⟨fun i e he => ?_, fun c => ⟨?_, fun some => ?_⟩, rfl, SameBut.refl _ s, BytesBut.refl _ s⟩
    · rw [List.getElem?_nil] at he
      cases he
    · simp
    · simp at some
  | cons e l ih =>
    have short : l.length < 128 := few
    obtain ⟨v, hv⟩ : ∃ v, v = s.logEntry b e := ⟨_, rfl⟩
    have run : s.logAll b (e :: l) = v.logAll b l := by rw [hv, State.logAll_cons]
    have first := s.logEntry_logged b e
    have noticed := s.logEntry_noticed b e
    have port := s.logEntry_port b e
    have same := s.logEntry_same b e
    have bytes := (s.logEntry_effect b e).2.2
    rw [← hv] at first noticed port same bytes
    have count : v.port.counts[(2 : Fin 8)] = s.port.counts[(2 : Fin 8)] + 1 := (noticed 2).1
    obtain ⟨logged, noticed', port', same', bytes'⟩ := ih (le_of_lt short) v
    have step : ∀ i, s.port.counts[(2 : Fin 8)] + 1 + BitVec.ofNat 32 i = s.port.counts[(2 : Fin 8)] + BitVec.ofNat 32 (i + 1) :=
      count_succ _
    rw [run]
    rw [count] at logged bytes'
    simp only [step] at logged
    refine ⟨fun i x hx => ?_, fun c => ⟨?_, fun some => ?_⟩, ?_, (same.trans same').mono (by decide), ?_⟩
    · cases i with
      | zero =>
        rw [List.getElem?_cons_zero, Option.some.injEq] at hx
        have kept := first.of_bytes bytes' fun w hw => by
          obtain ⟨i, hi, rfl | hw⟩ := mem_logAllWords.mp hw
          · exact .inl (by have := logSlot_bounds s.port.counts[(2 : Fin 8)]; simp only [Header.count]; omega)
          · obtain ⟨j, hj, rfl⟩ := List.mem_map.mp hw
            have := List.mem_range.mp hj
            rw [step]
            have := logSlot_apart (n := s.port.counts[(2 : Fin 8)]) (i := i + 1) (by omega) (by omega)
            omega
        rw [← hx, show s.port.counts[(2 : Fin 8)] + BitVec.ofNat 32 0 = s.port.counts[(2 : Fin 8)] from BitVec.add_zero _]
        exact kept
      | succ i => exact logged i x hx
    · rw [(noticed' c).1, (noticed c).1]
      by_cases defect : c = 2
      · subst defect
        exact count_succ _ _
      · have other : ¬ c = Attention.defectLogged.number := defect
        simp [oneNotice, defect, other]
    · have defect : c = 2 := by
        by_contra other
        exact some (if_neg other)
      subst defect
      by_cases more : l.length = 0
      · have last : v.logAll b l = v := by rw [List.length_eq_zero_iff.mp more]; rfl
        rw [last]
        exact (noticed 2).2 (by decide)
      · exact (noticed' 2).2 fun none => more ((if_pos rfl).symm.trans none)
    · rw [port', port]
    · refine (bytes.trans bytes').mono fun a ha => mem_logAllWords.mpr ?_
      rcases List.mem_append.mp ha with h | h
      · refine ⟨0, Nat.succ_pos _, ?_⟩
        rw [show s.port.counts[(2 : Fin 8)] + BitVec.ofNat 32 0 = s.port.counts[(2 : Fin 8)] from BitVec.add_zero _]
        exact ((List.mem_append.mp h).imp id List.mem_singleton.mp).symm
      · obtain ⟨i, hi, hw⟩ := mem_logAllWords.mp h
        rw [step] at hw
        exact ⟨i + 1, Nat.succ_lt_succ hi, hw⟩

/-! ### The made posting (R35, R152) -/

/-- A ticket after a made posting (R35). -/
def HeldTicket.madeOne (x : HeldTicket) : HeldTicket := { x with made := x.made + 1 }

theorem HeldTicket.changed_madeOne (x : HeldTicket) : x.changed x.madeOne = [.made] := by
  have differs : x.value .made ≠ x.madeOne.value .made := ofNat32_succ_ne x.made
  have others : ∀ f, f ≠ .made → x.value f = x.madeOne.value f := fun f hf => by cases f <;> first | rfl | exact absurd rfl hf
  simp [HeldTicket.changed, HeldTicket.written, differs, others]

theorem State.postMade_eq (b : Book) (s : State) :
    s.postMade b =
      match (s.consult b.ticket).held b.ticket with
      | none => (s.consult b.ticket).logAll b (warningEntries b)
      | some t => (((s.consult b.ticket).logAll b (warningEntries b)).changeTicket t t.madeOne).endCheck b.ticket := rfl

theorem HeldTicket.consulted_of_standing (x : HeldTicket) : x.consulted false = x := by
  rw [HeldTicket.consulted_eq]
  simp

/-- A held ticket whose book is posted made, before its end check. -/
def State.madeCounted (b : Book) (x : HeldTicket) (s : State) : State :=
  ((s.consult b.ticket).logAll b (warningEntries b)).changeTicket x x.madeOne

theorem State.postMade_held {b : Book} {x : HeldTicket} {s : State} (held : s.held b.ticket = some x) :
    s.postMade b =
      (s.madeCounted b (x.consulted (s.mem.cancelled b.ticket))).endCheck b.ticket := by
  have consulted := (s.consult_effect b.ticket).1
  rw [held, Option.map_some] at consulted
  rw [State.postMade_eq, consulted]
  rfl

theorem warningEntries_length (b : Book) : (warningEntries b).length ≤ 3 := by
  unfold warningEntries
  simp only [List.length_append]
  split <;> split <;> split <;> simp

/-- What a made posting makes of its ticket before the end check. -/
theorem State.madeCounted_effect {b : Book} {x y : HeldTicket} {s u : State} (held : s.held b.ticket = some x)
    (table : b.ticket < 256) (hy : y = x.consulted (s.mem.cancelled b.ticket)) (hu : u = s.madeCounted b y) :
    u.held b.ticket = some y.madeOne ∧ (∀ i, i ≠ b.ticket → u.held i = s.held i) ∧
      u.mem.ticket b.ticket .made = BitVec.ofNat 32 (y.made + 1) ∧ u.sched = { s.sched with held := u.sched.held } ∧
      u.port = { s.port with counts := u.port.counts, attention := u.port.attention } ∧
      Noticed (fun c => if c = 2 then (warningEntries b).length else 0) s u ∧
      (∀ i e, (warningEntries b)[i]? = some e → Logged (s.port.counts[(2 : Fin 8)] + BitVec.ofNat 32 i) b e u) ∧
      SameBut [.sched, .port] s u ∧
      BytesBut (logAllWords s.port.counts[(2 : Fin 8)] (warningEntries b).length ++ [ticketAddr b.ticket .made]) s u := by
  obtain ⟨consulted, others, mem, sched, same⟩ := s.consult_effect b.ticket
  rw [held, Option.map_some, ← hy] at consulted
  have port : (s.consult b.ticket).port = s.port := same .port (by decide)
  obtain ⟨logged, noticed, portLogged, sameLogged, bytesLogged⟩ :=
    (s.consult b.ticket).logAll_effect b (warningEntries b) (le_trans (warningEntries_length b) (by decide))
  obtain ⟨v, hv⟩ : ∃ v, v = (s.consult b.ticket).logAll b (warningEntries b) := ⟨_, rfl⟩
  rw [← hv] at logged noticed portLogged sameLogged bytesLogged
  rw [port] at logged portLogged bytesLogged
  have schedLogged : v.sched = (s.consult b.ticket).sched := sameLogged .sched (by decide)
  have own : y.index = b.ticket := State.held_index consulted
  have index : y.madeOne.index = b.ticket := own
  have after : u = v.changeTicket y y.madeOne := by rw [hu, hv]; rfl
  have bytesMade := State.changeTicket_bytes y y.madeOne v
  have sameMade := State.changeTicket_same y y.madeOne v
  have put := (State.changeTicket_effect y y.madeOne v).1
  have word := State.ticket_changeTicket y y.madeOne v .made
  rw [← after] at bytesMade sameMade put word
  rw [index, HeldTicket.changed_madeOne] at bytesMade word
  rw [if_pos (List.mem_singleton_self _)] at word
  have portMade : u.port = v.port := sameMade .port (by decide)
  have low := ticketAddr_low b.ticket .made
  have high := ticketAddr_high table .made
  refine ⟨?_, fun i hi => ?_, word, ?_, by rw [portMade]; exact portLogged, fun c => ?_, fun i e he => ?_,
    ((same.trans sameLogged).trans sameMade).mono (by decide), ?_⟩
  · rw [State.held, put, schedLogged, ← index]
    exact Schedule.find_put_same (x := y) (by rw [index]; exact consulted)
  · rw [State.held, put, schedLogged, Schedule.find_put_of_ne (by rw [index]; exact hi)]
    exact others i hi
  · rw [put, schedLogged, sched]
    rfl
  · rw [portMade]
    refine ⟨(noticed.of_counts (by rw [port]) c).1, fun some => ?_⟩
    rw [bytesMade.word fun w hw => ?_]
    · exact (noticed c).2 some
    · rw [List.mem_singleton.mp hw]
      have := c.isLt
      simp only [Header.count]
      omega
  · exact (logged i e he).of_bytes bytesMade fun w hw => by
      rw [List.mem_singleton.mp hw]
      have := logSlot_bounds (s.port.counts[(2 : Fin 8)] + BitVec.ofNat 32 i)
      omega
  · exact ((BytesBut.of_mem (w := []) mem).trans (bytesLogged.trans bytesMade)).mono fun _ h => h

theorem warningEntries_none {b : Book} (clean : b.warnings = ⟨false, false, false⟩) : warningEntries b = [] := by
  unfold warningEntries
  rw [clean]
  rfl

/-- Without a warning the made count alone changes. -/
theorem State.madeCounted_clean {b : Book} {x : HeldTicket} {s : State} (clean : b.warnings = ⟨false, false, false⟩)
    (held : s.held b.ticket = some x) :
    SameBut [.sched] s (s.madeCounted b (x.consulted (s.mem.cancelled b.ticket))) ∧
      BytesBut [ticketAddr b.ticket .made] s (s.madeCounted b (x.consulted (s.mem.cancelled b.ticket))) := by
  obtain ⟨consulted, -, mem, -, same⟩ := s.consult_effect b.ticket
  rw [held, Option.map_some] at consulted
  generalize x.consulted (s.mem.cancelled b.ticket) = y at *
  have run : s.madeCounted b y = (s.consult b.ticket).changeTicket y y.madeOne := by
    rw [State.madeCounted, warningEntries_none clean]
    rfl
  have bytes := State.changeTicket_bytes y y.madeOne (s.consult b.ticket)
  have own : y.index = b.ticket := State.held_index consulted
  rw [HeldTicket.changed_madeOne, show y.madeOne.index = b.ticket from own] at bytes
  rw [run]
  exact ⟨(same.trans (State.changeTicket_same _ _ _)).mono (by decide),
    ((BytesBut.of_mem (w := []) mem).trans bytes).mono fun _ h => h⟩

/-- The end check of a ticket that neither comes to its quantity nor has nothing left to come. -/
theorem State.endCheck_rests {i : Nat} {s : State} {x : HeldTicket} (held : s.held i = some x) (short : x.made ≠ x.qty)
    (left : x.exhausted = false) : s.endCheck i = s := by
  rw [State.endCheck, held]
  dsimp only
  rw [if_neg short, if_neg (by rw [left]; decide)]

theorem HeldTicket.exhausted_of_flight {x : HeldTicket} (flight : (x.launched : Int) - x.made - x.spoiled ≠ 0) :
    x.exhausted = false := by
  have : x.inFlight ≠ 0 := by unfold HeldTicket.inFlight; omega
  simp [HeldTicket.exhausted, this]

/-- A made posting that leaves its ticket something to come is the count and the entries alone. -/
theorem State.postMade_counted {b : Book} {x : HeldTicket} {s : State} (held : s.held b.ticket = some x)
    (table : b.ticket < 256) (standing : s.mem.cancelled b.ticket = false) (short : x.made + 1 ≠ x.qty)
    (flight : (x.launched : Int) - (x.made + 1) - x.spoiled ≠ 0) : s.postMade b = s.madeCounted b x := by
  rw [State.postMade_held held, standing, HeldTicket.consulted_of_standing]
  obtain ⟨counted, -⟩ := State.madeCounted_effect (y := x) held table
    (by rw [standing, HeldTicket.consulted_of_standing]) rfl
  refine State.endCheck_rests counted short (HeldTicket.exhausted_of_flight ?_)
  push_cast [HeldTicket.madeOne]
  exact flight

/-- The last book of a quantity ends its ticket DONE. -/
theorem State.postMade_done {b : Book} {x : HeldTicket} {s : State} (held : s.held b.ticket = some x)
    (table : b.ticket < 256) (standing : s.mem.cancelled b.ticket = false) (last : x.made + 1 = x.qty) :
    s.postMade b = (s.madeCounted b x).endHeld x.madeOne .noReason .done := by
  rw [State.postMade_held held, standing, HeldTicket.consulted_of_standing]
  obtain ⟨counted, -⟩ := State.madeCounted_effect (y := x) held table
    (by rw [standing, HeldTicket.consulted_of_standing]) rfl
  have done : x.madeOne.made = x.madeOne.qty := last
  rw [State.endCheck_ends counted (.inl done), if_pos done, if_pos done]

/-- The made count of a ticket is written at its book's posting, whatever the end check does. -/
theorem State.postMade_made {b : Book} {x : HeldTicket} {s : State} (held : s.held b.ticket = some x)
    (table : b.ticket < 256) : (s.postMade b).mem.ticket b.ticket .made = BitVec.ofNat 32 (x.made + 1) := by
  obtain ⟨y, hy⟩ : ∃ y, y = x.consulted (s.mem.cancelled b.ticket) := ⟨_, rfl⟩
  have made : y.made = x.made := by rw [hy, HeldTicket.consulted_eq]
  rw [State.postMade_held held, ← hy]
  obtain ⟨u, hu⟩ : ∃ u, u = s.madeCounted b y := ⟨_, rfl⟩
  obtain ⟨counted, -, word, -⟩ := State.madeCounted_effect held table hy hu
  rw [← hu]
  rw [made] at word
  by_cases ends : y.madeOne.made = y.madeOne.qty ∨ y.madeOne.exhausted = true
  · rw [State.endCheck_ends counted ends]
    obtain ⟨-, -, -, -, -, fields, -⟩ := State.endHeld_effect y.madeOne _ _ u rfl
    have written := fields .made (by decide) (by decide)
    rw [State.held_index counted] at written
    rw [written, ← made]
    rfl
  · rw [State.endCheck_rests counted (fun k => ends (.inl k)) (by simpa using fun k => ends (.inr k))]
    exact word

/-- Whatever it posts, a made posting leaves the card but for the tickets, the notices and the words of both. -/
theorem State.postMade_effect (b : Book) (s : State) :
    SameBut [.sched, .port] s (s.postMade b) ∧
      (s.postMade b).port = { s.port with counts := (s.postMade b).port.counts, attention := (s.postMade b).port.attention } ∧
      ∀ c : Fin 8, c ≠ 1 → c ≠ 2 → (s.postMade b).port.counts[c] = s.port.counts[c] := by
  have same := (s.consult_effect b.ticket).2.2.2.2
  have port : (s.consult b.ticket).port = s.port := same .port (by decide)
  obtain ⟨-, noticed, portLogged, sameLogged, -⟩ :=
    (s.consult b.ticket).logAll_effect b (warningEntries b) (le_trans (warningEntries_length b) (by decide))
  have counts : ∀ c : Fin 8, c ≠ 2 → ((s.consult b.ticket).logAll b (warningEntries b)).port.counts[c] = s.port.counts[c] :=
    fun c other => by
      rw [(noticed c).1, port]
      dsimp only
      rw [if_neg other]
      exact BitVec.add_zero _
  rw [port] at portLogged
  rw [State.postMade_eq]
  cases (s.consult b.ticket).held b.ticket with
  | none => exact ⟨(same.trans sameLogged).mono (by decide), portLogged, fun c _ other => counts c other⟩
  | some t =>
    have sameMade := State.changeTicket_same t t.madeOne ((s.consult b.ticket).logAll b (warningEntries b))
    dsimp only
    generalize (s.consult b.ticket).logAll b (warningEntries b) = v at *
    have portMade : (v.changeTicket t t.madeOne).port = v.port := sameMade .port (by decide)
    obtain ⟨sameEnd, portEnd, countsEnd, -⟩ := (v.changeTicket t t.madeOne).endCheck_effect b.ticket
    refine ⟨(((same.trans sameLogged).trans sameMade).trans sameEnd).mono (by decide), ?_, fun c first second => ?_⟩
    · rw [portEnd, portMade, portLogged]
    · rw [countsEnd c first, portMade, counts c second]

end Sys2Proof.Machine
end

section
/-!
The cut-complete event (R35, R39, R40, R133, R137, R138, R142, R147, R148, R150, R160).
-/

namespace Sys2Proof.Machine

/-! ### The cut in parts (R138) -/

/-- The trimmer back in IDLE, its outfeed set for the books it held. -/
def State.cleared (s : State) : State :=
  (s.updTrim fun t => { t with outfeed := some (outfeedFor s.trim.books) }).updTrim Trimmer.toIdle

/-- Books posted made one by one. -/
def State.postedMade (s : State) (l : List Book) : State := l.foldl (fun u b => u.postMade b) s

/-- A cut before its test for a take. -/
def State.cutPosted (s : State) : State := s.cleared.postedMade s.trim.books

theorem State.cutComplete_parts (s : State) : s.cutComplete = s.cutPosted.testTake.emptyingCheck := s.cutComplete_eq

/-- The trimmer after a cut. -/
def Trimmer.afterCut (t : Trimmer) : Trimmer :=
  { t with
    phase := .idle
    books := []
    target := none
    limitAt := none
    cutAt := none
    reason := .noFault
    gate2 := .toReject
    infeed := if t.queue = [] then .standingOpen else .closed
    outfeed := some (outfeedFor t.books) }

theorem State.cleared_trim (s : State) : s.cleared.trim = s.trim.afterCut := rfl

theorem State.cleared_same (s : State) : SameBut [.trim] s s.cleared :=
  ((SameBut.updTrim _ s).trans (SameBut.updTrim _ _)).mono (by decide)

theorem outfeedFor_eq (l : List Book) :
    outfeedFor l = if ∃ b ∈ l, b.warnings ≠ ⟨false, false, false⟩ then .inspection else .stacker := by
  have warned : ∀ b : Book, b.warned = true ↔ b.warnings ≠ ⟨false, false, false⟩ := fun b => by
    unfold Book.warned
    cases b.warnings with
    | mk heavy clipped drift => cases heavy <;> cases clipped <;> cases drift <;> simp
  unfold outfeedFor
  simp only [List.any_eq_true, warned]

/-- Postings of any books leave the card but for the tickets, the notices and the words of both. -/
theorem State.postedMade_effect (l : List Book) (s : State) :
    SameBut [.sched, .port] s (s.postedMade l) ∧
      (s.postedMade l).port = { s.port with
        counts := (s.postedMade l).port.counts, attention := (s.postedMade l).port.attention } ∧
      ∀ c : Fin 8, c ≠ 1 → c ≠ 2 → (s.postedMade l).port.counts[c] = s.port.counts[c] := by
  induction l generalizing s with
  | nil => exact ⟨SameBut.refl _ s, rfl, fun _ _ _ => rfl⟩
  | cons b l ih =>
    have run : s.postedMade (b :: l) = (s.postMade b).postedMade l := List.foldl_cons ..
    obtain ⟨same, port, counts⟩ := s.postMade_effect b
    obtain ⟨same', port', counts'⟩ := ih (s.postMade b)
    rw [run]
    exact ⟨(same.trans same').mono (by decide), by rw [port', port],
      fun c first second => (counts' c first second).trans (counts c first second)⟩

/-- What a cut makes of the card before its test for a take. -/
structure CutDone (s t : State) : Prop where
  trim : t.trim = s.trim.afterCut
  same : SameBut [.sched, .trim, .port] s t
  port : t.port = { s.port with counts := t.port.counts, attention := t.port.attention }
  counts : ∀ c : Fin 8, c ≠ 1 → c ≠ 2 → t.port.counts[c] = s.port.counts[c]
  flight : t.inFlight + s.trim.books.length = s.inFlight

theorem State.cutDone (s : State) : CutDone s s.cutPosted := by
  obtain ⟨same, port, counts⟩ := s.cleared.postedMade_effect s.trim.books
  have cleared := s.cleared_same
  have portCleared : s.cleared.port = s.port := cleared .port (by decide)
  have trim : s.cutPosted.trim = s.trim.afterCut := (same .trim (by decide)).trans s.cleared_trim
  have all : SameBut [.sched, .trim, .port] s s.cutPosted := (cleared.trans same).mono (by decide)
  have gathering : s.cutPosted.gathering = s.gathering := all .gathering (by decide)
  have carousel : s.cutPosted.carousel = s.carousel := all .carousel (by decide)
  refine ⟨trim, all, by rw [State.cutPosted, port, portCleared], fun c first second => ?_, ?_⟩
  · rw [State.cutPosted, counts c first second, portCleared]
  · have slots : s.cutPosted.slots = s.slots := by rw [State.slots, State.slots, gathering, carousel]
    rw [State.inFlight, State.inFlight, slots, trim]
    rfl

/-- A cut that lets the trimmer take nothing and leaves records in flight, or stands outside EMPTYING, ends there. -/
theorem State.cutComplete_rests {s : State} (stays : s.line.mode = .emptying → s.trim.books.length < s.inFlight)
    (rests : s.line.causes.guarded = true ∨ ∀ e ∈ s.trim.queue.head?, e.eligible = false) : s.cutComplete = s.cutPosted := by
  obtain ⟨trim, same, -, -, flight⟩ := s.cutDone
  have line : s.cutPosted.line = s.line := same .line (by decide)
  rw [State.cutComplete_parts, State.testTake_of_noTake, State.emptyingCheck_stays]
  · rw [line]
    intro mode
    have := stays mode
    omega
  · refine .inr ?_
    rw [line, trim]
    exact rests

/-- The cut of the last records of EMPTYING ends it in READY (R160). -/
theorem State.cutComplete_ends {s : State} (mode : s.line.mode = .emptying) (last : s.inFlight = s.trim.books.length) :
    s.cutComplete = s.cutPosted.changeMode .ready ∧ s.trim.queue = [] := by
  obtain ⟨trim, same, -, -, flight⟩ := s.cutDone
  have line : s.cutPosted.line = s.line := same .line (by decide)
  have queue : s.trim.queue = [] := List.length_eq_zero_iff.mp (by simp only [State.inFlight] at last; omega)
  refine ⟨?_, queue⟩
  rw [State.cutComplete_parts, State.testTake_of_noTake, State.emptyingCheck_ends (by rw [line]; exact mode) (by omega)]
  rw [trim]
  exact .inr (.inr fun e he => by
    rw [show s.trim.afterCut.queue = s.trim.queue from rfl, queue] at he
    cases he)

theorem exec_cut {s : State} (dt : Nat) (cutting : s.trim.phase = .cutting) (expired : ∃ u ∈ s.trim.cutAt, u ≤ s.now + dt) :
    exec (.cutTimerExpiry dt true) s = .next (s.elapse dt).cutComplete := by
  obtain ⟨u, hu, le⟩ := expired
  have due : due (s.elapse dt).now (s.elapse dt).trim.cutAt = true := by
    rw [State.elapse_trim, Option.mem_def.mp hu]
    exact decide_eq_true le
  refine congrArg Host.Outcome.next ?_
  rw [State.cutExpiry, if_pos ⟨cutting, due⟩, if_pos rfl]

/-! ### The postings of a cut -/

theorem State.cutPosted_one {b : Book} {s : State} (one : s.trim.books = [b]) : s.cutPosted = s.cleared.postMade b := by
  rw [State.cutPosted, one]
  rfl

theorem State.cutPosted_two {b c : Book} {s : State} (two : s.trim.books = [b, c]) :
    s.cutPosted = (s.cleared.postMade b).postMade c := by
  rw [State.cutPosted, two]
  rfl

/-- A made posting of a book without a warning, its ticket standing and something left to come: the made count alone. -/
theorem State.postMade_alone {b : Book} {x : HeldTicket} {s : State} (held : s.held b.ticket = some x)
    (table : b.ticket < 256) (standing : s.mem.cancelled b.ticket = false) (clean : b.warnings = ⟨false, false, false⟩)
    (short : x.made + 1 ≠ x.qty) (flight : (x.launched : Int) - (x.made + 1) - x.spoiled ≠ 0) :
    (s.postMade b).held b.ticket = some { x with made := x.made + 1 } ∧
      (∀ i, i ≠ b.ticket → (s.postMade b).held i = s.held i) ∧
      (s.postMade b).mem.ticket b.ticket .made = BitVec.ofNat 32 (x.made + 1) ∧
      (s.postMade b).sched = { s.sched with held := (s.postMade b).sched.held } ∧ SameBut [.sched] s (s.postMade b) ∧
      BytesBut [ticketAddr b.ticket .made] s (s.postMade b) := by
  have keeps : x = x.consulted (s.mem.cancelled b.ticket) := by rw [standing, HeldTicket.consulted_of_standing]
  have run := State.postMade_counted held table standing short flight
  obtain ⟨counted, others, word, sched, -⟩ := State.madeCounted_effect held table keeps run
  obtain ⟨same, bytes⟩ := State.madeCounted_clean clean held
  rw [← keeps, ← run] at same bytes
  exact ⟨counted, others, word, sched, same, bytes⟩

/-- A made posting changes no cancel request. -/
theorem cancelled_of_made {i k : Nat} {s t : State} (bytes : BytesBut [ticketAddr i .made] s t) :
    t.mem.cancelled k = s.mem.cancelled k := by
  have apart : ∀ w ∈ [ticketAddr i .made], ticketAddr k .request + 4 ≤ w ∨ w + 4 ≤ ticketAddr k .request := fun w hw => by
    rw [List.mem_singleton.mp hw]
    by_cases same : i = k
    · rw [← same]
      exact ticketAddr_apart i .request .made (by decide)
    · exact ticketAddr_other (Ne.symm same) .request .made
  unfold Memory.cancelled
  rw [show t.mem.ticket k .request = s.mem.ticket k .request from bytes.word apart]

/-- The last made posting of a ticket: it ends DONE. -/
theorem State.postMade_last {b : Book} {x : HeldTicket} {s t : State} (held : s.held b.ticket = some x)
    (table : b.ticket < 256) (standing : s.mem.cancelled b.ticket = false) (clean : b.warnings = ⟨false, false, false⟩)
    (last : x.made + 1 = x.qty) (ht : t = s.postMade b) :
    t.held b.ticket = none ∧ (∀ i, i ≠ b.ticket → t.held i = s.held i) ∧ t.mem.ticket b.ticket .made = BitVec.ofNat 32 x.qty ∧
      t.mem.ticket b.ticket .stage = Stage.done.word ∧ t.mem.ticket b.ticket .endReason = 0 ∧
      t.mem.ticket b.ticket .finish = s.port.counts[(1 : Fin 8)] + 1 ∧ Noticed (oneNotice .ticketFinished) s t ∧
      t.sched.cursor = (if x.stage = .active then (s.sched.cursor + 1) % 256 else s.sched.cursor) ∧
      t.sched = { s.sched with held := t.sched.held, cursor := t.sched.cursor } ∧
      t.port = { s.port with counts := t.port.counts, attention := t.port.attention } ∧ SameBut [.sched, .port] s t ∧
      BytesBut ([Header.count 1, Header.cursor] ++ ticketWordsAt b.ticket) s t := by
  have keeps : x = x.consulted (s.mem.cancelled b.ticket) := by rw [standing, HeldTicket.consulted_of_standing]
  obtain ⟨u, hu⟩ : ∃ u, u = s.madeCounted b x := ⟨_, rfl⟩
  have run : t = u.endHeld x.madeOne .noReason .done := by rw [ht, State.postMade_done held table standing last, hu]
  obtain ⟨counted, others, -, sched, -⟩ := State.madeCounted_effect held table keeps hu
  obtain ⟨same, bytes⟩ := State.madeCounted_clean clean held
  rw [← keeps, ← hu] at same bytes
  have own : x.madeOne.index = b.ticket := State.held_index counted
  have port : u.port = s.port := same .port (by decide)
  obtain ⟨gone, rest, stage, reason, finish, fields, noticed, cursor, -, schedEnd, portEnd, sameEnd, bytesEnd⟩ :=
    State.endHeld_effect x.madeOne .noReason .done u run
  rw [own] at gone rest stage reason finish fields bytesEnd
  rw [port] at finish portEnd
  refine ⟨gone, fun i hi => (rest i hi).trans (others i hi), ?_, stage, reason, finish, noticed.of_counts (by rw [port]), ?_, ?_,
    portEnd, (same.trans sameEnd).mono (by decide), (bytes.trans bytesEnd).mono fun a ha => ?_⟩
  · rw [fields .made (by decide) (by decide), ← last]
    rfl
  · rw [cursor, sched]
    rfl
  · rw [schedEnd, sched]
  · rcases List.mem_cons.mp ha with rfl | ha
    · exact List.mem_append_right _ (mem_ticketWordsAt _ _)
    · exact ha

/-- The cut of one book without a warning. -/
theorem exec_cut_one {s : State} (dt : Nat) (cutting : s.trim.phase = .cutting)
    (expired : ∃ u ∈ s.trim.cutAt, u ≤ s.now + dt) (stays : s.line.mode = .emptying → s.trim.books.length < s.inFlight)
    (rests : s.line.causes.guarded = true ∨ ∀ e ∈ s.trim.queue.head?, e.eligible = false) {b : Book}
    (one : s.trim.books = [b]) (clean : b.warnings = ⟨false, false, false⟩) :
    ∃ o t, exec (.cutTimerExpiry dt true) s = .next t ∧ o = (s.elapse dt).cleared ∧ t = o.postMade b ∧
      Later dt s o ∧ o.trim = { s.trim.afterCut with outfeed := some .stacker } ∧ SameBut [.now, .trim] s o ∧ o.mem = s.mem := by
  have quiet := State.cutComplete_rests (s := s.elapse dt) stays rests
  refine ⟨_, _, (exec_cut dt cutting expired).trans (congrArg _ quiet), rfl, State.cutPosted_one one, rfl, ?_,
    ((s.elapse_same dt).trans (State.cleared_same _)).mono (by decide), rfl⟩
  have stacked : outfeedFor s.trim.books = .stacker := by
    rw [outfeedFor_eq, if_neg]
    rw [one]
    simp [clean]
  rw [State.cleared_trim, State.elapse_trim, Trimmer.afterCut, stacked]

/-! ### Warnings (R147, R150) -/

/-- The entry of a warning: its code, the position on the carousel and the detail. -/
def warningEntry (w : Nat × Nat × Nat) : LogEntry :=
  ⟨true, w.1, .noRemake, .cut, carouselPoint w.2.1, word32 w.2.2, false⟩

theorem warningEntries_eq {b : Book} {g : GaugeFormat} (values : b.gauged = some g) :
    warningEntries b =
      ((if b.warnings.glueHeavy then [(32, 6, g.expectedFlow)] else []) ++
        (if b.warnings.glueClipped then [(33, 2, g.spineClose - g.spineOpen)] else []) ++
        (if b.warnings.spineDrift then [(34, 2, (g.cover.map fun c : CoverFormat => c.spine).getD 0)] else [])).map warningEntry := by
  unfold warningEntries
  rw [values]
  cases b.warnings with
  | mk heavy clipped drift => cases heavy <;> cases clipped <;> cases drift <;> rfl

/-- Settles O45: the cut posts its books made from a trimmer already IDLE. -/
theorem cutPostsMade : Obligations.CutPostsMade := by
  refine ⟨fun s dt inv cutting expired stays rests b one clean x held standing trim trim_eq => ?_,
    fun s dt inv cutting expired stays rests outfeed trim trim_eq => ⟨?_, ?_⟩,
    fun s dt inv cutting expired mode some last => ?_⟩
  · obtain ⟨o, t, run, -, ht, later, trimmed, same, mem⟩ := exec_cut_one dt cutting expired stays rests one clean
    have sched : o.sched = s.sched := same .sched (by decide)
    have port : o.port = s.port := same .port (by decide)
    have table := HeldInTable.lt inv.2.2 held
    have heldNow : o.held b.ticket = some x := (State.held_of_sched (congrArg Schedule.held sched) _).trans held
    have standingNow : o.mem.cancelled b.ticket = false := by rw [mem]; exact standing
    refine ⟨fun short flight => ?_, fun done => ?_⟩
    · obtain ⟨counted, others, word, sched', same', bytes⟩ :=
        State.postMade_alone heldNow table standingNow clean short flight
      rw [← ht] at counted others word sched' same' bytes
      exact ⟨t, run, (same' .now (by decide)).trans later, by rw [trim_eq, show t.trim = o.trim from same' .trim (by decide), trimmed]; rfl,
        counted, fun i hi => (others i hi).trans (State.held_of_sched (congrArg Schedule.held sched) _), word, by rw [sched', sched],
        (same.trans same').mono (by decide), ((BytesBut.of_mem (w := []) mem).trans bytes).mono fun _ h => h⟩
    · obtain ⟨gone, others, made, stage, reason, finish, noticed, cursor, sched', port', same', bytes⟩ :=
        State.postMade_last heldNow table standingNow clean done ht
      rw [port] at finish port'
      rw [sched] at cursor sched'
      exact ⟨t, run, (same' .now (by decide)).trans later, by rw [trim_eq, show t.trim = o.trim from same' .trim (by decide), trimmed]; rfl,
        gone, fun i hi => (others i hi).trans (State.held_of_sched (congrArg Schedule.held sched) _), made, stage, reason, finish,
        noticed.of_counts (by rw [port]), cursor, sched', port', (same.trans same').mono (by decide),
        ((BytesBut.of_mem (w := []) mem).trans bytes).mono fun _ h => h⟩
  · intro b one inspected x held standing short flight g values warnings warnings_eq warned
    have entries : warningEntries b = warnings.map warningEntry := by rw [warningEntries_eq values, warnings_eq]
    have quiet := State.cutComplete_rests (s := s.elapse dt) stays rests
    have run := (exec_cut dt cutting expired).trans (congrArg _ (quiet.trans (State.cutPosted_one one)))
    have dirty : b.warnings ≠ ⟨false, false, false⟩ := fun clean => warned (by
      have none := warningEntries_none clean
      rw [entries] at none
      exact List.map_eq_nil_iff.mp none)
    have trimmed : (s.elapse dt).cleared.trim = trim := by
      have way : outfeedFor s.trim.books = outfeed := by
        rw [outfeedFor_eq, inspected, one]
        exact if_pos ⟨b, List.mem_singleton_self b, dirty⟩
      rw [State.cleared_trim, State.elapse_trim, trim_eq, Trimmer.afterCut, way]
    have same : SameBut [.now, .trim] s (s.elapse dt).cleared :=
      ((s.elapse_same dt).trans (State.cleared_same _)).mono (by decide)
    have mem : (s.elapse dt).cleared.mem = s.mem := rfl
    have later : (s.elapse dt).cleared.now = s.now + dt := rfl
    generalize (s.elapse dt).cleared = o at *
    have sched : o.sched = s.sched := same .sched (by decide)
    have port : o.port = s.port := same .port (by decide)
    have table := HeldInTable.lt inv.2.2 held
    have heldNow : o.held b.ticket = some x := (State.held_of_sched (congrArg Schedule.held sched) _).trans held
    have standingNow : o.mem.cancelled b.ticket = false := by rw [mem]; exact standing
    have keeps : x = x.consulted (o.mem.cancelled b.ticket) := by rw [standingNow, HeldTicket.consulted_of_standing]
    have counts := State.postMade_counted heldNow table standingNow (by omega) (by omega)
    obtain ⟨counted, -, word, -, -, noticed, logged, same', -⟩ := State.madeCounted_effect heldNow table keeps rfl
    rw [← counts] at counted word noticed logged same'
    rw [port] at logged
    generalize o.postMade b = t at *
    refine ⟨t, run, (same' .now (by decide)).trans later, (same' .trim (by decide)).trans trimmed, counted, word, ?_, ?_,
      (same.trans same').mono (by decide)⟩
    · rw [entries, List.length_map] at noticed
      exact noticed.of_counts (by rw [port])
    · intro i w hw slot hslot
      have entry := logged i (warningEntry w) (by rw [entries, List.getElem?_map, hw]; rfl)
      obtain ⟨number, serial, -, ⟨code, warning, outcome, point⟩, ⟨position, place, read⟩, thick, detail⟩ := entry.entry hslot
      refine ⟨number, serial, code, warning, outcome, point, position, place, read, thick.trans ?_, detail⟩
      rw [Book.loggedThickness, values]
  · intro b c two stacked cleanB cleanC standingB standingC x y heldB heldC shortX flightX shortY flightY
    have quiet := State.cutComplete_rests (s := s.elapse dt) stays rests
    have run := (exec_cut dt cutting expired).trans (congrArg _ (quiet.trans (State.cutPosted_two two)))
    have trimmed : (s.elapse dt).cleared.trim = trim := by
      have way : outfeedFor s.trim.books = outfeed := by
        rw [outfeedFor_eq, stacked, two]
        exact if_neg (by simp [cleanB, cleanC])
      rw [State.cleared_trim, State.elapse_trim, trim_eq, Trimmer.afterCut, way]
    have same : SameBut [.now, .trim] s (s.elapse dt).cleared :=
      ((s.elapse_same dt).trans (State.cleared_same _)).mono (by decide)
    have mem : (s.elapse dt).cleared.mem = s.mem := rfl
    have later : (s.elapse dt).cleared.now = s.now + dt := rfl
    generalize (s.elapse dt).cleared = o at *
    have sched : o.sched = s.sched := same .sched (by decide)
    have holds : ∀ i, o.held i = s.held i := State.held_of_sched (congrArg Schedule.held sched)
    have tableB := HeldInTable.lt inv.2.2 heldB
    have tableC := HeldInTable.lt inv.2.2 heldC
    obtain ⟨countedB, othersB, wordB, schedB, sameB, bytesB⟩ := State.postMade_alone ((holds _).trans heldB) tableB
      (by rw [mem]; exact standingB) cleanB (by omega) (by omega)
    generalize o.postMade b = u at *
    have standing : u.mem.cancelled c.ticket = false := by rw [cancelled_of_made bytesB, mem]; exact standingC
    have both : ∃ z, u.held c.ticket = some z ∧ z.made + 1 < z.qty ∧ z.made + z.spoiled + 1 < z.launched ∧
        (b.ticket = c.ticket → z = { x with made := x.made + 1 }) ∧ (b.ticket ≠ c.ticket → z = y) := by
      by_cases one : b.ticket = c.ticket
      · refine ⟨{ x with made := x.made + 1 }, by rw [← one]; exact countedB, ?_, ?_, fun _ => rfl, fun k => absurd one k⟩
        · exact shortX
        · dsimp only; omega
      · exact ⟨y, (othersB _ (Ne.symm one)).trans ((holds _).trans heldC), by omega, by omega, fun k => absurd k one, fun _ => rfl⟩
    obtain ⟨z, heldZ, shortZ, flightZ, sameTicket, twoTickets⟩ := both
    obtain ⟨countedC, othersC, wordC, schedC, sameC, bytesC⟩ := State.postMade_alone heldZ tableC standing cleanC
      (by omega) (by omega)
    generalize u.postMade c = t at *
    have bytes : BytesBut [ticketAddr b.ticket .made, ticketAddr c.ticket .made] s t :=
      (((BytesBut.of_mem (w := []) mem).trans bytesB).trans bytesC).mono fun _ h => h
    have others : ∀ i, i ≠ b.ticket → i ≠ c.ticket → t.held i = s.held i := fun i first second =>
      ((othersC i second).trans (othersB i first)).trans (holds i)
    refine ⟨t, run, ((sameC .now (by decide)).trans (sameB .now (by decide))).trans later,
      ((sameC .trim (by decide)).trans (sameB .trim (by decide))).trans trimmed, fun one => ?_, fun apart => ⟨?_, ?_⟩, others,
      fun i hi w hw => ?_, by rw [schedC, schedB, sched], ((same.trans sameB).trans sameC).mono (by decide), bytes⟩
    · rw [one, countedC, sameTicket one]
    · rw [othersC _ apart, countedB]
    · rw [countedC, twoTickets apart]
    · by_cases second : i = c.ticket
      · subst second
        rw [countedC] at hw
        rw [wordC, ← Option.some.inj hw]
      · have first : i = b.ticket := by simpa [second] using hi
        subst first
        rw [othersC _ second, countedB] at hw
        rw [← Option.some.inj hw]
        refine Eq.trans (bytesC.word fun w hw => ?_) wordB
        rw [List.mem_singleton.mp hw]
        exact ticketAddr_other second .made .made
  · obtain ⟨ends, queue⟩ := State.cutComplete_ends (s := s.elapse dt) mode last
    have run := (exec_cut dt cutting expired).trans (congrArg _ ends)
    obtain ⟨trim, same', port', counts, -⟩ := (s.elapse dt).cutDone
    have made : ∀ b, s.trim.books = [b] → ∀ x, s.held b.ticket = .some x →
        (s.elapse dt).cutPosted.mem.ticket b.ticket .made = BitVec.ofNat 32 (x.made + 1) := fun b one x held => by
      rw [State.cutPosted_one (s := s.elapse dt) one]
      exact State.postMade_made (s := (s.elapse dt).cleared) held (HeldInTable.lt inv.2.2 held)
    have same : SameBut [.now, .sched, .trim, .port] s (s.elapse dt).cutPosted :=
      ((s.elapse_same dt).trans same').mono (by decide)
    have later : (s.elapse dt).cutPosted.now = s.now + dt := same' .now (by decide)
    generalize (s.elapse dt).cutPosted = q at *
    have line : q.line = s.line := same .line (by decide)
    have gathering : q.gathering = s.gathering := same .gathering (by decide)
    have carousel : q.carousel = s.carousel := same .carousel (by decide)
    have emptied := State.changeMode_emptied (s := q) (by rw [line, mode]; rfl)
    generalize q.changeMode .ready = t at *
    have changed := emptied.noticed 3
    refine ⟨t, run, (emptied.same .now (by decide)).trans later, ?_, ?_, ?_, changed.2 (by decide), ?_, fun b one x held => ?_,
      emptied.snapshot, by rw [emptied.cells, gathering], by rw [emptied.places, carousel],
      (same.trans emptied.same).mono (by decide)⟩
    · exact emptied.entered.between (by decide) same (by decide) (by rw [line]) (by rw [line]) (by rw [line]) (by rw [line])
        (by rw [port']; rfl) (SameBut.refl [] _) (by decide) rfl rfl
    · rw [emptied.line, line]
    · rw [changed.1, counts 3 (by decide) (by decide)]
      rfl
    · rw [show t.trim = q.trim from emptied.same .trim (by decide), trim, Trimmer.afterCut, outfeedFor_eq, if_pos queue]
      rfl
    · refine Eq.trans (emptied.bytes.word fun w hw => ?_) (made b one x held)
      have low := ticketAddr_low b.ticket .made
      have header : ∀ a ∈ modeWords, a + 4 ≤ 0x0200 := by decide
      have := header w hw
      omega

end Sys2Proof.Machine
end

section
/-!
The trimmer's faults, and the emergency stop and the guard over a trimmer without books (R35, R132, R136 to R140, R158,
R161, R162).
-/

namespace Sys2Proof.Machine

/-! ### A cause reported after a change that line and port do not see (R161, R162) -/

/-- What a cause reported makes of the card, seen from the state before the change that led to it. -/
structure CauseFound (c : Cause) (dt : Nat) (s t : State) : Prop where
  causes : t.line.causes = s.line.causes.put true c
  word : s.line.causes.has c = false → t.word Header.causes = t.line.causes.word
  halted : s.line.mode.halts = true →
    Entered .halted s t ∧ t.line.haltStart = some (s.now + dt) ∧ Noticed (fun c => if c = 3 ∨ c = 4 then 1 else 0) s t
  stays : s.line.mode.halts = false → t.line = { s.line with causes := t.line.causes } ∧ t.port = s.port
  cells : t.gathering.cells = s.gathering.cells
  places : t.carousel.places = s.carousel.places
  bytes : BytesBut (Header.causes :: modeWords) s t

theorem State.causeFound {ps : List Part} {s u : State} {dt : Nat} (c : Cause) (before : SameBut ps s u)
    (apart : ∀ p ∈ [Part.config, .miller, .cover, .line, .port, .gathering, .carousel], p ∉ ps) (mem : u.mem = s.mem)
    (later : u.now = s.now + dt) : CauseFound c dt s (u.raiseCause c) := by
  obtain ⟨causes, word, halted, stays, ⟨cells, places, -⟩, -, bytes⟩ := u.raiseCause_whole c
  generalize u.raiseCause c = v at *
  have line : u.line = s.line := before .line (apart _ (by decide))
  have port : u.port = s.port := before .port (apart _ (by decide))
  have gathering : u.gathering = s.gathering := before .gathering (apart _ (by decide))
  have carousel : u.carousel = s.carousel := before .carousel (apart _ (by decide))
  rw [line] at causes word halted stays
  refine ⟨causes, word, fun halts => ?_, fun calm => ?_, by rw [cells, gathering], by rw [places, carousel],
    ((BytesBut.of_mem (w := []) mem).trans bytes).mono fun _ h => h⟩
  · obtain ⟨entered, start, noticed⟩ := halted halts
    exact ⟨entered.between (by decide) before (fun p hp => apart p (by revert p; decide)) (by rw [line]) (by rw [line])
      (by rw [line]) (by rw [line]) (by rw [port]) (SameBut.refl [] _) (by decide) rfl rfl, by rw [start, later],
      noticed.of_counts (by rw [port])⟩
  · obtain ⟨quiet, lineSame⟩ := stays calm
    exact ⟨lineSame, (quiet .port (by decide)).trans port⟩

/-! ### Faults of the trimmer (R136, R137, R139) -/

theorem exec_limit {s : State} (dt : Nat) (positioning : s.trim.phase = .positioning)
    (expired : ∃ u ∈ s.trim.limitAt, u ≤ s.now + dt) :
    exec (.positioningLimitExpiry dt) s = .next ((s.elapse dt).trimFault .positioning) := by
  obtain ⟨u, hu, le⟩ := expired
  have due : due (s.elapse dt).now (s.elapse dt).trim.limitAt = true := by
    rw [State.elapse_trim, Option.mem_def.mp hu]
    exact decide_eq_true le
  refine congrArg Host.Outcome.next ?_
  rw [State.limitExpiry, if_pos ⟨positioning, due⟩]

theorem exec_stroke {s : State} (dt : Nat) (cutting : s.trim.phase = .cutting) (expired : ∃ u ∈ s.trim.cutAt, u ≤ s.now + dt) :
    exec (.cutTimerExpiry dt false) s = .next ((s.elapse dt).trimFault .stroke) := by
  obtain ⟨u, hu, le⟩ := expired
  have due : due (s.elapse dt).now (s.elapse dt).trim.cutAt = true := by
    rw [State.elapse_trim, Option.mem_def.mp hu]
    exact decide_eq_true le
  refine congrArg Host.Outcome.next ?_
  rw [State.cutExpiry, if_pos ⟨cutting, due⟩, if_neg (by decide)]

theorem exec_beamTop {s : State} (dt : Nat) (phase : s.trim.phase = .fault) (reason : s.trim.reason = .stroke) :
    exec (.cutCompleteInput dt) s = .next
      (if s.trim.books = [] then (((s.elapse dt).clearCause .trimmer).updTrim Trimmer.toIdle).testTake
       else ((s.elapse dt).clearCause .trimmer).cutComplete) := by
  refine congrArg Host.Outcome.next ?_
  rw [State.beamTop, if_pos ⟨phase, reason⟩]
  rfl

/-- Settles O44: a fault reports TRIMMER; the beam's top clears it and ends the fault as a cut, or as a return to IDLE. -/
theorem trimmerFaultsHalt : Obligations.TrimmerFaultsHalt := by
  refine ⟨fun s dt beam reason c found => ?_, fun s dt phase reason empty rests => ?_,
    fun s dt inv phase reason stays rests b one clean x held standing short flight => ?_⟩
  · have run : exec c s = .next ((s.elapse dt).trimFault reason) := by
      rcases found with ⟨rfl, phase, expired, rfl⟩ | ⟨rfl, rfl, phase, expired, rfl⟩
      · exact exec_limit dt phase expired
      · exact exec_stroke dt phase expired
    obtain ⟨u, hu⟩ : ∃ u, u = (s.elapse dt).updTrim fun t =>
      { t with phase := .fault, limitAt := none, cutAt := none, reason := reason } := ⟨_, rfl⟩
    have same : SameBut [.now, .trim] s u := hu ▸ (s.elapse_same dt).trans (SameBut.updTrim _ _)
    have trim : u.trim = { s.trim with phase := .fault, limitAt := none, cutAt := none, reason := reason } := by rw [hu]; rfl
    have mem : u.mem = s.mem := by rw [hu]; rfl
    have later : u.now = s.now + dt := by rw [hu]; rfl
    have raised := State.causeFound .trimmer same (by decide) mem later
    have kept := (u.raiseCause_whole .trimmer).same
    rw [State.trimFault, ← hu] at run
    generalize u.raiseCause .trimmer = t at *
    exact ⟨t, run, (kept .now (by decide)).trans later, (kept .trim (by decide)).trans trim, raised.causes, raised.word,
      raised.halted, raised.stays, raised.cells, raised.places, (same.trans kept).mono (by decide), raised.bytes⟩
  · have run := exec_beamTop dt phase reason
    have mended := (s.elapse dt).mended Trimmer.toIdle
    rw [if_pos empty, mended.noTake rests] at run
    refine ⟨_, run, mended.same .now (by decide), ?_, mended.line, mended.word,
      ((s.elapse_same dt).trans mended.same).mono (by decide), mended.bytes⟩
    rw [mended.trim, State.elapse_trim]
    by_cases vacant : s.trim.queue = [] <;> simp [Trimmer.toIdle, stopWhenIdle, empty, vacant]
  · have run := exec_beamTop dt phase reason
    have some : s.trim.books ≠ [] := by rw [one]; exact List.cons_ne_nil _ _
    obtain ⟨line, word, kept, bytes⟩ := (s.elapse dt).clearCause_whole .trimmer
    have same : SameBut [.now, .line] s ((s.elapse dt).clearCause .trimmer) := (s.elapse_same dt).trans kept
    rw [if_neg some] at run
    generalize (s.elapse dt).clearCause .trimmer = v at *
    have later : v.now = s.now + dt := kept .now (by decide)
    have trim : v.trim = s.trim := kept .trim (by decide)
    have sched : v.sched = s.sched := same .sched (by decide)
    have flightSame : v.inFlight = s.inFlight :=
      State.inFlight_congr (congrArg Gathering.cells (same .gathering (by decide)))
        (congrArg Carousel.places (same .carousel (by decide))) (congrArg id trim)
    have quiet : v.cutComplete = v.cutPosted := State.cutComplete_rests
      (fun mode => by
        rw [line] at mode
        have other := stays mode
        rw [flightSame, trim, one]
        simp only [State.inFlight, one, List.length_singleton] at other ⊢
        omega)
      (by rw [line, trim]; exact rests)
    rw [quiet, State.cutPosted_one (by rw [trim]; exact one)] at run
    have table := HeldInTable.lt inv.2.2 held
    have holds : ∀ i, v.cleared.held i = s.held i := State.held_of_sched (congrArg Schedule.held sched)
    have cancel : v.mem.cancelled b.ticket = false := by
      have low := ticketAddr_low b.ticket .request
      have read : v.mem.ticket b.ticket .request = s.mem.ticket b.ticket .request :=
        bytes.word fun w hw => .inr (by rw [List.mem_singleton.mp hw]; exact le_trans (by decide) low)
      rw [Memory.cancelled, read]
      exact standing
    have trimmed : v.cleared.trim = { s.trim.afterCut with outfeed := .some .stacker } := by
      have stacked : outfeedFor s.trim.books = .stacker := by
        rw [outfeedFor_eq, one]
        exact if_neg (by simp [clean])
      rw [State.cleared_trim, trim, Trimmer.afterCut, stacked]
    obtain ⟨counted, others, made, sched', same', bytes'⟩ :=
      State.postMade_alone ((holds _).trans held) table cancel clean short flight
    have cleared := v.cleared_same
    have memCleared : v.cleared.mem = v.mem := rfl
    generalize v.cleared = o at *
    generalize o.postMade b = t at *
    have lineAfter : t.line = v.line := (same' .line (by decide)).trans (cleared .line (by decide))
    refine ⟨t, run, ((same' .now (by decide)).trans (cleared .now (by decide))).trans later,
      ((same' .trim (by decide)).trans trimmed).trans rfl, counted, fun i hi => (others i hi).trans (holds i), made, ?_,
      by rw [lineAfter, line]; rfl, fun present => ?_, ((same.trans cleared).trans same').mono (by decide),
      ((bytes.trans (BytesBut.of_mem (w := []) memCleared)).trans bytes').mono fun _ h => h⟩
    · rw [sched', show o.sched = s.sched from (cleared .sched (by decide)).trans sched]
    · have low := ticketAddr_low b.ticket .made
      have read : t.word Header.causes = o.word Header.causes := bytes'.word fun w hw => .inl (by
        rw [List.mem_singleton.mp hw]
        exact le_trans (by decide) low)
      rw [read, lineAfter, ← word present, State.word, memCleared]
      rfl

/-! ### Emergency stop and guard over a trimmer without books (R132, R140, R158) -/

/-- The trimmer without a book to abort stays as it is (R140). -/
theorem State.abortTrimmer_rests {s : State} (empty : s.trim.books = []) (phase : s.trim.phase = .idle ∨ s.trim.phase = .fault) :
    s.abortTrimmer = s := by
  rcases phase with idle | fault
  · rw [State.abortTrimmer, idle]
  · rw [State.abortTrimmer, fault]
    exact if_pos empty

theorem State.guardTrimmer_rests {s : State} (already : Bool) (empty : s.trim.books = [])
    (phase : s.trim.phase = .idle ∨ s.trim.phase = .fault) (stays : s.line.mode = .emptying → s.inFlight ≠ 0) :
    s.guardTrimmer already = s := by
  rw [State.guardTrimmer, State.abortTrimmer_rests empty phase, State.emptyingCheck_stays stays, ite_self]

/-- Where the trimmer has nothing to abort, ESTOP and GUARD reach Line control alone, in either order. -/
theorem State.guardSet_rests {s : State} (c : Cause) (abortFirst : Bool) (empty : s.trim.books = [])
    (phase : s.trim.phase = .idle ∨ s.trim.phase = .fault) (stays : s.line.mode = .emptying → s.inFlight ≠ 0) :
    s.guardSet c abortFirst = s.raiseCause c := by
  obtain ⟨-, -, halted, calm, ⟨cells, places, -⟩, same, -⟩ := s.raiseCause_whole c
  have trim : (s.raiseCause c).trim = s.trim := same .trim (by decide)
  have flight : (s.raiseCause c).inFlight = s.inFlight := State.inFlight_congr cells places trim
  have after : (s.raiseCause c).line.mode = .emptying → (s.raiseCause c).inFlight ≠ 0 := fun mode => by
    cases halts : s.line.mode.halts with
    | true =>
      rw [((halted halts).1).1] at mode
      cases mode
    | false =>
      rw [(calm halts).2] at mode
      rw [flight]
      exact stays mode
  unfold State.guardSet
  cases abortFirst
  · exact State.guardTrimmer_rests _ (by rw [trim]; exact empty) (by rw [trim]; exact phase) after
  · exact congrArg (State.raiseCause c) (State.guardTrimmer_rests _ empty phase stays)

/-- The pins with the emergency stop or the guard at a level. -/
def Pins.guarded (stop active : Bool) (p : Pins) : Pins :=
  if stop then { p with estop := active } else { p with guardOpen := active }

/-- The cause of the emergency stop or of the guard. -/
def guardCause (stop : Bool) : Cause := if stop then .estop else .guardOpen

theorem Causes.put_guardCause (stop active : Bool) (c : Causes) :
    c.put active (guardCause stop) = if stop then { c with estop := active } else { c with guardOpen := active } := by
  cases stop <;> rfl

theorem Causes.has_guardCause (stop : Bool) (c : Causes) : c.has (guardCause stop) = if stop then c.estop else c.guardOpen := by
  cases stop <;> rfl

/-- A level of the emergency stop or of the guard that comes. -/
theorem exec_guardSet {s : State} {stop abortFirst : Bool} {c : Instr} (dt : Nat)
    (off : (if stop then s.pins.estop else s.pins.guardOpen) = false)
    (hc : c = if stop then .emergencyStopInput dt true abortFirst else .guardInput dt true abortFirst) :
    exec c s = .next
      ((((s.elapse dt).updPins (Pins.guarded stop true)).guardSet (guardCause stop) abortFirst).updLine fun l =>
        if stop then l.stopInch else l) := by
  subst hc
  cases stop
  · refine congrArg Host.Outcome.next ?_
    rw [State.guardLevel, if_neg (by rw [State.elapse_pins]; simpa using off), if_pos rfl]
    rfl
  · refine congrArg Host.Outcome.next ?_
    rw [State.estopLevel, if_neg (by rw [State.elapse_pins]; simpa using off), if_pos rfl]
    rfl

/-- A level of the emergency stop or of the guard that goes. -/
theorem exec_guardCleared {s : State} {stop abortFirst : Bool} {c : Instr} (dt : Nat)
    (on : (if stop then s.pins.estop else s.pins.guardOpen) = true)
    (hc : c = if stop then .emergencyStopInput dt false abortFirst else .guardInput dt false abortFirst) :
    exec c s = .next (((s.elapse dt).updPins (Pins.guarded stop false)).clearCause (guardCause stop)).testTake := by
  subst hc
  cases stop
  · refine congrArg Host.Outcome.next ?_
    rw [State.guardLevel, if_neg (by rw [State.elapse_pins]; simpa using on), if_neg (by decide)]
    rfl
  · refine congrArg Host.Outcome.next ?_
    rw [State.estopLevel, if_neg (by rw [State.elapse_pins]; simpa using on), if_neg (by decide)]
    rfl

theorem SameBut.updPins (f : Pins → Pins) (s : State) : SameBut [.pins] s (s.updPins f) := fun p hp => by
  cases p <;> simp [Part.same] at hp ⊢

theorem SameBut.updLine (f : LineControl → LineControl) (s : State) : SameBut [.line] s (s.updLine f) := fun p hp => by
  cases p <;> simp [Part.same] at hp ⊢

/-- Settles O46: a level that comes is a cause reported, a level that goes a cause cleared. -/
theorem guardsHaltAndRelease : Obligations.GuardsHaltAndRelease := by
  intro s dt stop abortFirst
  refine ⟨fun off empty phase stays c hc => ?_, fun on quiet c hc => ?_⟩
  · have run := exec_guardSet dt off hc
    obtain ⟨u, hu⟩ : ∃ u, u = (s.elapse dt).updPins (Pins.guarded stop true) := ⟨_, rfl⟩
    have same : SameBut [.now, .pins] s u := hu ▸ (s.elapse_same dt).trans (SameBut.updPins _ _)
    have pins : u.pins = s.pins.guarded stop true := by rw [hu]; rfl
    have mem : u.mem = s.mem := by rw [hu]; rfl
    have later : u.now = s.now + dt := by rw [hu]; rfl
    have trim : u.trim = s.trim := same .trim (by decide)
    have line : u.line = s.line := same .line (by decide)
    have flight : u.inFlight = s.inFlight := State.inFlight_congr (congrArg Gathering.cells (same .gathering (by decide)))
      (congrArg Carousel.places (same .carousel (by decide))) trim
    rw [← hu, State.guardSet_rests _ _ (by rw [trim]; exact empty) (by rw [trim]; exact phase)
      (by rw [line, flight]; exact stays)] at run
    obtain ⟨causes, word, halted, calm, cells, places, bytes⟩ := State.causeFound (guardCause stop) same (by decide) mem later
    have kept := (u.raiseCause_whole (guardCause stop)).same
    generalize u.raiseCause (guardCause stop) = v at *
    rw [Causes.put_guardCause] at causes
    rw [Causes.has_guardCause] at word
    obtain ⟨t, ht⟩ : ∃ t, t = v.updLine fun l => if stop then l.stopInch else l := ⟨_, rfl⟩
    have after : SameBut [.line] v t := ht ▸ SameBut.updLine _ v
    have memAfter : t.mem = v.mem := by rw [ht]; rfl
    have lineAfter : t.line =
        { v.line with drive := if stop = true ∧ v.line.drive = .inching then .stopped else v.line.drive } := by
      rw [ht, State.updLine_line, LineControl.stopInch]
      cases stop
      · simp
      · by_cases inch : v.line.drive = .inching <;> simp [inch]
    have word' : t.word Header.causes = v.word Header.causes := by rw [State.word, memAfter]; rfl
    have portAfter : t.port = v.port := after .port (by decide)
    rw [← ht] at run
    refine ⟨t, run, ((after .now (by decide)).trans (kept .now (by decide))).trans later, ?_, by rw [lineAfter]; exact causes,
      fun fresh => ?_, fun halts => ?_, fun rests => ⟨portAfter.trans (calm rests).2, ?_⟩,
      (congrArg Gathering.cells (after .gathering (by decide))).trans cells,
      (congrArg Carousel.places (after .carousel (by decide))).trans places,
      ((same.trans kept).trans after).mono (by decide), (bytes.trans (BytesBut.of_mem (w := []) memAfter)).mono (by simp)⟩
    · exact ((after .pins (by decide)).trans (kept .pins (by decide))).trans pins
    · rw [word', word fresh, lineAfter]
    · obtain ⟨entered, start, noticed⟩ := halted halts
      have stopped : v.line.drive = .stopped := entered.2.2.1
      have still : t.line = v.line := by rw [lineAfter, stopped]; simp [← stopped]
      have nothing : SameBut [] v t := after.sharpen fun p hp _ => by
        rw [List.mem_singleton.mp hp]
        exact still
      exact ⟨entered.between (by decide) (SameBut.refl [] s) (by decide) rfl rfl rfl rfl rfl nothing (by decide)
        (by rw [State.word, memAfter]; rfl) (by rw [portAfter]), by rw [still]; exact start,
        fun c => ⟨by rw [portAfter]; exact (noticed c).1, fun some => by
          rw [portAfter, State.word, memAfter]
          exact (noticed c).2 some⟩⟩
    · obtain ⟨lineSame, -⟩ := calm rests
      rw [lineAfter, lineSame]
  · have run := exec_guardCleared dt on hc
    obtain ⟨u, hu⟩ : ∃ u, u = (s.elapse dt).updPins (Pins.guarded stop false) := ⟨_, rfl⟩
    have same : SameBut [.now, .pins] s u := hu ▸ (s.elapse_same dt).trans (SameBut.updPins _ _)
    have pins : u.pins = s.pins.guarded stop false := by rw [hu]; rfl
    have mem : u.mem = s.mem := by rw [hu]; rfl
    have later : u.now = s.now + dt := by rw [hu]; rfl
    have lineBefore : u.line = s.line := same .line (by decide)
    obtain ⟨line, word, kept, bytes⟩ := u.clearCause_whole (guardCause stop)
    rw [← hu] at run
    generalize u.clearCause (guardCause stop) = t at *
    have trim : t.trim = s.trim := (kept .trim (by decide)).trans (same .trim (by decide))
    rw [lineBefore, Causes.put_guardCause] at line
    rw [lineBefore, Causes.has_guardCause] at word
    have rests : t.testTake = t := State.testTake_of_noTake t (by
      rw [trim]
      refine quiet.imp (fun busy => by rw [trim]; exact busy) (.imp (fun guards => ?_) id)
      rw [line]
      exact guards)
    rw [rests] at run
    exact ⟨t, run, (kept .now (by decide)).trans later, (kept .pins (by decide)).trans pins, line, word,
      (same.trans kept).mono (by decide), ((BytesBut.of_mem (w := []) mem).trans bytes).mono fun _ h => h⟩

end Sys2Proof.Machine
end

section
/-!
The takes from the cooling queue (R82, R128, R132 to R134, R138, R139, R142).
-/

namespace Sys2Proof.Machine

/-! ### The take after each event that makes it possible -/

/-- An idle trimmer's take, in the words of R132 to R134. -/
theorem State.testTake_taken {s : State} {e : QueueEntry} {rest : List QueueEntry} {g : GaugeFormat}
    (queue : s.trim.queue = e :: rest) (values : e.book.gauged = some g) (idle : s.trim.phase = .idle)
    (free : s.line.causes.guarded = false) (ripe : e.eligible = true) :
    Taken s.now s.config.settings e rest g s.trim s.testTake.trim ∧ SameBut [.trim] s s.testTake ∧
      s.testTake.mem = s.mem := by
  rw [State.testTake_takes queue values idle free ripe]
  exact ⟨Trimmer.takeFrom_effect _ _ _ _ _ _ queue values, SameBut.updTrim _ _, rfl⟩

/-- A trimmer that has taken holds a book. -/
theorem Taken.holds {now : Nat} {c : Settings} {e : QueueEntry} {rest : List QueueEntry} {g : GaugeFormat} {u v : Trimmer}
    (h : Taken now c e rest g u v) : v.books ≠ [] := by
  rw [(h _ rfl).1]
  exact List.cons_ne_nil _ _

theorem State.inFlight_of_books {s : State} (h : s.trim.books ≠ []) : s.inFlight ≠ 0 := by
  have := List.length_pos_iff.mpr h
  unfold State.inFlight
  omega

/-- A take sees only the head, and what a take keeps, of the trimmer that an append has changed. -/
theorem Taken.of_appended {now : Nat} {c : Settings} {e : QueueEntry} {rest : List QueueEntry} {g : GaugeFormat} {u w v : Trimmer}
    (h : Taken now c e rest g w v) (same : w = { u with queue := w.queue, infeed := w.infeed }) : Taken now c e rest g u v :=
  h.congr (by rw [same]) (by rw [same]) (by rw [same]) (by rw [same])

/-- A cut over an eligible head takes it. -/
theorem State.cutComplete_takes {s t : State} {e : QueueEntry} {rest : List QueueEntry} {g : GaugeFormat}
    (queue : s.trim.queue = e :: rest) (values : e.book.gauged = some g) (free : s.line.causes.guarded = false)
    (ripe : e.eligible = true) (ht : t = s.cutComplete) :
    Taken s.now s.config.settings e rest g s.trim.afterCut t.trim ∧ t.mem = s.cutPosted.mem ∧
      SameBut [.sched, .trim, .port] s t := by
  obtain ⟨trim, same, -⟩ := s.cutDone
  rw [State.cutComplete_parts] at ht
  generalize s.cutPosted = u at *
  have now : u.now = s.now := same .now (by decide)
  have config : u.config = s.config := same .config (by decide)
  have line : u.line = s.line := same .line (by decide)
  obtain ⟨taken, kept, mem⟩ := State.testTake_taken (s := u) (by rw [trim]; exact queue) values (by rw [trim]; rfl)
    (by rw [line]; exact free) ripe
  rw [now, config, trim] at taken
  rw [State.emptyingCheck_stays fun _ => State.inFlight_of_books taken.holds] at ht
  rw [ht]
  exact ⟨taken, mem, (same.trans kept).mono (by decide)⟩

/-! ### The set-time timers (R128) -/

theorem QueueEntry.expiresAt_of {e : QueueEntry} {g : GaugeFormat} (values : e.book.gauged = some g) :
    e.expiresAt = e.arrival + g.setTime * 1000 := by
  rw [QueueEntry.expiresAt, Book.setTime, values]

/-- The queue with the entry at a place made eligible. -/
def Trimmer.ripened (p : Nat) (e : QueueEntry) (t : Trimmer) : Trimmer :=
  { t with queue := t.queue.set p { e with eligible := true } }

theorem State.setTimeExpiry_due {s : State} {p : Fin 12} {e : QueueEntry} {g : GaugeFormat}
    (here : s.trim.queue[p.val]? = some e) (running : e.eligible = false) (values : e.book.gauged = some g)
    (expired : e.arrival + g.setTime * 1000 ≤ s.now) : s.setTimeExpiry p = (s.updTrim (Trimmer.ripened p.val e)).testTake := by
  rw [State.setTimeExpiry, here]
  exact if_pos ⟨running, by rw [QueueEntry.expiresAt_of values]; exact expired⟩

/-- Settles O42: each event leads to an idle trimmer over the queue, and the test for a take. -/
theorem takeFromTheQueue : Obligations.TakeFromTheQueue := by
  refine ⟨fun s dt e rest queue g values => ⟨fun waits idle estop guard expired => ?_, fun ripe estop guard inv c found => ?_,
    fun ripe estop guard fault empty c knives found => ?_, fun ripe idle stop abortFirst on other c hc => ?_⟩,
    fun s dt io only engaged queue idle estop guard b clamp good g values instant => ?_,
    fun s dt p => ⟨fun e here running g values expired rests => ?_, fun none => ?_⟩⟩
  · have free : s.line.causes.guarded = false := guarded_eq_false.mpr ⟨estop, guard⟩
    have head : s.trim.queue[(0 : Fin 12).val]? = some e := by rw [queue]; rfl
    have run : exec (.setTimeExpiry dt 0) s = .next ((s.elapse dt).updTrim (Trimmer.ripened 0 e)).testTake :=
      congrArg Host.Outcome.next (State.setTimeExpiry_due (s := s.elapse dt) (p := 0) head waits values expired)
    obtain ⟨u, hu⟩ : ∃ u, u = (s.elapse dt).updTrim (Trimmer.ripened 0 e) := ⟨_, rfl⟩
    have same : SameBut [.now, .trim] s u := hu ▸ (s.elapse_same dt).trans (SameBut.updTrim _ _)
    have mem : u.mem = s.mem := by rw [hu]; rfl
    have later : u.now = s.now + dt := by rw [hu]; rfl
    have trim : u.trim = { s.trim with queue := { e with eligible := true } :: rest } := by
      rw [hu, State.updTrim_trim, State.elapse_trim, Trimmer.ripened, queue]
      rfl
    have config : u.config = s.config := same .config (by decide)
    have line : u.line = s.line := same .line (by decide)
    obtain ⟨taken, kept, memAfter⟩ := State.testTake_taken (s := u) (e := { e with eligible := true }) (by rw [trim])
      values (by rw [trim]; exact idle) (by rw [line]; exact free) rfl
    rw [later, config] at taken
    rw [← hu] at run
    refine ⟨_, run, (kept .now (by decide)).trans later, ?_, (same.trans kept).mono (by decide),
      BytesBut.of_mem (memAfter.trans mem)⟩
    have back := taken.of_appended (u := s.trim) (by rw [trim])
    exact back
  · have free : s.line.causes.guarded = false := guarded_eq_false.mpr ⟨estop, guard⟩
    have led : ∃ v, exec c s = .next v.cutComplete ∧ v.trim = s.trim ∧ v.line.causes =
          (if s.trim.phase = .fault then { s.line.causes with trimmer := false } else s.line.causes) ∧
        v.line = { s.line with causes := v.line.causes } ∧ SameBut [.now, .line] s v ∧ v.now = s.now + dt := by
      rcases found with ⟨rfl, cutting, expired⟩ | ⟨rfl, fault, reason, some⟩
      · exact ⟨_, exec_cut dt cutting expired, rfl, by rw [cutting, if_neg (by decide)]; rfl, rfl,
          (s.elapse_same dt).mono (by decide), rfl⟩
      · have run := exec_beamTop dt fault reason
        rw [if_neg some] at run
        obtain ⟨line, -, kept, -⟩ := (s.elapse dt).clearCause_whole .trimmer
        exact ⟨_, run, kept .trim (by decide), by rw [line, if_pos fault]; rfl, by rw [line]; rfl,
          (s.elapse_same dt).trans kept, kept .now (by decide)⟩
    obtain ⟨v, run, trim, causes, lineSame, same, later⟩ := led
    have config : v.config = s.config := same .config (by decide)
    have sched : v.sched = s.sched := same .sched (by decide)
    have freeNow : v.line.causes.guarded = false := by
      rw [causes]
      split
      · exact free
      · exact free
    obtain ⟨taken, mem, kept⟩ := State.cutComplete_takes (by rw [trim]; exact queue) values freeNow ripe rfl
    rw [later, config, trim] at taken
    have line : v.cutComplete.line = v.line := kept .line (by decide)
    refine ⟨_, run, (kept .now (by decide)).trans later, taken.congr rfl rfl rfl ?_, fun b one x held => ?_,
      by rw [line]; exact causes, by rw [line]; exact lineSame, (same.trans kept).mono (by decide)⟩
    · exact congrArg some (outfeedFor_eq s.trim.books).symm
    · rw [mem, State.cutPosted_one (by rw [trim]; exact one)]
      exact State.postMade_made (s := v.cleared) ((State.held_of_sched (congrArg Schedule.held sched) _).trans held)
        (HeldInTable.lt inv.2.2 held)
  · have free : s.line.causes.guarded = false := guarded_eq_false.mpr ⟨estop, guard⟩
    have led : ∃ v, exec c s = .next ((v.clearCause .trimmer).updTrim Trimmer.toIdle).testTake ∧
        v.trim = { s.trim with knives } ∧ SameBut [.now, .trim] s v ∧ v.mem = s.mem ∧ v.now = s.now + dt := by
      rcases found with ⟨rfl, reason, same⟩ | ⟨rfl, reason, aims, stands, last, same⟩
      · have run := exec_beamTop dt fault reason
        rw [if_pos empty] at run
        exact ⟨_, run, by rw [same]; rfl, (s.elapse_same dt).mono (by decide), rfl, rfl⟩
      · obtain ⟨k, target⟩ := Option.ne_none_iff_exists'.mp aims
        have moving : s.trim.knives.target = some k := stands.trans target
        have report := Drive.report_of_target moving
        rw [target] at last same
        rw [if_pos last] at report
        have there : ((s.elapse dt).updTrim Trimmer.reported).trim.knives.standsAt k = true :=
          (Drive.standsAt_report moving).trans (by rw [decide_eq_true last, decide_eq_true rfl]; rfl)
        have mends := State.afterReport_mended (s := (s.elapse dt).updTrim Trimmer.reported) target there fault reason
        rw [if_pos (show ((s.elapse dt).updTrim Trimmer.reported).trim.books = [] from empty)] at mends
        refine ⟨_, congrArg Host.Outcome.next ((State.knifeReport_moving (s := s.elapse dt) moving).trans mends), ?_,
          (s.elapse_same dt).trans (SameBut.updTrim _ _), rfl, rfl⟩
        rw [State.updTrim_trim, State.elapse_trim, Trimmer.reported, report, same]
    obtain ⟨v, run, trim, same, mem, later⟩ := led
    have line : v.line = s.line := same .line (by decide)
    have config : v.config = s.config := same .config (by decide)
    have mended := v.mended Trimmer.toIdle
    obtain ⟨taken, lineKept, kept, memKept⟩ := mended.takes (by rw [trim]; exact queue) values (by rw [line]; exact free) ripe
    rw [later, config, trim] at taken
    have lineAfter := mended.line
    have word := mended.word
    rw [line] at lineAfter word
    refine ⟨_, run, ((kept .now (by decide)).trans (mended.same .now (by decide))).trans later, taken.congr rfl rfl rfl rfl,
      by rw [lineKept, lineAfter], fun present => ?_, ((same.trans mended.same).trans kept).mono (by decide),
      (((BytesBut.of_mem (w := []) mem).trans mended.bytes).trans (BytesBut.of_mem (w := []) memKept)).mono (by simp)⟩
    rw [State.word, memKept, lineKept]
    exact word present
  · have run := exec_guardCleared dt on hc
    obtain ⟨u, hu⟩ : ∃ u, u = (s.elapse dt).updPins (Pins.guarded stop false) := ⟨_, rfl⟩
    have same : SameBut [.now, .pins] s u := hu ▸ (s.elapse_same dt).trans (SameBut.updPins _ _)
    have pins : u.pins = s.pins.guarded stop false := by rw [hu]; rfl
    have mem : u.mem = s.mem := by rw [hu]; rfl
    have later : u.now = s.now + dt := by rw [hu]; rfl
    have lineBefore : u.line = s.line := same .line (by decide)
    obtain ⟨line, -, kept, bytes⟩ := u.clearCause_whole (guardCause stop)
    rw [← hu] at run
    generalize u.clearCause (guardCause stop) = v at *
    rw [lineBefore, Causes.put_guardCause] at line
    have trim : v.trim = s.trim := (kept .trim (by decide)).trans (same .trim (by decide))
    have config : v.config = s.config := (kept .config (by decide)).trans (same .config (by decide))
    have now : v.now = s.now + dt := (kept .now (by decide)).trans later
    have free : v.line.causes.guarded = false := by
      rw [line, guarded_eq_false]
      cases stop
      · exact ⟨other, rfl⟩
      · exact ⟨rfl, other⟩
    obtain ⟨taken, keptAfter, memAfter⟩ := State.testTake_taken (by rw [trim]; exact queue) values (by rw [trim]; exact idle) free
      ripe
    rw [now, config, trim] at taken
    exact ⟨_, run, (keptAfter .now (by decide)).trans now, taken, (keptAfter .line (by decide)).trans line,
      ((keptAfter .pins (by decide)).trans (kept .pins (by decide))).trans pins,
      ((same.trans kept).trans keptAfter).mono (by decide),
      (((BytesBut.of_mem (w := []) mem).trans bytes).trans (BytesBut.of_mem (w := []) memAfter)).mono (by simp)⟩
  · have run := exec_forward_served only engaged dt io
    have before := State.ending_same dt .deliver s
    have mem : ((s.counting dt).ending .deliver).mem = s.mem := rfl
    have now : ((s.counting dt).ending .deliver).now = s.now + dt := rfl
    generalize (s.counting dt).ending .deliver = v at *
    change exec (.forwardEncoderCount dt io) s =
      .next ((v.deliverEnd.updStations (Stations.drop .deliver)).emptyingCheck) at run
    have carousel : v.carousel = s.carousel := before .carousel (by decide)
    have clamps : ∀ q, v.clampAt q = s.clampAt q := fun q => by rw [State.clampAt, State.clampAt, carousel]
    have trim : v.trim = s.trim := before .trim (by decide)
    obtain ⟨own, others, -, drop, same, memOpen⟩ := v.openClamp_effect .toConveyor
    rw [State.deliverEnd_good ((clamps 17).trans clamp) good (by rw [trim, queue]; decide)] at run
    generalize v.openClamp .toConveyor = o at *
    have trimOpen : o.trim = s.trim := (same .trim (by decide)).trans trim
    have line : o.line = s.line := (same .line (by decide)).trans (before .line (by decide))
    have config : o.config = s.config := (same .config (by decide)).trans (before .config (by decide))
    have later : o.now = s.now + dt := (same .now (by decide)).trans now
    have ripe : decide (b.setTime = 0) = true := by
      rw [Book.setTime, values]
      exact decide_eq_true instant
    have appended : (o.updTrim (Trimmer.append v.now b)).trim =
        { s.trim with queue := [⟨b, s.now + dt, true⟩], infeed := .closed } := by
      rw [State.updTrim_trim, trimOpen, Trimmer.append, queue, ripe, now, if_pos rfl]
      rfl
    obtain ⟨taken, kept, memAfter⟩ := State.testTake_taken (s := o.updTrim (Trimmer.append v.now b)) (by rw [appended])
      values (by rw [appended]; exact idle) (by rw [State.updTrim_line, line]; exact guarded_eq_false.mpr ⟨estop, guard⟩) rfl
    rw [State.updTrim_now, State.updTrim_config, later, config] at taken
    have memAppend : (o.updTrim (Trimmer.append v.now b)).mem = o.mem := rfl
    have all := (same.trans (SameBut.updTrim (Trimmer.append v.now b) o)).trans kept
    generalize (o.updTrim (Trimmer.append v.now b)).testTake = t at *
    rw [State.emptyingCheck_stays fun _ => State.inFlight_of_books (s := t.updStations (Stations.drop .deliver))
      taken.holds] at run
    have places : t.carousel = o.carousel :=
      (kept .carousel (by decide)).trans (SameBut.updTrim (Trimmer.append v.now b) o .carousel (by decide))
    have content : ∀ q, (t.updStations (Stations.drop .deliver)).clampAt q = o.clampAt q := fun q => by
      rw [State.clampAt, State.clampAt, State.updStations_carousel, places]
    exact ⟨_, run, (all .now (by decide)).trans now, taken.of_appended (by rw [appended]), (content 17).trans own,
      fun q hq => ((content q).trans (others q hq)).trans (clamps q), (congrArg Carousel.lastDrop places).trans drop,
      ((before.trans all).trans (SameBut.updStations _ t)).mono (by decide),
      BytesBut.of_mem (memAfter.trans (memAppend.trans (memOpen.trans mem)))⟩
  · have run : exec (.setTimeExpiry dt p) s = .next ((s.elapse dt).updTrim (Trimmer.ripened p.val e)).testTake :=
      congrArg Host.Outcome.next (State.setTimeExpiry_due (s := s.elapse dt) here running values expired)
    rw [State.testTake_of_noTake _ rests] at run
    exact ⟨_, run, rfl, rfl, (s.elapse_same dt).trans (SameBut.updTrim _ _), BytesBut.of_mem rfl⟩
  · refine congrArg Host.Outcome.next ?_
    change (s.elapse dt).setTimeExpiry p = s.elapse dt
    unfold State.setTimeExpiry
    split
    · next e here =>
      refine if_neg fun ⟨running, expired⟩ => ?_
      rcases none e here with ripe | ⟨g, values, early⟩
      · rw [ripe] at running
        cases running
      · rw [QueueEntry.expiresAt_of values] at expired
        exact absurd expired (Nat.not_le.mpr early)
    · rfl

end Sys2Proof.Machine
end

section
/-!
The abort of the trimmer by the emergency stop or the guard (R140, R145, R149, R161, R162).
-/

namespace Sys2Proof.Machine

/-! ### Spoiled postings one behind the other (R148) -/

/-- A posting writes above the tickets nothing but its slot of the log. -/
theorem State.postSpoiled_words {b : Book} {m : SpoilMark} {p : PostPoint} {s : State} (inv : HeldInTable s) :
    ∃ ws, (∀ w ∈ ws, w + 4 ≤ Header.causes ∨ Header.causes + 4 ≤ w) ∧
      (∀ w ∈ ws, w + 4 ≤ 0x8800 ∨ w ∈ logWordsAt s.port.counts[(2 : Fin 8)]) ∧ BytesBut ws s (s.postSpoiled b m p) := by
  have log := logWordsAt_bounds s.port.counts[(2 : Fin 8)]
  have header : ∀ w ∈ [Header.count 1, Header.count 2, Header.cursor, Header.remakeLength],
      (w + 4 ≤ Header.causes ∨ Header.causes + 4 ≤ w) ∧ w + 4 ≤ 0x8800 := by decide
  by_cases table : b.ticket < 256
  · refine ⟨_, fun w hw => ?_, fun w hw => ?_, (State.postSpoiled_effect inv rfl).2.2.2.2.2⟩
    · rcases List.mem_append.mp hw with hw | hw
      · rcases List.mem_append.mp hw with hw | hw
        · exact (header w hw).1
        · exact .inr (le_trans (by decide) (log w hw).1)
      · exact .inr (le_trans (by decide) (ticketWordsAt_bounds table w hw).1)
    · rcases List.mem_append.mp hw with hw | hw
      · rcases List.mem_append.mp hw with hw | hw
        · exact .inl (header w hw).2
        · exact .inr hw
      · exact .inl (ticketWordsAt_bounds table w hw).2
  · obtain ⟨consulted, -, mem, -, same⟩ := s.consult_effect b.ticket
    have absent : (s.consult b.ticket).held b.ticket = none := by
      cases held : s.held b.ticket with
      | none => rw [consulted, held]; rfl
      | some x => exact absurd (inv.lt held) table
    have port : (s.consult b.ticket).port = s.port := same .port (by decide)
    have run : s.postSpoiled b m p = (s.consult b.ticket).logEntry b (spoilEntry b m .short p) := by
      rw [State.postSpoiled_eq, absent]
    have bytes := ((s.consult b.ticket).logEntry_effect b (spoilEntry b m .short p)).2.2
    rw [port] at bytes
    refine ⟨logWordsAt s.port.counts[(2 : Fin 8)] ++ [Header.count 2], fun w hw => ?_, fun w hw => ?_, ?_⟩
    · rcases List.mem_append.mp hw with hw | hw
      · exact .inr (le_trans (by decide) (log w hw).1)
      · rw [List.mem_singleton.mp hw]
        decide
    · rcases List.mem_append.mp hw with hw | hw
      · exact .inr hw
      · rw [List.mem_singleton.mp hw]
        exact .inl (by decide)
    · rw [run]
      exact ((BytesBut.of_mem (w := []) mem).trans bytes).mono fun _ h => h

/-- Spoiled books posted one by one at the trimmer. -/
def State.postedSpoiled (p : TrimPhase) (s : State) (l : List Book) : State :=
  l.foldl (fun u b => u.postBook (b.aborted p) .trimmer) s

/-- The mark of an abort (R140, R145). -/
def abortMark (p : TrimPhase) : SpoilMark := ⟨.trimAbort, carouselPoint 17, BitVec.ofNat 32 p.number, false⟩

theorem Book.aborted_of_good {b : Book} (good : b.spoil = none) (p : TrimPhase) :
    b.aborted p = { b with spoil := some (abortMark p) } := Book.spoilWith_good good _ _ _ _

theorem State.postBook_aborted {b : Book} (good : b.spoil = none) (p : TrimPhase) (s : State) :
    s.postBook (b.aborted p) .trimmer = s.postSpoiled (b.aborted p) (abortMark p) .trimmer := by
  rw [Book.aborted_of_good good]
  rfl

/-- What the postings of an abort make of the card. -/
structure AbortPosted (p : TrimPhase) (l : List Book) (s t : State) : Prop where
  count : t.port.counts[(2 : Fin 8)] = s.port.counts[(2 : Fin 8)] + BitVec.ofNat 32 l.length
  logged : ∀ i b, l[i]? = some b → ∃ outcome, Logged (s.port.counts[(2 : Fin 8)] + BitVec.ofNat 32 i) (b.aborted p)
    (spoilEntry (b.aborted p) (abortMark p) outcome .trimmer) t
  same : SameBut [.sched, .port] s t
  word : t.word Header.causes = s.word Header.causes
  bytes : ∃ ws, (∀ w ∈ ws, w + 4 ≤ 0x8800 ∨ ∃ i < l.length, w ∈ logWordsAt (s.port.counts[(2 : Fin 8)] + BitVec.ofNat 32 i)) ∧
    BytesBut ws s t

theorem State.abortPosted (p : TrimPhase) (l : List Book) (few : l.length ≤ 128) (good : ∀ b ∈ l, b.spoil = none) (s : State)
    (inv : MemoryInv s) : AbortPosted p l s (s.postedSpoiled p l) := by
  induction l generalizing s with
  | nil =>
    have none : s.postedSpoiled p [] = s := rfl
    rw [none]
    refine ⟨(BitVec.add_zero _).symm, fun i b hb => ?_, SameBut.refl _ s, rfl, [], fun w hw => (by cases hw), BytesBut.refl _ s⟩
    rw [List.getElem?_nil] at hb
    cases hb
  | cons b l ih =>
    have short : l.length < 128 := few
    have first := good b List.mem_cons_self
    have run : s.postedSpoiled p (b :: l) = (s.postSpoiled (b.aborted p) (abortMark p) .trimmer).postedSpoiled p l := by
      rw [← State.postBook_aborted first]
      exact List.foldl_cons ..
    have invAfter : MemoryInv (s.postSpoiled (b.aborted p) (abortMark p) .trimmer) := by
      rw [← State.postBook_aborted first]
      exact Reaches.keeps (fun h c => MemoryInv.change h c) inv (State.postBook_reaches _ _ s)
    obtain ⟨⟨outcome, logged⟩, count, -, -, same, -⟩ :=
      State.postSpoiled_effect (b := b.aborted p) (m := abortMark p) (p := .trimmer) inv.2.2 rfl
    obtain ⟨ws, header, words, bytes⟩ :=
      State.postSpoiled_words (b := b.aborted p) (m := abortMark p) (p := .trimmer) inv.2.2
    rw [run]
    generalize s.postSpoiled (b.aborted p) (abortMark p) .trimmer = v at *
    obtain ⟨counts, entries, same', word, xs, words', bytes'⟩ :=
      ih (le_of_lt short) (fun c hc => good c (List.mem_cons_of_mem b hc)) v invAfter
    rw [count] at counts entries words'
    simp only [count_succ] at counts entries words'
    refine ⟨counts, fun i c hc => ?_, (same.trans same').mono (by decide), word.trans (bytes.word fun w hw => (header w hw).symm),
      ws ++ xs, fun w hw => ?_, bytes.trans bytes'⟩
    · cases i with
      | zero =>
        rw [List.getElem?_cons_zero, Option.some.injEq] at hc
        subst hc
        refine ⟨outcome, ?_⟩
        rw [show s.port.counts[(2 : Fin 8)] + BitVec.ofNat 32 0 = s.port.counts[(2 : Fin 8)] from BitVec.add_zero _]
        have slot := logSlot_bounds s.port.counts[(2 : Fin 8)]
        refine logged.of_bytes bytes' fun w hw => ?_
        rcases words' w hw with low | ⟨i, hi, hw⟩
        · omega
        · obtain ⟨j, hj, rfl⟩ := List.mem_map.mp hw
          have := List.mem_range.mp hj
          have := logSlot_apart (n := s.port.counts[(2 : Fin 8)]) (i := i + 1) (by omega) (by omega)
          omega
      | succ i => exact entries i c hc
    · rcases List.mem_append.mp hw with hw | hw
      · refine (words w hw).imp id fun own => ⟨0, Nat.succ_pos _, ?_⟩
        rwa [show s.port.counts[(2 : Fin 8)] + BitVec.ofNat 32 0 = s.port.counts[(2 : Fin 8)] from BitVec.add_zero _]
      · exact (words' w hw).imp id fun ⟨i, hi, own⟩ => ⟨i + 1, Nat.succ_lt_succ hi, own⟩

/-! ### The abort (R140) -/

/-- The trimmer after an abort (R140, R142). -/
def Trimmer.abandoned (t : Trimmer) : Trimmer :=
  if t.phase ≠ .fault then
    { t with
      phase := .idle
      books := []
      target := none
      limitAt := none
      cutAt := none
      reason := .noFault
      gate2 := .toReject
      infeed := if t.queue = [] then .standingOpen else .closed }
  else if t.queue = [] then { t with books := [], gate2 := .toReject, infeed := .standingOpen }
  else { t with books := [], infeed := .closed }

theorem State.updTrim_congr {f g : Trimmer → Trimmer} {s : State} (h : f s.trim = g s.trim) : s.updTrim f = s.updTrim g := by
  unfold State.updTrim
  rw [h]

theorem State.postAborted_books (p : TrimPhase) (l : List Book) (s : State) (h : l = s.trim.books) :
    (s.postAborted p l).trim.books = [] := by
  induction l generalizing s with
  | nil => exact h.symm
  | cons b rest ih => exact ih _ (by simp)

/-- An abort posts its books from a trimmer that has already dropped them. -/
theorem State.abortTrimmer_eq {s : State} (busy : s.trim.phase ≠ .idle) (some : s.trim.books ≠ []) :
    s.abortTrimmer = (s.updTrim Trimmer.abandoned).postedSpoiled s.trim.phase s.trim.books := by
  have moving : ∀ p, s.trim.phase = p → p ≠ .fault →
      (s.postAborted p s.trim.books).updTrim Trimmer.toIdle =
        (s.updTrim Trimmer.abandoned).postedSpoiled p s.trim.books := fun p phase sound => by
    have same : s.trim.toIdle = s.trim.abandoned := by
      rw [Trimmer.abandoned, if_pos (by rw [phase]; exact sound)]
      rfl
    rw [State.postAborted_updTrim _ fun _ _ => rfl, State.updTrim_congr same]
    rfl
  cases phase : s.trim.phase with
  | idle => exact absurd phase busy
  | positioning =>
    rw [State.abortTrimmer, phase]
    exact moving _ phase (by decide)
  | cutting =>
    rw [State.abortTrimmer, phase]
    exact moving _ phase (by decide)
  | fault =>
    have same : Trimmer.emptied { s.trim with books := [] } = s.trim.abandoned := by
      rw [Trimmer.abandoned, if_neg (by simp [phase]), Trimmer.emptied]
    have dropped : ∀ u : State, u.trim.books = [] →
        u.updTrim Trimmer.emptied = u.updTrim fun t => Trimmer.emptied { t with books := [] } := fun u h =>
      State.updTrim_congr (by rw [← h])
    rw [State.abortTrimmer, phase]
    dsimp only
    rw [if_neg some, dropped _ (State.postAborted_books _ _ s rfl), State.postAborted_updTrim _ fun _ _ => rfl,
      State.updTrim_congr (f := fun t => Trimmer.emptied { t with books := [] }) same]
    rfl

/-- What the abort makes of the card. -/
structure Aborted (s t : State) : Prop where
  trim : t.trim = s.trim.abandoned
  posted : AbortPosted s.trim.phase s.trim.books (s.updTrim Trimmer.abandoned) t
  same : SameBut [.sched, .trim, .port] s t

theorem State.aborted {s : State} (inv : MemoryInv s) (busy : s.trim.phase ≠ .idle) (some : s.trim.books ≠ [])
    (few : s.trim.books.length ≤ 2) (good : ∀ b ∈ s.trim.books, b.spoil = none) : Aborted s s.abortTrimmer := by
  have posted := (s.updTrim Trimmer.abandoned).abortPosted s.trim.phase s.trim.books (le_trans few (by decide)) good inv
  rw [← State.abortTrimmer_eq busy some] at posted
  exact ⟨posted.same .trim (by decide), posted, ((SameBut.updTrim _ s).trans posted.same).mono (by decide)⟩

/-! ### The abort and the halt, in either order (R140, R161, R162) -/

/-- What the coming of ESTOP or GUARD makes of a card whose trimmer holds books. -/
structure GuardAborted (c : Cause) (s t : State) : Prop where
  trim : t.trim = s.trim.abandoned
  count : t.port.counts[(2 : Fin 8)] = s.port.counts[(2 : Fin 8)] + BitVec.ofNat 32 s.trim.books.length
  logged : ∀ i b, s.trim.books[i]? = some b →
    ∃ outcome, Logged (s.port.counts[(2 : Fin 8)] + BitVec.ofNat 32 i) (b.aborted s.trim.phase)
      (spoilEntry (b.aborted s.trim.phase) (abortMark s.trim.phase) outcome .trimmer) t
  causes : t.line.causes = s.line.causes.put true c
  word : t.word Header.causes = t.line.causes.word
  halted : s.line.mode.halts = true → t.line.mode = .halted ∧ t.line.haltStart = some s.now ∧ t.line.drive = .stopped
  calm : s.line.mode.halts = false → t.line = { s.line with causes := t.line.causes }
  cells : t.gathering.cells = s.gathering.cells
  places : t.carousel.places = s.carousel.places
  same : SameBut [.stations, .sched, .gathering, .carousel, .format, .miller, .glue, .cover, .trim, .line, .port] s t

/-- The words that a cause and a change of the mode write leave the log alone. -/
theorem Logged.of_modeWords {count : Word} {b : Book} {e : LogEntry} {t u : State} (h : Logged count b e t)
    (bytes : BytesBut (Header.causes :: modeWords) t u) : Logged count b e u :=
  h.of_bytes bytes fun w hw => by
    have header : ∀ a ∈ Header.causes :: modeWords, a + 4 ≤ 0x8800 := by decide
    have := header w hw
    have := logSlot_bounds count
    omega

theorem State.raiseCause_count (c : Cause) (s : State) :
    (s.raiseCause c).port.counts[(2 : Fin 8)] = s.port.counts[(2 : Fin 8)] := by
  obtain ⟨-, -, halted, calm, -⟩ := s.raiseCause_whole c
  cases halts : s.line.mode.halts with
  | true => exact ((halted halts).2.2 2).1.trans (BitVec.add_zero _)
  | false =>
    have port : (s.raiseCause c).port = s.port := (calm halts).1 .port (by decide)
    rw [port]

/-- The check at the end of EMPTYING, where it ends the mode and where it does not (R160). -/
structure EmptyingChecked (s t : State) : Prop where
  causes : t.line.causes = s.line.causes
  halts : t.line.mode.halts = s.line.mode.halts
  calm : s.line.mode.halts = false → t.line = s.line
  count : t.port.counts[(2 : Fin 8)] = s.port.counts[(2 : Fin 8)]
  cells : t.gathering.cells = s.gathering.cells
  places : t.carousel.places = s.carousel.places
  same : SameBut [.stations, .gathering, .carousel, .format, .miller, .glue, .cover, .line, .port] s t
  bytes : BytesBut modeWords s t

theorem State.emptyingChecked (s : State) : EmptyingChecked s s.emptyingCheck := by
  by_cases ends : s.line.mode = .emptying ∧ s.inFlight = 0
  · have emptied := State.changeMode_emptied (s := s) (by rw [ends.1]; rfl)
    rw [State.emptyingCheck_ends ends.1 ends.2]
    refine ⟨by rw [emptied.line], by rw [emptied.line, ends.1]; rfl, fun calm => ?_, ?_, emptied.cells, emptied.places,
      emptied.same, emptied.bytes⟩
    · rw [ends.1] at calm
      cases calm
    · exact (emptied.noticed 2).1.trans (BitVec.add_zero _)
  · rw [State.emptyingCheck_stays fun mode last => ends ⟨mode, last⟩]
    exact ⟨rfl, rfl, fun _ => rfl, rfl, rfl, rfl, SameBut.refl _ s, BytesBut.refl _ s⟩

/-- ESTOP or GUARD that comes first posts the trimmer's books and halts, whichever of the two is done first. -/
theorem State.guardSet_aborts {s : State} {c : Cause} (abortFirst : Bool) (inv : MemoryInv s) (busy : s.trim.phase ≠ .idle)
    (some : s.trim.books ≠ []) (few : s.trim.books.length ≤ 2) (good : ∀ b ∈ s.trim.books, b.spoil = none)
    (free : s.line.causes.guarded = false) (fresh : s.line.causes.has c = false) :
    GuardAborted c s (s.guardSet c abortFirst) := by
  have none : ∀ u : State, u.guardTrimmer false = u.abortTrimmer.emptyingCheck := fun _ => rfl
  unfold State.guardSet
  rw [free]
  cases abortFirst with
  | true =>
    dsimp only
    rw [if_pos rfl, none]
    obtain ⟨trim, posted, same⟩ := State.aborted inv busy some few good
    generalize s.abortTrimmer = y at *
    have line : y.line = s.line := same .line (by decide)
    have checked := y.emptyingChecked
    generalize y.emptyingCheck = z at *
    obtain ⟨causes, word, halted, calm, ⟨cells, places, -⟩, kept, bytes⟩ := z.raiseCause_whole c
    have count := z.raiseCause_count c
    generalize z.raiseCause c = t at *
    have now : z.now = s.now := (checked.same .now (by decide)).trans (same .now (by decide))
    have causesBefore : z.line.causes = s.line.causes := by rw [checked.causes, line]
    have halts : z.line.mode.halts = s.line.mode.halts := by rw [checked.halts, line]
    refine
      { trim := ((kept .trim (by decide)).trans (checked.same .trim (by decide))).trans trim
        count := (count.trans checked.count).trans posted.count
        logged := fun i b hb => ?_
        causes := by rw [causes, causesBefore]
        word := word (by rw [causesBefore]; exact fresh)
        halted := fun stops => ?_
        calm := fun rests => ?_
        cells := (cells.trans checked.cells).trans (congrArg Gathering.cells (same .gathering (by decide)))
        places := (places.trans checked.places).trans (congrArg Carousel.places (same .carousel (by decide)))
        same := ((same.trans checked.same).trans kept).mono (by decide) }
    · obtain ⟨outcome, logged⟩ := posted.logged i b hb
      exact ⟨outcome, (logged.of_modeWords (checked.bytes.mono fun _ h => List.mem_cons_of_mem _ h)).of_modeWords bytes⟩
    · obtain ⟨entered, start, -⟩ := halted (halts.trans stops)
      exact ⟨entered.1, by rw [start, now], entered.2.2.1⟩
    · rw [(calm (halts.trans rests)).2, checked.calm (by rw [line]; exact rests), line]
  | false =>
    dsimp only
    rw [if_neg (by decide), none]
    obtain ⟨causes, word, halted, calm, ⟨cells, places, -⟩, kept, bytes⟩ := s.raiseCause_whole c
    have count := s.raiseCause_count c
    have invAfter := inv.raiseCause c
    generalize s.raiseCause c = v at *
    have trimBefore : v.trim = s.trim := kept .trim (by decide)
    obtain ⟨trim, posted, same⟩ := State.aborted invAfter (by rw [trimBefore]; exact busy) (by rw [trimBefore]; exact some)
      (by rw [trimBefore]; exact few) (by rw [trimBefore]; exact good)
    have line : v.abortTrimmer.line = v.line := same .line (by decide)
    have mode : v.line.mode ≠ .emptying := fun emptying => by
      cases halts : s.line.mode.halts with
      | true =>
        rw [((halted halts).1).1] at emptying
        cases emptying
      | false =>
        rw [(calm halts).2] at emptying
        rw [show s.line.mode = .emptying from emptying] at halts
        cases halts
    rw [State.emptyingCheck_stays fun emptying => absurd (by rw [← line]; exact emptying) mode]
    generalize v.abortTrimmer = t at *
    have counts : (v.updTrim Trimmer.abandoned).port.counts[(2 : Fin 8)] = s.port.counts[(2 : Fin 8)] := count
    refine
      { trim := by rw [trim, trimBefore]
        count := by rw [posted.count, counts, trimBefore]
        logged := fun i b hb => ?_
        causes := by rw [line, causes]
        word := by rw [posted.word, line]; exact word fresh
        halted := fun stops => ?_
        calm := fun rests => by rw [line]; exact (calm rests).2
        cells := (congrArg Gathering.cells (same .gathering (by decide))).trans cells
        places := (congrArg Carousel.places (same .carousel (by decide))).trans places
        same := (kept.trans same).mono (by decide) }
    · have logged := posted.logged i b (by rw [trimBefore]; exact hb)
      rw [counts, trimBefore] at logged
      exact logged
    · obtain ⟨entered, start, -⟩ := halted stops
      rw [line]
      exact ⟨entered.1, start, entered.2.2.1⟩

/-- Settles O47: the abort and the halt in either order, and the inch that ESTOP stops. -/
theorem guardAbortsTheCut : Obligations.GuardAbortsTheCut := by
  intro s dt stop abortFirst inv off free busy some few good c hc
  have run := exec_guardSet dt off hc
  obtain ⟨u, hu⟩ : ∃ u, u = (s.elapse dt).updPins (Pins.guarded stop true) := ⟨_, rfl⟩
  have same : SameBut [.now, .pins] s u := hu ▸ (s.elapse_same dt).trans (SameBut.updPins _ _)
  have pins : u.pins = s.pins.guarded stop true := by rw [hu]; rfl
  have mem : u.mem = s.mem := by rw [hu]; rfl
  have later : u.now = s.now + dt := by rw [hu]; rfl
  have trim : u.trim = s.trim := same .trim (by decide)
  have line : u.line = s.line := same .line (by decide)
  have port : u.port = s.port := same .port (by decide)
  rw [← hu] at run
  have aborted := State.guardSet_aborts (s := u) (c := guardCause stop) abortFirst
    (inv.of_same (by rw [mem]; exact inv.1) (same .sched (by decide))) (by rw [trim]; exact busy) (by rw [trim]; exact some)
    (by rw [trim]; exact few) (by rw [trim]; exact good) (by rw [line]; exact free) (by
      obtain ⟨estop, guard⟩ := guarded_eq_false.mp free
      rw [line, Causes.has_guardCause]
      cases stop
      · exact guard
      · exact estop)
  generalize u.guardSet (guardCause stop) abortFirst = v at *
  obtain ⟨abandoned, count, logged, causes, word, halted, calm, cells, places, kept⟩ := aborted
  rw [trim] at abandoned count
  rw [trim, port] at logged
  rw [port] at count
  rw [line, Causes.put_guardCause] at causes
  rw [line] at halted calm
  obtain ⟨t, ht⟩ : ∃ t, t = v.updLine fun l => if stop then l.stopInch else l := ⟨_, rfl⟩
  have after : SameBut [.line] v t := ht ▸ SameBut.updLine _ v
  have memAfter : t.mem = v.mem := by rw [ht]; rfl
  have lineAfter : t.line =
      { v.line with drive := if stop = true ∧ v.line.drive = .inching then .stopped else v.line.drive } := by
    rw [ht, State.updLine_line, LineControl.stopInch]
    cases stop
    · simp
    · by_cases inch : v.line.drive = .inching <;> simp [inch]
  have portAfter : t.port = v.port := after .port (by decide)
  have all := (same.trans kept).trans after
  rw [← ht] at run
  refine ⟨t, run, ((after .now (by decide)).trans (kept .now (by decide))).trans later,
    (after .trim (by decide)).trans abandoned, by rw [portAfter]; exact count, fun i b hb slot hslot => ?_,
    by rw [lineAfter]; exact causes, ?_, ((after .pins (by decide)).trans (kept .pins (by decide))).trans pins, fun stops => ?_,
    fun rests => ?_, ?_, ?_, all .phase (by decide), all .pot (by decide), all .cache (by decide), all .config (by decide),
    all .pending (by decide)⟩
  · obtain ⟨outcome, entry⟩ := logged i b hb
    obtain ⟨number, serial, -, ⟨code, plain, -, posting⟩, ⟨position, place, -⟩, -, detail⟩ := entry.entry hslot
    have own := Book.aborted_of_good (good b (List.mem_of_getElem? hb)) s.trim.phase
    rw [memAfter]
    refine ⟨number, ?_, code, plain, posting, position, place, ?_⟩
    · rw [serial, own]
    · rw [detail]
      cases s.trim.phase <;> rfl
  · rw [State.word, memAfter, lineAfter]
    exact word
  · obtain ⟨mode, start, drive⟩ := halted stops
    rw [lineAfter]
    refine ⟨mode, by rw [← later]; exact start, ?_⟩
    simp [drive]
  · rw [lineAfter, calm rests]
  · rw [show t.gathering = v.gathering from after .gathering (by decide), cells, same .gathering (by decide)]
  · rw [show t.carousel = v.carousel from after .carousel (by decide), places, same .carousel (by decide)]

end Sys2Proof.Machine
end

section
/-!
The fetch engine: its retries, its limit and a valid completion (R42, R43, R46, R48 to R50, R88, R103).
-/

namespace Sys2Proof.Machine

/-! ### The books of every cell and clamp -/

theorem State.mapSlots_effect (f : DetectionPoint → Book → Book) (s : State) :
    (∀ p : Fin 18, (s.mapSlots f).cell p = (s.cell p).mapBook (f (chainPoint p))) ∧
      (∀ p : Fin 24, (s.mapSlots f).clampAt p = (s.clampAt p).mapBook (f (carouselPoint p))) ∧
      (s.mapSlots f).gathering.pockets = s.gathering.pockets ∧
      (∀ p : Fin 24, (s.mapSlots f).carousel.places[p].number = s.carousel.places[p].number) ∧
      (s.mapSlots f).carousel = { s.carousel with places := (s.mapSlots f).carousel.places } ∧
      SameBut [.gathering, .carousel] s (s.mapSlots f) ∧ (s.mapSlots f).mem = s.mem := by
  obtain ⟨u, hu⟩ : ∃ u, u = s.updGathering fun g =>
      { g with cells := Vector.ofFn fun p : Fin 18 => g.cells[p].mapBook (f (chainPoint p)) } := ⟨_, rfl⟩
  have cells : ∀ p : Fin 18, u.cell p = (s.cell p).mapBook (f (chainPoint p)) := fun p => by
    simp [hu, State.cell]
  have pockets : u.gathering.pockets = s.gathering.pockets := by rw [hu, State.updGathering_gathering]
  have same : SameBut [.gathering] s u := hu ▸ SameBut.updGathering _ s
  have mem : u.mem = s.mem := by rw [hu, State.updGathering_mem]
  have carousel : u.carousel = s.carousel := same .carousel (by decide)
  obtain ⟨clamps, numbers, frame, kept, memAfter⟩ := u.mapClamps_effect fun p => f (carouselPoint p)
  have run : s.mapSlots f = u.updCarousel fun c =>
      { c with places := Vector.ofFn fun p : Fin 24 => { c.places[p] with slot := c.places[p].slot.mapBook (f (carouselPoint p)) } } := by
    rw [hu, State.mapSlots]
  rw [← run] at clamps numbers frame kept memAfter
  generalize s.mapSlots f = t at *
  have gathering : t.gathering = u.gathering := kept .gathering (by decide)
  have before : ∀ p, u.clampAt p = s.clampAt p := fun p => by rw [State.clampAt, State.clampAt, carousel]
  refine ⟨fun p => ?_, fun p => by rw [clamps, before], by rw [gathering, pockets], fun p => by rw [numbers, carousel],
    by rw [frame, carousel], (same.trans kept).mono (by decide), memAfter.trans mem⟩
  rw [State.cell, gathering]
  exact cells p

theorem Book.unformatted_eq (point : DetectionPoint) (b : Book) :
    b.unformatted point =
      { b with
        format := .failed
        entry := none
        spoil := if b.spoil = none then some ⟨.unformatted, point, 0, false⟩ else b.spoil } := by
  rw [Book.unformatted, Book.spoilWith_spoil]
  cases b.spoil <;> rfl

theorem Book.waitsFor_iff (e : Fin 16) (b : Book) : b.waitsFor e = true ↔ b.entry = some e ∧ b.format = .pending := by
  rw [Book.waitsFor, Bool.and_eq_true, decide_eq_true_eq, decide_eq_true_eq]

/-- A place whose waiting book is changed, in the words of the card. -/
theorem Slot.mapBook_waiting (e : Fin 16) (f : Book → Book) (x : Slot) :
    x.mapBook (fun b => if b.waitsFor e then f b else b) =
      match x with
      | .holding b => if b.entry = some e ∧ b.format = .pending then .holding (f b) else x
      | _ => x := by
  cases x with
  | empty => rfl
  | unknown => rfl
  | holding b =>
    rw [Slot.mapBook]
    by_cases waits : b.waitsFor e = true
    · rw [if_pos waits]
      exact (if_pos ((Book.waitsFor_iff e b).mp waits)).symm
    · rw [if_neg waits]
      exact (if_neg fun k => waits ((Book.waitsFor_iff e b).mpr k)).symm

theorem State.failPending_effect (e : Fin 16) (s : State) :
    UnformattedWaiting e s (s.failPending e) ∧ SameBut [.gathering, .carousel] s (s.failPending e) ∧
      (s.failPending e).mem = s.mem := by
  obtain ⟨cells, clamps, pockets, numbers, frame, same, mem⟩ :=
    s.mapSlots_effect fun point b => if b.waitsFor e then b.unformatted point else b
  rw [← State.failPending] at cells clamps pockets numbers frame same mem
  refine ⟨⟨fun p => ?_, fun p => ?_, pockets, numbers, frame⟩, same, mem⟩
  · rw [cells, Slot.mapBook_waiting]
    cases s.cell p with
    | holding b => exact if_congr Iff.rfl (congrArg Slot.holding (Book.unformatted_eq _ b)) rfl
    | _ => rfl
  · rw [clamps, Slot.mapBook_waiting]
    cases s.clampAt p with
    | holding b => exact if_congr Iff.rfl (congrArg Slot.holding (Book.unformatted_eq _ b)) rfl
    | _ => rfl

theorem UnformattedWaiting.congr {e : Fin 16} {s s' t t' : State} (h : UnformattedWaiting e s t)
    (gathering : s'.gathering = s.gathering) (carousel : s'.carousel = s.carousel) (gathering' : t'.gathering = t.gathering)
    (carousel' : t'.carousel = t.carousel) : UnformattedWaiting e s' t' := by
  have cell : s'.cell = s.cell := by funext p; rw [State.cell, State.cell, gathering]
  have clamp : s'.clampAt = s.clampAt := by funext p; rw [State.clampAt, State.clampAt, carousel]
  have cell' : t'.cell = t.cell := by funext p; rw [State.cell, State.cell, gathering']
  have clamp' : t'.clampAt = t.clampAt := by funext p; rw [State.clampAt, State.clampAt, carousel']
  unfold UnformattedWaiting at h ⊢
  rw [cell, clamp, cell', clamp', gathering, carousel, gathering', carousel']
  exact h

/-! ### The end of a fetch (R44, R49, R50) -/

theorem SameBut.setFetch (f : Option Fetch) (s : State) : SameBut [.cache] s (s.setFetch f) := fun p hp => by
  cases p <;> simp [Part.same, State.setFetch] at hp ⊢

/-- The occupancy falls, and is written, when an entry that was not EMPTY is given up. -/
theorem State.setEntry_occupancy {e : Fin 16} {s : State} (taken : s.cache.entries[e].state ≠ .empty) :
    (s.setEntry e CacheEntry.emptyEntry).word Header.occupancy =
      BitVec.ofNat 32 (s.setEntry e CacheEntry.emptyEntry).cache.occupancy := by
  have falls : ¬ (s.updCache fun c => { c with entries := c.entries.set e CacheEntry.emptyEntry }).cache.occupancy =
      s.cache.occupancy := by
    have place : e.val < s.cache.entries.toList.length := by simp
    have here : s.cache.entries.toList[e.val] = s.cache.entries[e] := by simp [Fin.getElem_fin]
    have some : 0 < s.cache.entries.toList.countP fun y => decide (y.state ≠ .empty) :=
      List.countP_pos_iff.mpr ⟨s.cache.entries[e], by simp [Fin.getElem_fin], by simpa using taken⟩
    rw [State.updCache_cache, JobCache.occupancy, JobCache.occupancy, ← List.countP_eq_length_filter,
      ← List.countP_eq_length_filter, Vector.toList_set, List.countP_set place, here, if_pos (by simpa using taken),
      if_neg (by decide)]
    omega
  unfold State.setEntry State.changeCache
  dsimp only
  rw [if_neg falls]
  exact State.word_putWord_same _ _ _

/-- A fetch that is given up: its entry goes, its waiting books are UNFORMATTED. -/
structure GivenUp (e : Fin 16) (s t : State) : Prop where
  fetch : t.cache.fetch = none
  entry : t.cache.entries[e] = CacheEntry.emptyEntry
  others : ∀ f : Fin 16, f ≠ e → t.cache.entries[f] = s.cache.entries[f]
  stock : t.cache.stock = s.cache.stock
  word : s.cache.entries[e].state ≠ .empty → t.word Header.occupancy = BitVec.ofNat 32 t.cache.occupancy
  waiting : UnformattedWaiting e s t
  same : SameBut [.cache, .gathering, .carousel] s t
  bytes : BytesBut [Header.occupancy] s t

theorem State.givenUp (f : Fetch) (s : State) : GivenUp f.target s (s.timeoutFetch f) := by
  obtain ⟨waiting, same, mem⟩ := s.failPending_effect f.target
  unfold State.timeoutFetch
  generalize s.failPending f.target = u at *
  have cache : u.cache = s.cache := same .cache (by decide)
  obtain ⟨entry, others, stock, -, kept, bytes⟩ := u.setEntry_effect f.target CacheEntry.emptyEntry
  have occupancy := State.setEntry_occupancy (e := f.target) (s := u)
  generalize u.setEntry f.target CacheEntry.emptyEntry = v at *
  have last := SameBut.setFetch none v
  rw [cache] at others stock occupancy
  exact ⟨rfl, entry, others, stock, occupancy,
    waiting.congr rfl rfl (kept .gathering (by decide)) (kept .carousel (by decide)),
    ((same.trans kept).trans last).mono (by decide), ((BytesBut.of_mem (w := []) mem).trans bytes).mono fun _ h => h⟩

/-! ### The ends of an attempt (R46) -/

theorem getLsbD_zero_iff (w : Word) : w.getLsbD 0 = true ↔ w.toNat % 2 = 1 := by
  rw [BitVec.getLsbD, Nat.testBit_zero, decide_eq_true_eq]

theorem exec_attemptEnd {s : State} {f : Fetch} (dt : Nat) (lags : List Nat) (running : s.cache.fetch = some f)
    (reading : f.waitUntil = none) :
    exec (.fetchAttemptEnd dt lags) s = .next ((s.elapse dt).endAttempt f (attemptReads s.mem f.writes f.job lags)) := by
  refine congrArg Host.Outcome.next ?_
  rw [State.attemptEnd, State.elapse_cache, running]
  simp only
  rw [reading]
  rfl

theorem State.endAttempt_completes {s : State} {f : Fetch} {a : AttemptReads} (even : a.firstCount.toNat % 2 = 0)
    (equal : a.firstCount = a.secondCount) : s.endAttempt f a = s.completeFetch f a := by
  rw [State.endAttempt, if_neg fun odd => by rw [getLsbD_zero_iff] at odd; omega, if_neg fun differ => differ equal]

/-- Settles O35: the branches of an attempt's end, and what a fetch given up makes of the entry and the waiting books. -/
theorem fetchEngineRetries : Obligations.FetchEngineRetries := by
  refine ⟨fun s dt lags f running reading a ha again => ?_, fun s dt f running u waits over' => ?_,
    fun s dt f running limit filling => ?_⟩
  · have run := exec_attemptEnd dt lags running reading
    rw [← ha, State.endAttempt] at run
    by_cases odd : a.firstCount.toNat % 2 = 1
    · rw [if_pos ((getLsbD_zero_iff _).mpr odd)] at run
      refine ⟨_, run, rfl, ?_, ((s.elapse_same dt).trans (SameBut.setFetch _ _)).mono (by decide), BytesBut.of_mem rfl⟩
      rw [if_pos odd]
      rfl
    · rw [if_neg fun k => odd ((getLsbD_zero_iff _).mp k), if_pos (again.resolve_left odd)] at run
      refine ⟨_, run, rfl, ?_, ((s.elapse_same dt).trans (SameBut.setFetch _ _)).mono (by decide), BytesBut.of_mem rfl⟩
      rw [if_neg odd]
      rfl
  · refine ⟨(s.elapse dt).setFetch (some f.retry), ?_, rfl, rfl,
      ((s.elapse_same dt).trans (SameBut.setFetch _ _)).mono (by decide), BytesBut.of_mem rfl⟩
    refine congrArg Host.Outcome.next ?_
    have due : due (s.elapse dt).now f.waitUntil = true := by
      rw [waits]
      exact decide_eq_true over'
    rw [State.waitExpiry, State.elapse_cache, running]
    simp only
    rw [due, if_pos rfl]
  · have run : exec (.fetchTimeout dt) s = .next ((s.elapse dt).timeoutFetch f) := by
      refine congrArg Host.Outcome.next ?_
      rw [State.fetchExpiry, State.elapse_cache, running]
      exact if_pos limit
    obtain ⟨fetch, entry, others, stock, word, waiting, same, bytes⟩ := (s.elapse dt).givenUp f
    exact ⟨_, run, same .now (by decide), fetch, entry, others, stock, word (fun k => by
      rw [State.elapse_cache, filling] at k
      cases k), waiting, ((s.elapse_same dt).trans same).mono (by decide), bytes⟩

/-! ### The stock copies of an attempt (R43, R46) -/

theorem distinct_nodup (l : List Nat) : (distinct l).Nodup := by
  induction l with
  | nil => exact List.nodup_nil
  | cons x l ih => exact List.nodup_cons.mpr ⟨by simp, ih.filter _⟩

theorem stockCopies_codes (codes : List Nat) (ws : List Word) : (stockCopies codes ws).map (·.1) = codes := by
  induction codes generalizing ws with
  | nil => rfl
  | cons c codes ih => rw [stockCopies, List.map_cons, ih]

/-- An attempt reads each stock entry once. -/
theorem attemptReads_stock_nodup (m : Memory) (log : List (Nat × Word)) (job : Nat) (lags : List Nat) :
    ((attemptReads m log job lags).stock.map (·.1)).Nodup := by
  unfold attemptReads
  dsimp only
  rw [stockCopies_codes, stockCodesRead]
  split
  · exact distinct_nodup _
  · exact List.nodup_nil

/-- The stock places after the copies of an attempt: each code read holds its copy (R43). -/
theorem JobCache.takeStock_stock {copies : List (Nat × StockCopy)} (once : (copies.map (·.1)).Nodup) (c : JobCache) (k : Fin 64) :
    (c.takeStock copies).stock[k] =
      match copies.find? fun p => decide (p.1 = k.val) with
      | some p => some p.2
      | none => c.stock[k] := by
  have places : ∀ v : Vector (Option StockCopy) 64, (copies.foldl (fun v p => v.setIfInBounds p.1 (some p.2)) v)[k] =
      match copies.find? fun p => decide (p.1 = k.val) with
      | some p => some p.2
      | none => v[k] := by
    induction copies with
    | nil => exact fun _ => rfl
    | cons p copies ih =>
      intro v
      rw [List.map_cons, List.nodup_cons] at once
      rw [List.foldl_cons, ih once.2]
      by_cases here : p.1 = k.val
      · have absent : copies.find? (fun q => decide (q.1 = k.val)) = none := by
          refine List.find?_eq_none.mpr fun q hq same => once.1 (List.mem_map.mpr ⟨q, hq, ?_⟩)
          rw [here]
          exact of_decide_eq_true same
        rw [absent, List.find?_cons_of_pos (by simpa using here)]
        simp [here]
      · rw [List.find?_cons_of_neg (by simpa using here)]
        cases copies.find? fun q => decide (q.1 = k.val) with
        | some q => rfl
        | none => simp [here]
  exact places c.stock

/-! ### A valid completion (R48, R88) -/

theorem State.personalOf_eq (s : State) (i : Nat) : s.personalOf i = ((s.held i).map (·.personal)).getD 0 := by
  unfold State.personalOf
  cases s.held i <;> rfl

/-- The book of a place that waits for the entry has its format. -/
def Book.formatted (r : JobRecord) (s : State) (stock : Nat → Option StockCopy) (b : Book) : Book :=
  { b with format := .present, atLaunch := some (launchFormat r (((s.held b.ticket).map (·.personal)).getD 0) stock) }

/-- A valid completion: the entry FILLED, the engine IDLE, the waiting books formatted. -/
structure Completed (e : Fin 16) (r : JobRecord) (s t : State) : Prop where
  fetch : t.cache.fetch = none
  entry : t.cache.entries[e] = { s.cache.entries[e] with state := .filled, copy := some r, used := true }
  others : ∀ f : Fin 16, f ≠ e → t.cache.entries[f] = s.cache.entries[f]
  stock : t.cache.stock = s.cache.stock
  cells : ∀ p : Fin 18, t.cell p =
    (s.cell p).mapBook fun b => if b.waitsFor e then b.formatted r s t.cache.stockPlace else b
  clamps : ∀ p : Fin 24, t.clampAt p =
    (s.clampAt p).mapBook fun b => if b.waitsFor e then b.formatted r s t.cache.stockPlace else b
  pockets : t.gathering.pockets = s.gathering.pockets
  numbers : ∀ p : Fin 24, t.carousel.places[p].number = s.carousel.places[p].number
  frame : t.carousel = { s.carousel with places := t.carousel.places }
  same : SameBut [.cache, .gathering, .carousel] s t

theorem JobCache.stockPlace_congr {c d : JobCache} (h : c.stock = d.stock) : c.stockPlace = d.stockPlace := by
  funext n
  rw [JobCache.stockPlace, JobCache.stockPlace, h]

theorem State.completed (f : Fetch) (r : JobRecord) (s : State) : Completed f.target r s (s.completeValid f r) := by
  obtain ⟨entry, others, stock, -, kept, -⟩ := s.setEntry_effect f.target
    { s.cache.entries[f.target] with state := .filled, copy := some r, used := true }
  unfold State.completeValid
  generalize s.setEntry f.target _ = u at *
  have place : u.cache.stockPlace = s.cache.stockPlace := JobCache.stockPlace_congr stock
  have held : ∀ i, u.held i = s.held i := State.held_of_sched (congrArg Schedule.held (kept .sched (by decide)))
  have formats : (fun (_ : DetectionPoint) (b : Book) => if b.waitsFor f.target then
      { b with format := .present, atLaunch := some (launchFormat r (u.personalOf b.ticket) u.cache.stockPlace) } else b) =
      fun _ b => if b.waitsFor f.target then b.formatted r s s.cache.stockPlace else b := by
    funext _ b
    rw [State.personalOf_eq, held, place]
    rfl
  obtain ⟨cells, clamps, pockets, numbers, frame, same, -⟩ :=
    u.mapSlots_effect fun _ b => if b.waitsFor f.target then b.formatted r s s.cache.stockPlace else b
  have run : u.formatPending f.target r =
      u.mapSlots fun _ b => if b.waitsFor f.target then b.formatted r s s.cache.stockPlace else b := by
    rw [State.formatPending, formats]
  rw [← run] at cells clamps pockets numbers frame same
  generalize u.formatPending f.target r = v at *
  have cache : v.cache = u.cache := same .cache (by decide)
  have gathering : u.gathering = s.gathering := kept .gathering (by decide)
  have carousel : u.carousel = s.carousel := kept .carousel (by decide)
  have stockAfter : (v.setFetch none).cache.stockPlace = s.cache.stockPlace :=
    JobCache.stockPlace_congr ((congrArg JobCache.stock cache).trans stock)
  rw [carousel] at numbers frame
  refine ⟨rfl, (congrArg (fun c : JobCache => c.entries[f.target]) cache).trans entry,
    fun g hg => (congrArg (fun c : JobCache => c.entries[g]) cache).trans (others g hg), (congrArg JobCache.stock cache).trans stock,
    fun p => ?_, fun p => ?_, pockets.trans (congrArg Gathering.pockets gathering), numbers, frame,
    ((kept.trans same).trans (SameBut.setFetch none v)).mono (by decide)⟩
  · rw [stockAfter, show s.cell p = u.cell p by rw [State.cell, State.cell, gathering]]
    exact cells p
  · rw [stockAfter, show s.clampAt p = u.clampAt p by rw [State.clampAt, State.clampAt, carousel]]
    exact clamps p

/-- A valid completion writes nothing: the entry was FILLING, so the occupancy stays. -/
theorem State.completeValid_mem {f : Fetch} {r : JobRecord} {s : State} (filling : s.cache.entries[f.target].state = .filling) :
    (s.completeValid f r).mem = s.mem := by
  have occupied : (s.setEntry f.target
      { s.cache.entries[f.target] with state := .filled, copy := some r, used := true }).mem = s.mem :=
    State.setEntry_quiet (by rw [filling]; simp)
  unfold State.completeValid State.formatPending State.setFetch
  rw [State.updCache_mem, (State.mapSlots_effect _ _).2.2.2.2.2.2, occupied]

/-! ### The values formed at launch (R42, R88, R103) -/

/-- Over stock places that all hold a copy, the expected thickness is the plain sum of R88. -/
theorem expectedThickness_eq {r : JobRecord} {stock : Nat → Option StockCopy}
    (known : ∀ g ∈ r.entries, (stock g.stock).isSome = true) :
    expectedThickness r stock =
      (r.entries.map fun g => match stock g.stock with | some c => g.leaves * c.caliper * c.compression | none => 0).sum / 1000 := by
  have terms : r.entries.map (sigTerm stock) =
      r.entries.map fun g => match stock g.stock with | some c => g.leaves * c.caliper * c.compression | none => 0 := by
    refine List.map_congr_left fun g hg => ?_
    obtain ⟨c, hc⟩ := Option.isSome_iff_exists.mp (known g hg)
    rw [sigTerm, hc]
  rw [expectedThickness, terms]

/-- The bound of R103 on the expected thickness. -/
theorem expectedThickness_le {r : JobRecord} {stock : Nat → Option StockCopy} (few : r.sigCount ≤ 16)
    (thin : ∀ g ∈ r.entries, g.leaves ≤ 64) (bounds : ∀ n, ∀ c ∈ stock n, c.caliper ≤ 400 ∧ c.compression ≤ 1000) :
    expectedThickness r stock ≤ 409600 := by
  have term : ∀ x ∈ r.entries.map (sigTerm stock), x ≤ 25600000 := fun x hx => by
    obtain ⟨g, hg, rfl⟩ := List.mem_map.mp hx
    have leaves := thin g hg
    unfold sigTerm
    cases hc : stock g.stock with
    | none => exact le_trans (min_le_left _ _) (by omega)
    | some c =>
      obtain ⟨caliper, compression⟩ := bounds g.stock c hc
      calc g.leaves * c.caliper * c.compression ≤ 64 * 400 * 1000 :=
            Nat.mul_le_mul (Nat.mul_le_mul leaves caliper) compression
        _ = 25600000 := by norm_num
  have sum := List.sum_le_card_nsmul _ _ term
  have count : (r.entries.map (sigTerm stock)).length ≤ 16 := by
    rw [List.length_map, JobRecord.entries, List.length_take]
    exact le_trans (min_le_left _ _) few
  rw [smul_eq_mul] at sum
  rw [expectedThickness]
  omega

/-- Settles O36: a valid completion on the stock places as the copies read leave them. -/
theorem fetchCompletesValid : Obligations.FetchCompletesValid := by
  refine ⟨fun s dt lags f running reading filling a ha even equal valid => ?_, fun r personal stock known l hl => ?_⟩
  · have run := exec_attemptEnd dt lags running reading
    have once := attemptReads_stock_nodup s.mem f.writes f.job lags
    rw [← ha] at run once
    obtain ⟨u, hu⟩ : ∃ u, u = (s.elapse dt).updCache (JobCache.takeStock a.stock) := ⟨_, rfl⟩
    have same : SameBut [.now, .cache] s u := hu ▸ (s.elapse_same dt).trans fun p hp => by
      cases p <;> simp [Part.same] at hp ⊢
    have mem : u.mem = s.mem := by rw [hu]; rfl
    have later : u.now = s.now + dt := by rw [hu]; rfl
    have entries : u.cache.entries = s.cache.entries := by rw [hu]; rfl
    have copies : ∀ c : Fin 64, u.cache.stock[c] =
        match a.stock.find? fun p => decide (p.1 = c.val) with
        | some p => some p.2
        | none => s.cache.stock[c] := fun c => by
      rw [hu]
      exact JobCache.takeStock_stock once s.cache c
    have whole : (s.elapse dt).endAttempt f a = u.completeValid f a.record := by
      rw [State.endAttempt_completes even equal, State.completeFetch, ← hu, show badJob a.record (readCopy a.stock) = none from valid]
    rw [whole] at run
    have done := u.completed f a.record
    have memAfter := State.completeValid_mem (f := f) (r := a.record) (s := u) (by rw [entries]; exact filling)
    generalize u.completeValid f a.record = t at *
    obtain ⟨fetch, entry, others, stock, cells, clamps, pockets, numbers, frame, kept⟩ := done
    have gathering : u.gathering = s.gathering := same .gathering (by decide)
    have carousel : u.carousel = s.carousel := same .carousel (by decide)
    have sched : u.sched = s.sched := same .sched (by decide)
    have formats : ∀ b : Book, b.formatted a.record u t.cache.stockPlace =
        { b with
          format := .present
          atLaunch := some (launchFormat a.record (((s.held b.ticket).map (·.personal)).getD 0) t.cache.stockPlace) } := fun b => by
      rw [Book.formatted, State.held_of_sched (congrArg Schedule.held sched)]
    rw [carousel] at numbers frame
    rw [entries] at entry others
    refine ⟨t, run, (kept .now (by decide)).trans later, fetch, entry, others, fun c => by rw [stock]; exact copies c, fun p => ?_,
      fun p => ?_, by rw [pockets, gathering], numbers, frame, (same.trans kept).mono (by decide),
      BytesBut.of_mem (memAfter.trans mem)⟩
    · rw [cells, Slot.mapBook_waiting, show u.cell p = s.cell p by rw [State.cell, State.cell, gathering]]
      cases s.cell p with
      | holding b => exact if_congr Iff.rfl (congrArg Slot.holding (formats b)) rfl
      | _ => rfl
    · rw [clamps, Slot.mapBook_waiting, show u.clampAt p = s.clampAt p by rw [State.clampAt, State.clampAt, carousel]]
      cases s.clampAt p with
      | holding b => exact if_congr Iff.rfl (congrArg Slot.holding (formats b)) rfl
      | _ => rfl
  · subst hl
    refine ⟨rfl, fun a => if_pos a, fun b => ?_, rfl, rfl, expectedThickness_eq known, expectedThickness_le⟩
    exact (if_neg (by rw [b]; decide)).trans (if_pos b)

end Sys2Proof.Machine
end

section
/-!
The verdict on an invalid record: the refused ticket, the held tickets of the job, and the job checks (R19, R26, R28, R32,
R33, R39, R40, R43, R49).
-/

namespace Sys2Proof.Machine

/-! ### A ticket refused (R19, R26, R33, R40) -/

/-- The words of a refused ticket before its end reason. -/
def refusedFields : List TicketField := [.launched, .made, .spoiled, .remade, .short, .firstSerial, .lastSerial, .lastDefect]

def refusedValue (defect : Nat) : TicketField → Word
  | .lastDefect => BitVec.ofNat 32 defect
  | _ => 0

theorem State.refuse_eq (i : Nat) (r : EndReason) (d : Nat) (s : State) :
    s.refuse i r d = ((s.writeEnd i (refusedFields.map fun f => (f, refusedValue d f)) r .failed).advanceCursor, .noWork) := rfl

theorem State.refuse_effect (i : Nat) (r : EndReason) (d : Nat) (s : State) :
    RefusedTicket i r.number d s (s.refuse i r d).1 ∧
      (s.refuse i r d).1.sched = { s.sched with cursor := (s.refuse i r d).1.sched.cursor } ∧
      (s.refuse i r d).1.port = { s.port with
        counts := (s.refuse i r d).1.port.counts, attention := (s.refuse i r d).1.port.attention } ∧
      SameBut [.sched, .port] s (s.refuse i r d).1 ∧
      BytesBut ([Header.count 1, Header.cursor] ++ ticketWordsAt i) s (s.refuse i r d).1 := by
  rw [State.refuse_eq]
  obtain ⟨e, he⟩ : ∃ e, e = s.writeEnd i (refusedFields.map fun f => (f, refusedValue d f)) r .failed := ⟨_, rfl⟩
  obtain ⟨stage, reason, finish, fields, noticed, same, port, bytes⟩ :=
    State.writeEnd_effect i refusedFields (refusedValue d) r .failed s he
  rw [← he]
  dsimp only
  have sched : e.sched = s.sched := same .sched (by decide)
  obtain ⟨-, cursorWord, bytesCursor⟩ := e.setCursor_effect ((e.sched.cursor + 1) % 256)
  have sameCursor := e.setCursor_sameBut ((e.sched.cursor + 1) % 256)
  have cursor : e.advanceCursor.sched = { e.sched with cursor := (e.sched.cursor + 1) % 256 } := rfl
  rw [← State.advanceCursor] at cursorWord bytesCursor sameCursor
  generalize e.advanceCursor = t at *
  have ticket : ∀ f, t.mem.ticket i f = e.mem.ticket i f := fun f => by
    have low := ticketAddr_low i f
    exact bytesCursor.word fun w hw => by
      rw [List.mem_singleton.mp hw]
      exact .inr (le_trans (by decide) low)
  have portAfter : t.port = e.port := sameCursor .port (by decide)
  have count : ∀ c : Fin 8, t.word (Header.count c) = e.word (Header.count c) := fun c => by
    have := c.isLt
    exact bytesCursor.word fun w hw => by
      rw [List.mem_singleton.mp hw]
      simp only [Header.count, Header.cursor]
      omega
  refine ⟨⟨(ticket _).trans stage, (ticket _).trans reason, (ticket _).trans (fields .lastDefect (by decide) (by decide)),
    fun f hf => (ticket f).trans ?_, (ticket _).trans finish, fun c => ?_, by rw [cursor, sched], ?_⟩, ?_,
    by rw [portAfter]; exact port, (same.trans sameCursor).mono (by decide), (bytes.trans bytesCursor).mono fun a ha => ?_⟩
  · have other : f ∈ refusedFields ∧ f ∉ [TicketField.endReason, .finish, .stage] ∧ refusedValue d f = 0 := by
      simp only [List.mem_cons, List.not_mem_nil, or_false] at hf
      rcases hf with rfl | rfl | rfl | rfl | rfl | rfl | rfl <;> exact ⟨by decide, by decide, rfl⟩
    rw [fields f other.1 other.2.1, other.2.2]
  · rw [portAfter, count]
    exact noticed c
  · rw [cursorWord, cursor]
  · rw [cursor, sched]
  · simp only [List.cons_append, List.nil_append, List.mem_append, List.mem_cons, List.not_mem_nil, or_false, List.mem_map] at ha ⊢
    rcases ha with rfl | ⟨f, -, rfl⟩ | rfl
    · exact .inl rfl
    · exact .inr (.inr (mem_ticketWordsAt _ f))
    · exact .inr (.inl rfl)

/-! ### The held tickets of an invalid job (R32, R39) -/

/-- A held ticket after the verdict on its job (R32). -/
def HeldTicket.stoppedFor (j : Nat) (x : HeldTicket) : HeldTicket :=
  if x.job = j ∧ x.stop = .noStop then { x with stop := .badJob } else x

/-- A held ticket that the verdict on its job ends (R32, R39). -/
def HeldTicket.endsFor (j : Nat) (x : HeldTicket) : Bool := decide (x.job = j ∧ x.stop = .noStop ∧ x.endsStopped)

theorem HeldTicket.stoppedFor_index (j : Nat) (x : HeldTicket) : (x.stoppedFor j).index = x.index := by
  unfold HeldTicket.stoppedFor
  split <;> rfl

/-- A ticket stopped ends exactly when its counts say so. -/
theorem HeldTicket.stopped_ends_iff (x : HeldTicket) :
    ({ x with stop := .badJob } : HeldTicket).made = x.qty ∨ ({ x with stop := .badJob } : HeldTicket).exhausted = true ↔
      x.endsStopped := by
  rw [HeldTicket.exhausted_iff]
  exact or_congr Iff.rfl ⟨fun ⟨short, flight, queued, _⟩ => ⟨short, flight, queued⟩,
    fun ⟨short, flight, queued⟩ => ⟨short, flight, queued, .inr (by simp)⟩⟩

theorem State.endHeld_held (x : HeldTicket) (r : EndReason) (g : Stage) (s : State) :
    (s.endHeld x r g).sched.held = s.sched.held.filter fun u => decide (u.index ≠ x.index) := by
  unfold State.endHeld
  dsimp only
  split <;> simp [State.advanceCursor, State.setCursor, State.writeEnd]

theorem find_of_split {p l : List HeldTicket} {x : HeldTicket} (once : ((p ++ x :: l).map (·.index)).Nodup) :
    (p ++ x :: l).find? (fun u => decide (u.index = x.index)) = some x := by
  have apart : ∀ u ∈ p, u.index ≠ x.index := by
    rw [List.map_append, List.map_cons, List.nodup_append] at once
    exact fun u hu => once.2.2 _ (List.mem_map_of_mem hu) _ List.mem_cons_self
  rw [List.find?_append, List.find?_eq_none.mpr fun u hu => by simpa using apart u hu]
  simp

theorem Schedule.put_split {p l : List HeldTicket} {x y : HeldTicket} (own : y.index = x.index)
    (once : ((p ++ x :: l).map (·.index)).Nodup) :
    (p ++ x :: l).map (fun u => if u.index = y.index then y else u) = p ++ y :: l := by
  rw [List.map_append, List.map_cons, List.nodup_append, List.nodup_cons] at once
  obtain ⟨-, ⟨after, -⟩, apart⟩ := once
  have before : p.map (fun u => if u.index = y.index then y else u) = p := by
    refine (List.map_congr_left fun u hu => ?_).trans (List.map_id p)
    exact if_neg (by rw [own]; exact apart _ (List.mem_map_of_mem hu) _ List.mem_cons_self)
  have behind : l.map (fun u => if u.index = y.index then y else u) = l := by
    refine (List.map_congr_left fun u hu => ?_).trans (List.map_id l)
    exact if_neg (by rw [own]; exact fun k => after (k ▸ List.mem_map_of_mem hu))
  rw [List.map_append, List.map_cons, before, behind, if_pos own.symm]

theorem Schedule.remove_split {p l : List HeldTicket} {y : HeldTicket}
    (once : ((p ++ y :: l).map (·.index)).Nodup) :
    (p ++ y :: l).filter (fun u => decide (u.index ≠ y.index)) = p ++ l := by
  rw [List.map_append, List.map_cons, List.nodup_append, List.nodup_cons] at once
  obtain ⟨-, ⟨after, -⟩, apart⟩ := once
  rw [List.filter_append, List.filter_cons_of_neg (by simp), List.filter_eq_self.mpr fun u hu => ?_,
    List.filter_eq_self.mpr fun u hu => ?_]
  · exact decide_eq_true (fun k => after (k ▸ List.mem_map_of_mem hu))
  · exact decide_eq_true (apart _ (List.mem_map_of_mem hu) _ List.mem_cons_self)

/-- The words of a ticket that the verdict has ended (R39, R40). -/
structure EndedFor (x : HeldTicket) (t : State) : Prop where
  stage : t.mem.ticket x.index .stage = if x.made = x.qty then 4 else 5
  reason : t.mem.ticket x.index .endReason = if x.made = x.qty then 0 else 66
  made : t.mem.ticket x.index .made = BitVec.ofNat 32 x.made
  short : t.mem.ticket x.index .short = BitVec.ofNat 32 x.short
  spoiled : t.mem.ticket x.index .spoiled = BitVec.ofNat 32 x.spoiled

/-- The words that the end of a held ticket writes. -/
def endWordsAt (i : Nat) : List Nat := [Header.count 1, Header.cursor] ++ ticketWordsAt i

/-- The ends of other tickets leave a ticket's words. -/
theorem ticket_of_otherEnds {i : Nat} {l : List HeldTicket} {s t : State} (others : ∀ x ∈ l, x.index ≠ i)
    (bytes : BytesBut (l.flatMap fun x => endWordsAt x.index) s t) (f : TicketField) : t.mem.ticket i f = s.mem.ticket i f := by
  refine bytes.word fun w hw => ?_
  obtain ⟨x, hx, hw⟩ := List.mem_flatMap.mp hw
  have low := ticketAddr_low i f
  rcases List.mem_append.mp hw with hw | hw
  · have header : ∀ a ∈ [Header.count 1, Header.cursor], a + 4 ≤ 0x0200 := by decide
    have := header w hw
    omega
  · obtain ⟨j, hj, rfl⟩ := List.mem_map.mp hw
    have := List.mem_range.mp hj
    have other := others x hx
    have bounds := ticketAddr_bounds i f
    unfold ticketBase at bounds ⊢
    omega

theorem EndedFor.of_otherEnds {x : HeldTicket} {l : List HeldTicket} {s t : State} (h : EndedFor x s)
    (others : ∀ y ∈ l, y.index ≠ x.index) (bytes : BytesBut (l.flatMap fun x => endWordsAt x.index) s t) : EndedFor x t := by
  have same := ticket_of_otherEnds others bytes
  exact ⟨(same _).trans h.stage, (same _).trans h.reason, (same _).trans h.made, (same _).trans h.short,
    (same _).trans h.spoiled⟩

/-- What the verdict on a job makes of the held tickets `l` still to be looked at, behind the tickets `p`. -/
structure VerdictDone (j : Nat) (p l : List HeldTicket) (s t : State) : Prop where
  held : t.sched.held = p ++ (l.filter fun x => !x.endsFor j).map (HeldTicket.stoppedFor j)
  ended : ∀ x ∈ l, x.endsFor j = true → EndedFor x t
  finish : ∀ x, l.filter (HeldTicket.endsFor j) = [x] → t.mem.ticket x.index .finish = s.port.counts[(1 : Fin 8)] + 1
  cursor : t.sched.cursor =
    (fun c => (c + 1) % 256)^[((l.filter (HeldTicket.endsFor j)).filter fun x => decide (x.stage = .active)).length] s.sched.cursor
  sched : t.sched = { s.sched with held := t.sched.held, cursor := t.sched.cursor }
  noticed : Noticed (fun c => if c = 1 then (l.filter (HeldTicket.endsFor j)).length else 0) s t
  port : t.port = { s.port with counts := t.port.counts, attention := t.port.attention }
  quiet : l.filter (HeldTicket.endsFor j) = [] → t.port = s.port
  same : SameBut [.sched, .port] s t
  bytes : BytesBut ((l.filter (HeldTicket.endsFor j)).flatMap fun x => endWordsAt x.index) s t

/-- The verdict at one held ticket whose stop, if it makes one, leaves something to come. -/
theorem State.stopForJob_stays {p l : List HeldTicket} {x : HeldTicket} {j : Nat} {s : State}
    (held : s.sched.held = p ++ x :: l) (once : ((p ++ x :: l).map (·.index)).Nodup) (stays : x.endsFor j = false) :
    s.stopForJob j x.index = s.updSched fun c => { c with held := p ++ x.stoppedFor j :: l } := by
  have here : s.held x.index = some x := by
    rw [State.held, Schedule.find, held]
    exact find_of_split once
  rw [State.stopForJob, here]
  dsimp only
  by_cases own : x.job = j ∧ x.stop = .noStop
  · obtain ⟨y, hy⟩ : ∃ y : HeldTicket, y = { x with stop := .badJob } := ⟨_, rfl⟩
    have stopped : x.stoppedFor j = y := by rw [hy]; exact if_pos own
    have index : y.index = x.index := by rw [hy]
    have put : s.updSched (Schedule.put y) = s.updSched fun c => { c with held := p ++ y :: l } := by
      unfold State.updSched Schedule.put
      rw [held, Schedule.put_split index once]
    have lasts : ¬ (y.made = y.qty ∨ y.exhausted = true) := fun ends => by
      rw [hy] at ends
      have := (HeldTicket.stopped_ends_iff x).mp ends
      exact absurd (decide_eq_true (p := x.job = j ∧ x.stop = .noStop ∧ x.endsStopped) ⟨own.1, own.2, this⟩)
        (by rw [← HeldTicket.endsFor, stays]; decide)
    have heldNow : (s.updSched (Schedule.put y)).held x.index = some y := by
      rw [← index]
      exact Schedule.find_put_same (by rw [index]; exact here)
    rw [if_pos own, ← hy, stopped, State.endCheck_rests heldNow (fun k => lasts (.inl k)) (by simpa using fun k => lasts (.inr k)),
      put]
  · have kept : x.stoppedFor j = x := if_neg own
    rw [if_neg own, kept, ← held]
    rfl

/-- The verdict at one held ticket that its stop ends. -/
structure EndedHere (p l : List HeldTicket) (x : HeldTicket) (s t : State) : Prop where
  held : t.sched.held = p ++ l
  ended : EndedFor x t
  finish : t.mem.ticket x.index .finish = s.port.counts[(1 : Fin 8)] + 1
  cursor : t.sched.cursor = if x.stage = .active then (s.sched.cursor + 1) % 256 else s.sched.cursor
  sched : t.sched = { s.sched with held := t.sched.held, cursor := t.sched.cursor }
  noticed : Noticed (oneNotice .ticketFinished) s t
  port : t.port = { s.port with counts := t.port.counts, attention := t.port.attention }
  same : SameBut [.sched, .port] s t
  bytes : BytesBut (endWordsAt x.index) s t

theorem State.stopForJob_ends {p l : List HeldTicket} {x : HeldTicket} {j : Nat} {s : State}
    (held : s.sched.held = p ++ x :: l) (once : ((p ++ x :: l).map (·.index)).Nodup) (ends : x.endsFor j = true) :
    EndedHere p l x s (s.stopForJob j x.index) := by
  have here : s.held x.index = some x := by
    rw [State.held, Schedule.find, held]
    exact find_of_split once
  obtain ⟨job, running, counts⟩ := of_decide_eq_true ends
  obtain ⟨y, hy⟩ : ∃ y : HeldTicket, y = { x with stop := .badJob } := ⟨_, rfl⟩
  have index : y.index = x.index := by rw [hy]
  have stop : y.stop = .badJob := by rw [hy]
  have over' : y.made = y.qty ∨ y.exhausted = true := by
    rw [hy]
    exact (HeldTicket.stopped_ends_iff x).mpr counts
  obtain ⟨u, hu⟩ : ∃ u, u = s.updSched (Schedule.put y) := ⟨_, rfl⟩
  have heldNow : u.held x.index = some y := by
    rw [hu, ← index]
    exact Schedule.find_put_same (by rw [index]; exact here)
  have list : u.sched.held = p ++ y :: l := by
    rw [hu, State.updSched_sched, Schedule.put, held, Schedule.put_split index once]
  have same : SameBut [.sched] s u := fun q hq => by
    subst hu
    cases q <;> simp [Part.same] at hq ⊢
  have cursorSame : u.sched = { s.sched with held := u.sched.held } := by rw [hu]; rfl
  have mem : u.mem = s.mem := by rw [hu]; rfl
  have port : u.port = s.port := same .port (by decide)
  have run : s.stopForJob j x.index =
      u.endHeld y (if y.made = y.qty then .noReason else y.failReason) (if y.made = y.qty then .done else .failed) := by
    rw [State.stopForJob, here]
    dsimp only
    rw [if_pos ⟨job, running⟩, ← hy, ← hu, State.endCheck_ends heldNow over']
  have rest := State.endHeld_held y (if y.made = y.qty then .noReason else y.failReason)
    (if y.made = y.qty then .done else .failed) u
  rw [list, Schedule.remove_split (by
    rw [List.map_append, List.map_cons, index]
    rw [List.map_append, List.map_cons] at once
    exact once), ← run] at rest
  obtain ⟨-, -, stage, reason, finish, fields, noticed, cursor, -, sched, portEnd, sameEnd, bytes⟩ :=
    State.endHeld_effect y _ _ u run
  generalize s.stopForJob j x.index = t at *
  have made : y.made = x.made := by rw [hy]
  have qty : y.qty = x.qty := by rw [hy]
  rw [index] at stage reason finish fields bytes
  rw [port] at finish portEnd
  refine
    { held := rest
      ended := ⟨?_, ?_, ?_, ?_, ?_⟩
      finish
      cursor := ?_
      sched := ?_
      noticed := noticed.of_counts (by rw [port])
      port := portEnd
      same := (same.trans sameEnd).mono (by decide)
      bytes := ((BytesBut.of_mem (w := []) mem).trans bytes).mono fun _ h => h }
  · rw [stage, made, qty]
    split <;> rfl
  · rw [reason, made, qty]
    split
    · rfl
    · rw [HeldTicket.failReason_number, stop]
  · rw [fields .made (by decide) (by decide), hy]
    rfl
  · rw [fields .short (by decide) (by decide), hy]
    rfl
  · rw [fields .spoiled (by decide) (by decide), hy]
    rfl
  · rw [cursor, cursorSame, hy]
  · rw [sched, cursorSame]

/-- The verdict on a job at the held tickets, one by one. -/
theorem State.verdictDone (j : Nat) (p l : List HeldTicket) (s : State) (held : s.sched.held = p ++ l)
    (once : ((p ++ l).map (·.index)).Nodup) :
    VerdictDone j p l s ((l.map (·.index)).foldl (fun s i => s.stopForJob j i) s) := by
  induction l generalizing p s with
  | nil =>
    refine ⟨by simpa using held, fun x hx => (by cases hx), fun x hx => (by cases hx), rfl, rfl, fun c => ⟨?_, fun some => ?_⟩, rfl,
      fun _ => rfl, SameBut.refl _ s, BytesBut.refl _ s⟩
    · simp
    · simp at some
  | cons x l ih =>
    rw [List.map_cons, List.foldl_cons]
    cases ends : x.endsFor j with
    | false =>
      have step := State.stopForJob_stays held once ends
      obtain ⟨u, hu⟩ : ∃ u, u = s.stopForJob j x.index := ⟨_, rfl⟩
      have list : u.sched.held = (p ++ [x.stoppedFor j]) ++ l := by rw [hu, step]; simp
      have same : SameBut [.sched] s u := fun q hq => by
        rw [step] at hu
        subst hu
        cases q <;> simp [Part.same] at hq ⊢
      have mem : u.mem = s.mem := by rw [hu, step]; rfl
      have port : u.port = s.port := same .port (by decide)
      have schedSame : u.sched = { s.sched with held := u.sched.held } := by rw [hu, step]; rfl
      have onceAfter : (((p ++ [x.stoppedFor j]) ++ l).map (·.index)).Nodup := by
        simpa [HeldTicket.stoppedFor_index] using once
      obtain ⟨held', ended, finish, cursor, sched, noticed, port', quiet, same', bytes⟩ := ih _ u list onceAfter
      rw [← hu]
      generalize (l.map (·.index)).foldl (fun s i => s.stopForJob j i) u = t at *
      have filtered : (x :: l).filter (HeldTicket.endsFor j) = l.filter (HeldTicket.endsFor j) :=
        List.filter_cons_of_neg (by rw [ends]; decide)
      rw [port] at finish port' quiet
      rw [show u.sched.cursor = s.sched.cursor by rw [schedSame]] at cursor
      refine ⟨?_, fun y hy yends => ?_, by rw [filtered]; exact finish, by rw [filtered]; exact cursor, by rw [sched, schedSame],
        by rw [filtered]; exact noticed.of_counts (by rw [port]), port', by rw [filtered]; exact quiet,
        (same.trans same').mono (by decide), ?_⟩
      · rw [held', List.filter_cons_of_pos (by rw [ends]; rfl)]
        simp
      · rcases List.mem_cons.mp hy with rfl | hy
        · rw [ends] at yends
          cases yends
        · exact ended y hy yends
      · rw [filtered]
        exact ((BytesBut.of_mem (w := []) mem).trans bytes).mono fun _ h => h
    | true =>
      obtain ⟨list, endedX, finishX, cursorX, schedX, noticedX, portX, sameX, bytesX⟩ := State.stopForJob_ends held once ends
      generalize s.stopForJob j x.index = u at *
      have parts := once
      rw [List.map_append, List.map_cons, List.nodup_append, List.nodup_cons] at parts
      obtain ⟨before, ⟨after, behind⟩, apart⟩ := parts
      have onceAfter : ((p ++ l).map (·.index)).Nodup := by
        rw [List.map_append, List.nodup_append]
        exact ⟨before, behind, fun a ha b hb => apart a ha b (List.mem_cons_of_mem _ hb)⟩
      obtain ⟨held', ended, finish, cursor, sched, noticed, port', quiet, same', bytes⟩ := ih p u list onceAfter
      generalize (l.map (·.index)).foldl (fun s i => s.stopForJob j i) u = t at *
      have filtered : (x :: l).filter (HeldTicket.endsFor j) = x :: l.filter (HeldTicket.endsFor j) :=
        List.filter_cons_of_pos ends
      have others : ∀ y ∈ l.filter (HeldTicket.endsFor j), y.index ≠ x.index := fun y hy k =>
        after (k ▸ List.mem_map_of_mem (List.mem_filter.mp hy).1)
      refine ⟨?_, fun y hy yends => ?_, fun y one => ?_, ?_, by rw [sched, schedX], fun c => ?_, by rw [port', portX],
        fun none => ?_, (sameX.trans same').mono (by decide), ?_⟩
      · rw [held', List.filter_cons_of_neg (by rw [ends]; decide)]
      · rcases List.mem_cons.mp hy with rfl | hy
        · exact endedX.of_otherEnds others bytes
        · exact ended y hy yends
      · rw [filtered] at one
        obtain ⟨rfl, rest⟩ := List.cons.inj one
        rw [← finishX]
        exact ticket_of_otherEnds others bytes .finish
      · rw [cursor, cursorX, filtered]
        by_cases active : x.stage = .active
        · rw [List.filter_cons_of_pos (p := fun x : HeldTicket => decide (x.stage = .active)) (decide_eq_true active), List.length_cons,
            Function.iterate_succ_apply, if_pos active]
        · rw [List.filter_cons_of_neg (p := fun x : HeldTicket => decide (x.stage = .active)) (by simpa using active), if_neg active]
      · have both := noticedX.trans noticed (fun c none => ?_) c
        · refine ⟨both.1.trans ?_, fun some => both.2 fun zero => some ?_⟩
          · rw [filtered]
            by_cases finished : c = 1
            · subst finished
              congr 2
              exact Nat.add_comm _ _
            · simp [oneNotice, Attention.number, finished]
          · rw [filtered]
            by_cases finished : c = 1
            · subst finished
              simp [oneNotice, Attention.number] at zero
            · exact if_neg finished
        · refine bytes.word fun w hw => ?_
          by_cases finished : c = 1
          · have empty : l.filter (HeldTicket.endsFor j) = [] := List.length_eq_zero_iff.mp ((if_pos finished).symm.trans none)
            rw [empty] at hw
            cases hw
          · obtain ⟨y, -, hw⟩ := List.mem_flatMap.mp hw
            have := c.isLt
            have apart : c.val ≠ 1 := fun k => finished (Fin.ext k)
            rcases List.mem_append.mp hw with hw | hw
            · simp only [List.mem_cons, List.not_mem_nil, or_false, Header.count, Header.cursor] at hw ⊢
              omega
            · obtain ⟨i, hi, rfl⟩ := List.mem_map.mp hw
              simp only [Header.count, ticketBase]
              omega
      · rw [filtered] at none
        cases none
      · rw [filtered, List.flatMap_cons]
        exact bytesX.trans bytes

/-! ### An invalid completion (R43, R49) -/

theorem Stage.ofWord_posted (w : Word) : Stage.ofWord w = .posted ↔ w = 1 := by
  unfold Stage.ofWord
  split
  · next one => exact ⟨fun _ => one, fun _ => rfl⟩
  · next other =>
    refine ⟨fun h => ?_, fun h => absurd h other⟩
    split at h
    · cases h
    · split at h
      · cases h
      · split at h
        · cases h
        · split at h <;> cases h

/-- An attempt that ends on an invalid record: the fetch is given up, the copies read are taken, and the verdict follows. -/
theorem exec_invalid {s : State} {f : Fetch} {a : AttemptReads} {code : Nat} (dt : Nat) (lags : List Nat)
    (running : s.cache.fetch = some f) (reading : f.waitUntil = none) (ha : a = attemptReads s.mem f.writes f.job lags)
    (even : a.firstCount.toNat % 2 = 0) (equal : a.firstCount = a.secondCount)
    (invalid : badJob a.record (fun c => (a.stock.find? fun p => decide (p.1 = c)).map (·.2)) = some code) :
    ∃ v, exec (.fetchAttemptEnd dt lags) s = .next (v.verdict f.job code) ∧ v.now = s.now + dt ∧ v.cache.fetch = none ∧
      v.cache.entries[f.target] = CacheEntry.emptyEntry ∧
      (∀ e : Fin 16, e ≠ f.target → v.cache.entries[e] = s.cache.entries[e]) ∧ UnformattedWaiting f.target s v ∧
      (∀ c : Fin 64, v.cache.stock[c] =
        match a.stock.find? fun p => decide (p.1 = c.val) with
        | some p => some p.2
        | none => s.cache.stock[c]) ∧
      SameBut [.now, .cache, .gathering, .carousel] s v ∧ BytesBut [Header.occupancy] s v := by
  have run := exec_attemptEnd dt lags running reading
  have once := attemptReads_stock_nodup s.mem f.writes f.job lags
  rw [← ha] at run once
  obtain ⟨u, hu⟩ : ∃ u, u = (s.elapse dt).updCache (JobCache.takeStock a.stock) := ⟨_, rfl⟩
  have same : SameBut [.now, .cache] s u := hu ▸ (s.elapse_same dt).trans fun p hp => by
    cases p <;> simp [Part.same] at hp ⊢
  have mem : u.mem = s.mem := by rw [hu]; rfl
  have later : u.now = s.now + dt := by rw [hu]; rfl
  have entries : u.cache.entries = s.cache.entries := by rw [hu]; rfl
  have copies : ∀ c : Fin 64, u.cache.stock[c] =
      match a.stock.find? fun p => decide (p.1 = c.val) with
      | some p => some p.2
      | none => s.cache.stock[c] := fun c => by
    rw [hu]
    exact JobCache.takeStock_stock once s.cache c
  have whole : (s.elapse dt).endAttempt f a = (u.timeoutFetch f).verdict f.job code := by
    rw [State.endAttempt_completes even equal, State.completeFetch, ← hu, show badJob a.record (readCopy a.stock) = some code
      from invalid]
    rfl
  rw [whole] at run
  obtain ⟨fetch, entry, others, stock, -, waiting, kept, bytes⟩ := u.givenUp f
  rw [entries] at others
  exact ⟨_, run, (kept .now (by decide)).trans later, fetch, entry, others,
    waiting.congr (same .gathering (by decide)).symm (same .carousel (by decide)).symm rfl rfl,
    fun c => by rw [stock]; exact copies c, (same.trans kept).mono (by decide),
    ((BytesBut.of_mem (w := []) mem).trans bytes).mono fun _ h => h⟩

/-- The occupancy's word is no ticket's. -/
theorem ticket_of_occupancy {i : Nat} {s t : State} (bytes : BytesBut [Header.occupancy] s t) (f : TicketField) :
    t.mem.ticket i f = s.mem.ticket i f := by
  have low := ticketAddr_low i f
  exact bytes.word fun w hw => .inr (by rw [List.mem_singleton.mp hw]; exact le_trans (by decide) low)

/-- The verdict where no POSTED ticket of the job stands under the cursor. -/
theorem State.verdict_holds {s : State} {j : Nat} (code : Nat)
    (other : s.held s.sched.cursor ≠ none ∨ s.mem.ticket s.sched.cursor .stage ≠ 1 ∨ s.mem.ticket s.sched.cursor .request = 1 ∨
      (s.mem.ticket s.sched.cursor .job).toNat ≠ j) :
    s.verdict j code = (s.sched.held.map (·.index)).foldl (fun s i => s.stopForJob j i) s := by
  unfold State.verdict
  dsimp only
  rw [if_neg]
  rintro ⟨free, posted, standing, job⟩
  rcases other with held | stage | request | differs
  · exact held (Option.isNone_iff_eq_none.mp free)
  · exact stage ((Stage.ofWord_posted _).mp posted)
  · rw [Memory.cancelled, request] at standing
    exact absurd standing (by decide)
  · exact differs job

/-- The verdict where a POSTED ticket of the job stands under the cursor and no ticket is held. -/
theorem State.verdict_refuses {s : State} {j : Nat} (code : Nat) (none : s.sched.held = [])
    (posted : s.mem.ticket s.sched.cursor .stage = 1) (standing : s.mem.ticket s.sched.cursor .request ≠ 1)
    (job : (s.mem.ticket s.sched.cursor .job).toNat = j) : s.verdict j code = (s.refuse s.sched.cursor .badJob code).1 := by
  have free : (s.held s.sched.cursor).isNone = true := by rw [State.held, Schedule.find, none]; rfl
  unfold State.verdict
  dsimp only
  rw [none, if_pos ⟨free, (Stage.ofWord_posted _).mpr posted, decide_eq_false standing, job⟩]
  rfl

theorem iterate_cursor (n : Nat) {c : Nat} (table : c < 256) : (fun c => (c + 1) % 256)^[n] c = (c + n) % 256 := by
  induction n generalizing c with
  | zero => exact (Nat.mod_eq_of_lt table).symm
  | succ n ih =>
    rw [Function.iterate_succ_apply, ih (Nat.mod_lt _ (by decide))]
    omega

theorem HeldTicket.endsFor_of_stays {j : Nat} {x : HeldTicket} (stays : x.job = j → x.stop = .noStop → x.stays) :
    x.endsFor j = false := by
  refine decide_eq_false fun ⟨job, running, ends⟩ => ?_
  obtain ⟨short, flight⟩ := stays job running
  rcases ends with done | ⟨-, none, -⟩ <;> omega

/-! ### The job checks in numbers (R28) -/

theorem ascending_iff (lo : Nat) (l : List Nat) :
    ascending lo l = true ↔ l.Pairwise (· < ·) ∧ ∀ p ∈ l, lo < p ∧ p ≤ 16 := by
  induction l generalizing lo with
  | nil => simp [ascending]
  | cons p l ih =>
    simp only [ascending, Bool.and_eq_true, decide_eq_true_eq, ih, List.pairwise_cons, List.forall_mem_cons]
    constructor
    · rintro ⟨⟨first, low⟩, sorted, rest⟩
      exact ⟨⟨fun q hq => (rest q hq).1, sorted⟩, ⟨first, low⟩, fun q hq => ⟨by have := rest q hq; omega, (rest q hq).2⟩⟩
    · rintro ⟨⟨above, sorted⟩, ⟨first, low⟩, rest⟩
      exact ⟨⟨first, low⟩, sorted, fun q hq => ⟨above q hq, (rest q hq).2⟩⟩

theorem within_iff (lo hi x : Nat) : within lo hi x = true ↔ lo ≤ x ∧ x ≤ hi := by
  simp [within]

theorem trimOk_iff (x : Int) : trimOk x = true ↔ 2000 ≤ x ∧ x ≤ 20000 := by
  simp [trimOk]

theorem hasCover_iff (r : JobRecord) : r.hasCover = true ↔ r.coverMode = 1 ∨ r.coverMode = 2 := by
  simp [JobRecord.hasCover]

theorem stockOk_iff (stock : Nat → Option StockCopy) (c : Nat) :
    stockOk stock c = true ↔ c ≤ 63 ∧ ∃ x, stock c = some x ∧ x.defined = true := by
  unfold stockOk
  cases stock c <;> simp

/-- The sub-codes of the job checks, in order. -/
theorem jobChecks_codes (r : JobRecord) (stock : Nat → Option StockCopy) :
    (jobChecks r stock).map (·.1) = [2, 3, 4, 5, 6, 7, 8, 9, 10, 11] := rfl

/-- A job check passes exactly as R28 says; the thickness is the sum of R88 once the stock check has passed. -/
theorem jobCheck_iff {r : JobRecord} {stock : Nat → Option StockCopy} {c : Nat} {ok : Bool}
    (check : (c, ok) ∈ jobChecks r stock) (before : ∀ d, d < c → JobPasses r stock d) : ok = true ↔ JobPasses r stock c := by
  simp only [jobChecks, List.mem_cons, Prod.mk.injEq, List.not_mem_nil, or_false] at check
  rcases check with ⟨rfl, rfl⟩ | ⟨rfl, rfl⟩ | ⟨rfl, rfl⟩ | ⟨rfl, rfl⟩ | ⟨rfl, rfl⟩ | ⟨rfl, rfl⟩ | ⟨rfl, rfl⟩ | ⟨rfl, rfl⟩ |
    ⟨rfl, rfl⟩ | ⟨rfl, rfl⟩
  case inl => exact Iff.rfl
  case inr.inl => exact within_iff _ _ _
  case inr.inr.inl =>
    rw [ascending_iff, List.forall_mem_map]
    exact Iff.rfl
  case inr.inr.inr.inl =>
    simp only [List.all_eq_true, within_iff]
    exact Iff.rfl
  case inr.inr.inr.inr.inl =>
    simp only [List.all_eq_true, stockOk_iff]
    exact Iff.rfl
  case inr.inr.inr.inr.inr.inl =>
    have covered : r.coverMode ≤ 2 → (r.hasCover = true ↔ r.coverMode ≠ 0) := fun small => by
      rw [hasCover_iff]
      omega
    simp only [JobPasses, Bool.and_eq_true, Bool.or_eq_true, Bool.not_eq_true', decide_eq_true_eq]
    refine and_congr_right fun small => ?_
    rw [← covered small]
    cases r.hasCover <;> simp
  case inr.inr.inr.inr.inr.inr.inl =>
    simp only [JobPasses, Bool.and_eq_true, Bool.or_eq_true, Bool.not_eq_true', decide_eq_true_eq, within_iff, ← hasCover_iff]
    cases r.hasCover <;> simp [and_assoc]
  case inr.inr.inr.inr.inr.inr.inr.inl =>
    simp [JobPasses, within_iff, and_assoc]
  case inr.inr.inr.inr.inr.inr.inr.inr.inl =>
    simp only [JobPasses, Bool.and_eq_true, trimOk_iff]
    constructor
    · rintro ⟨⟨⟨a, b⟩, c, d⟩, e, f⟩
      exact ⟨a, b, by exact_mod_cast c, by exact_mod_cast d, e, f⟩
    · rintro ⟨a, b, c, d, e, f⟩
      exact ⟨⟨⟨a, b⟩, by exact_mod_cast c, by exact_mod_cast d⟩, e, f⟩
  case inr.inr.inr.inr.inr.inr.inr.inr.inr =>
    have known : ∀ g ∈ r.entries, (stock g.stock).isSome = true := fun g hg => by
      obtain ⟨-, c, hc, -⟩ := (before 6 (by decide) : ∀ g ∈ r.entries, g.stock ≤ 63 ∧ ∃ c, stock g.stock = some c ∧ c.defined = true) g hg
      rw [hc]
      rfl
    rw [within_iff, expectedThickness_eq known]
    exact Iff.rfl

/-- The first pair of an ascending list whose mark is off. -/
theorem find_first_failing {l : List (Nat × Bool)} (order : (l.map (·.1)).Pairwise (· < ·)) (code : Nat) :
    (l.find? fun c => !c.2).map (·.1) = some code ↔ (code, false) ∈ l ∧ ∀ c ok, (c, ok) ∈ l → c < code → ok = true := by
  induction l with
  | nil => simp
  | cons x l ih =>
    obtain ⟨n, ok⟩ := x
    rw [List.map_cons, List.pairwise_cons] at order
    have later : ∀ c b, (c, b) ∈ l → n < c := fun c b h => order.1 c (List.mem_map_of_mem (f := fun p : Nat × Bool => p.1) h)
    cases ok with
    | true =>
      rw [List.find?_cons_of_neg (by simp), ih order.2]
      constructor
      · rintro ⟨fails, passes⟩
        exact ⟨List.mem_cons_of_mem _ fails, fun c b h small => by
          rcases List.mem_cons.mp h with h | h
          · exact (Prod.mk.inj h).2
          · exact passes c b h small⟩
      · rintro ⟨fails, passes⟩
        refine ⟨(List.mem_cons.mp fails).resolve_left (fun h => by cases (Prod.mk.inj h).2), fun c b h => passes c b (List.mem_cons_of_mem _ h)⟩
    | false =>
      rw [List.find?_cons_of_pos (by simp)]
      constructor
      · intro h
        obtain rfl := Option.some.inj h
        refine ⟨List.mem_cons_self, fun c b h small => ?_⟩
        rcases List.mem_cons.mp h with h | h
        · rw [(Prod.mk.inj h).1] at small
          exact absurd small (lt_irrefl _)
        · exact absurd (later c b h) (by have : c < n := small; omega)
      · rintro ⟨fails, passes⟩
        rcases List.mem_cons.mp fails with h | h
        · exact congrArg some (Prod.mk.inj h).1.symm
        · exact absurd (passes n false List.mem_cons_self (later code false h)) (by decide)

/-- A sub-code without a check passes. -/
theorem jobPasses_of_unlisted {r : JobRecord} {stock : Nat → Option StockCopy} {c : Nat}
    (unlisted : ∀ ok, (c, ok) ∉ jobChecks r stock) : JobPasses r stock c := by
  have codes : c ∉ (jobChecks r stock).map (·.1) := fun h => by
    obtain ⟨⟨n, ok⟩, hm, rfl⟩ := List.mem_map.mp h
    exact unlisted ok hm
  rw [jobChecks_codes] at codes
  simp only [List.mem_cons, List.not_mem_nil, or_false, not_or] at codes
  obtain ⟨h2, h3, h4, h5, h6, h7, h8, h9, h10, h11⟩ := codes
  unfold JobPasses
  split <;> first | contradiction | trivial

theorem badJob_eq_some_iff (r : JobRecord) (stock : Nat → Option StockCopy) (code : Nat) :
    badJob r stock = some code ↔ ¬ JobPasses r stock code ∧ ∀ c, c < code → JobPasses r stock c := by
  rw [badJob, find_first_failing (by rw [jobChecks_codes]; decide)]
  constructor
  · rintro ⟨fails, passes⟩
    have all : ∀ c, c < code → JobPasses r stock c := fun c => by
      induction c using Nat.strong_induction_on with
      | _ c ih =>
        intro small
        by_cases listed : ∃ ok, (c, ok) ∈ jobChecks r stock
        · obtain ⟨ok, check⟩ := listed
          exact (jobCheck_iff check fun d hd => ih d hd (by omega)).mp (passes c ok check small)
        · exact jobPasses_of_unlisted fun ok h => listed ⟨ok, h⟩
    exact ⟨fun good => absurd ((jobCheck_iff fails all).mpr good) (by decide), all⟩
  · rintro ⟨bad, all⟩
    have listed : ∃ ok, (code, ok) ∈ jobChecks r stock := by
      by_contra none
      exact bad (jobPasses_of_unlisted fun ok h => none ⟨ok, h⟩)
    obtain ⟨ok, check⟩ := listed
    refine ⟨?_, fun c ok check small => (jobCheck_iff check fun d hd => all d (by omega)).mpr (all c small)⟩
    cases ok with
    | false => exact check
    | true => exact absurd ((jobCheck_iff check all).mp rfl) bad

theorem badJob_eq_none_iff (r : JobRecord) (stock : Nat → Option StockCopy) :
    badJob r stock = none ↔ ∀ c, JobPasses r stock c := by
  constructor
  · intro none c
    induction c using Nat.strong_induction_on with
    | _ c ih =>
      by_contra bad
      rw [(badJob_eq_some_iff r stock c).mpr ⟨bad, ih⟩] at none
      cases none
  · intro all
    cases h : badJob r stock with
    | none => rfl
    | some code => exact absurd (all code) ((badJob_eq_some_iff r stock code).mp h).1

/-- Settles O37: the verdict follows a fetch given up; a refused ticket and ended held tickets have their words. -/
theorem invalidRecordRefusesTicket : Obligations.InvalidRecordRefusesTicket := by
  refine ⟨fun s dt lags inv none f running reading filling a ha even equal posted standing job code invalid => ?_,
    fun s dt lags inv f running reading filling a ha even equal other stays code invalid => ?_,
    fun s dt lags inv table f running reading filling a ha even equal other code invalid ended ended_eq => ?_,
    fun r stock => ⟨badJob_eq_none_iff r stock, badJob_eq_some_iff r stock⟩⟩
  · obtain ⟨v, run, later, fetch, entry, others, waiting, stock, same, bytes⟩ :=
      exec_invalid dt lags running reading ha even equal invalid
    have sched : v.sched = s.sched := same .sched (by decide)
    have port : v.port = s.port := same .port (by decide)
    have ticket := fun i f => ticket_of_occupancy (i := i) bytes f
    rw [State.verdict_refuses code (by rw [sched]; exact none) (by rw [sched, ticket]; exact posted)
      (by rw [sched, ticket]; exact standing) (by rw [sched, ticket]; exact job)] at run
    obtain ⟨⟨stage, reason, defect, zeros, finish, noticed, cursor, word⟩, sched', port', same', bytes'⟩ :=
      v.refuse_effect v.sched.cursor .badJob code
    generalize (v.refuse v.sched.cursor .badJob code).1 = t at *
    rw [sched] at stage reason defect zeros finish cursor sched' bytes'
    rw [port] at finish port'
    have cache : t.cache = v.cache := same' .cache (by decide)
    refine ⟨t, run, (same' .now (by decide)).trans later, by rw [cache, fetch], by rw [cache]; exact entry,
      fun e he => by rw [cache]; exact others e he,
      waiting.congr rfl rfl (same' .gathering (by decide)) (same' .carousel (by decide)), fun c => by rw [cache]; exact stock c,
      stage, reason, defect, zeros, finish, noticed.of_counts (by rw [port]), cursor, word, sched', port',
      (same.trans same').mono (by decide), (bytes.trans bytes').mono fun _ h => h⟩
  · obtain ⟨v, run, later, fetch, entry, others, waiting, stock, same, bytes⟩ :=
      exec_invalid dt lags running reading ha even equal invalid
    have sched : v.sched = s.sched := same .sched (by decide)
    have port : v.port = s.port := same .port (by decide)
    have ticket := fun i f => ticket_of_occupancy (i := i) bytes f
    rw [State.verdict_holds code (by
      rw [sched, ticket, ticket, ticket, State.held_of_sched (congrArg Schedule.held sched)]
      exact other)] at run
    have done := v.verdictDone f.job [] v.sched.held rfl (by rw [sched]; exact inv.2.2)
    generalize (v.sched.held.map (·.index)).foldl (fun s i => s.stopForJob f.job i) v = t at *
    rw [sched] at done
    obtain ⟨held, -, -, cursor, sched', -, -, quiet, same', bytes'⟩ := done
    have goesOn : ∀ x ∈ s.sched.held, x.endsFor f.job = false := fun x hx => HeldTicket.endsFor_of_stays (stays x hx)
    have empty : s.sched.held.filter (HeldTicket.endsFor f.job) = [] :=
      List.filter_eq_nil_iff.mpr fun x hx => by rw [goesOn x hx]; decide
    have full : (s.sched.held.filter fun x => !x.endsFor f.job) = s.sched.held :=
      List.filter_eq_self.mpr fun x hx => by rw [goesOn x hx]; rfl
    rw [empty] at cursor bytes'
    rw [full, List.nil_append] at held
    have portAfter := quiet empty
    have cache : t.cache = v.cache := same' .cache (by decide)
    refine ⟨t, run, (same' .now (by decide)).trans later, by rw [cache, fetch], by rw [cache]; exact entry,
      fun e he => by rw [cache]; exact others e he,
      waiting.congr rfl rfl (same' .gathering (by decide)) (same' .carousel (by decide)), fun c => by rw [cache]; exact stock c, ?_,
      (same.trans same').sharpen fun p hp other => ?_, (bytes.trans bytes').mono fun _ h => h⟩
    · rw [sched', held, cursor, sched]
      rfl
    · have only : p = .port := by
        revert hp other
        cases p <;> decide
      subst only
      exact portAfter.trans port
  · obtain ⟨v, run, later, fetch, -, -, -, -, same, bytes⟩ :=
      exec_invalid dt lags running reading ha even equal invalid
    have sched : v.sched = s.sched := same .sched (by decide)
    have port : v.port = s.port := same .port (by decide)
    have ticket := fun i f => ticket_of_occupancy (i := i) bytes f
    rw [State.verdict_holds code (by
      rw [sched, ticket, ticket, ticket, State.held_of_sched (congrArg Schedule.held sched)]
      exact other)] at run
    have done := v.verdictDone f.job [] v.sched.held rfl (by rw [sched]; exact inv.2.2)
    generalize (v.sched.held.map (·.index)).foldl (fun s i => s.stopForJob f.job i) v = t at *
    rw [sched] at done
    obtain ⟨held, words, finish, cursor, sched', noticed, port', -, same', bytes'⟩ := done
    have list : s.sched.held.filter (HeldTicket.endsFor f.job) = ended := by rw [ended_eq]; rfl
    have goes : ∀ x ∈ s.sched.held, (x ∈ ended ↔ x.endsFor f.job = true) := fun x hx => by
      rw [← list, List.mem_filter]
      exact and_iff_right hx
    have left : (s.sched.held.filter fun x => decide (x ∉ ended)) = s.sched.held.filter fun x => !x.endsFor f.job :=
      List.filter_congr fun x hx => by
        rw [← Bool.decide_coe (!x.endsFor f.job)]
        exact decide_eq_decide.mpr (by rw [goes x hx]; simp)
    have sub : ∀ x ∈ ended, x ∈ s.sched.held := fun x hx => by
      rw [← list] at hx
      exact (List.mem_filter.mp hx).1
    rw [list] at cursor noticed bytes' finish
    rw [port] at finish port'
    rw [List.nil_append, ← left] at held
    have cache : t.cache = v.cache := same' .cache (by decide)
    refine ⟨t, run, (same' .now (by decide)).trans later, by rw [cache, fetch], held, fun x hx => ?_, ?_, sched'.trans (by rw [sched]),
      noticed.of_counts (by rw [port]), port', (same.trans same').mono (by decide), (bytes.trans bytes').mono fun a ha => ?_⟩
    · obtain ⟨stage, reason, made, short, spoiled⟩ := words x (sub x hx) ((goes x (sub x hx)).mp hx)
      refine ⟨?_, stage, reason, made, short, spoiled, fun one => finish x one⟩
      rw [State.held, Schedule.find, held]
      refine List.find?_eq_none.mpr fun u hu => ?_
      obtain ⟨y, hy, rfl⟩ := List.mem_map.mp hu
      obtain ⟨member, stayed⟩ := List.mem_filter.mp hy
      rw [HeldTicket.stoppedFor_index, decide_eq_true_eq]
      intro same
      have one : y = x := List.inj_on_of_nodup_map inv.2.2 member (sub x hx) same
      rw [one] at stayed
      exact of_decide_eq_true stayed hx
    · rw [cursor, sched, iterate_cursor _ table.2.1]
    · simp only [List.cons_append, List.nil_append, List.mem_cons, List.mem_flatMap] at ha ⊢
      rcases ha with rfl | ⟨x, hx, hw⟩
      · exact .inl rfl
      · rcases List.mem_append.mp hw with hw | hw
        · simp only [List.mem_cons, List.not_mem_nil, or_false] at hw
          exact .inr (hw.imp id .inl)
        · exact .inr (.inr (.inr ⟨x, hx, hw⟩))

end Sys2Proof.Machine
end

section
/-!
The launch of a book (R30, R58).
-/

namespace Sys2Proof.Machine

/-! ### The ticket of a launch (R30) -/

theorem HeldTicket.afterLaunch_eq (x : HeldTicket) (kind : BookKind) (serial : Word) :
    x.afterLaunch kind serial =
      { x with
        launched := x.launched + 1
        remade := if kind = .remake then x.remade + 1 else x.remade
        firstSerial := if x.launched = 0 then serial else x.firstSerial
        lastSerial := serial
        stage := if kind = .first ∧ (x.qty : Int) = x.launched + 1 - x.remade then .draining else x.stage } := by
  have last : kind = .first →
      (HeldTicket.unlaunched { x with
        launched := x.launched + 1
        remade := if kind = .remake then x.remade + 1 else x.remade
        firstSerial := if x.launched = 0 then serial else x.firstSerial
        lastSerial := serial } = 0 ↔ (x.qty : Int) = x.launched + 1 - x.remade) := fun first => by
    subst first
    simp only [HeldTicket.unlaunched, reduceCtorEq, if_false]
    push_cast
    omega
  unfold HeldTicket.afterLaunch
  dsimp only
  by_cases drains : kind = .first ∧ (x.qty : Int) = x.launched + 1 - x.remade
  · rw [if_pos ⟨drains.1, (last drains.1).mpr drains.2⟩, if_pos drains]
  · rw [if_neg fun k => drains ⟨k.1, (last k.1).mp k.2⟩, if_neg drains]

/-- The words that a launch can change in its ticket. -/
def launchedFields : List TicketField := [.launched, .remade, .firstSerial, .lastSerial, .stage]

theorem HeldTicket.changed_afterLaunch (x : HeldTicket) (kind : BookKind) (serial : Word) :
    ∀ f ∈ x.changed (x.afterLaunch kind serial), f ∈ launchedFields := by
  intro f hf
  have differs := (HeldTicket.mem_changed.mp hf).2
  rw [HeldTicket.afterLaunch_eq] at differs
  cases f <;> first | decide | exact absurd rfl differs

theorem HeldTicket.launched_changed (x : HeldTicket) (kind : BookKind) (serial : Word) :
    .launched ∈ x.changed (x.afterLaunch kind serial) :=
  HeldTicket.mem_changed.mpr ⟨by decide, by rw [HeldTicket.afterLaunch_eq]; exact ofNat32_succ_ne x.launched⟩

/-! ### The launch -/

theorem serialAfter_eq (w : Word) : serialAfter w = if w = 0xFFFFFFFF then 1 else w + 1 := rfl

/-- The book in the cell at chain position 0, and the next serial in its word. -/
def State.born (t : HeldTicket) (kind : BookKind) (format : FormatState) (e : Fin 16) (s : State) : State :=
  ((s.setCell 0 (.holding (newBook s t kind format e))).updSched fun c =>
    { c with nextSerial := serialAfter c.nextSerial }).putWord Header.nextSerial (serialAfter s.sched.nextSerial)

/-- A remake leaves the list. -/
def State.unlisted (kind : BookKind) (s : State) : State :=
  if kind = .remake then s.setRemakes s.sched.remakes.tail else s

/-- The entry takes a lock and the used mark. -/
def State.locked (e : Fin 16) (s : State) : State :=
  s.setEntry e { s.cache.entries[e] with locks := s.cache.entries[e].locks + 1, used := true }

theorem State.launch_eq (t : HeldTicket) (kind : BookKind) (format : FormatState) (e : Fin 16) (s : State) :
    s.launch t kind format e =
      (let u := (((s.born t kind format e).unlisted kind).locked e).changeTicket t (t.afterLaunch kind s.sched.nextSerial)
       if t.stage = .active ∧ (t.afterLaunch kind s.sched.nextSerial).stage = .draining then u.advanceCursor else u) := rfl

theorem State.born_effect (t : HeldTicket) (kind : BookKind) (format : FormatState) (e : Fin 16) (s : State) :
    (s.born t kind format e).cell 0 = .holding (newBook s t kind format e) ∧
      (∀ p : Fin 18, p ≠ 0 → (s.born t kind format e).cell p = s.cell p) ∧
      (s.born t kind format e).gathering.pockets = s.gathering.pockets ∧
      (s.born t kind format e).sched = { s.sched with nextSerial := serialAfter s.sched.nextSerial } ∧
      (s.born t kind format e).word Header.nextSerial = serialAfter s.sched.nextSerial ∧
      SameBut [.sched, .gathering] s (s.born t kind format e) ∧ BytesBut [Header.nextSerial] s (s.born t kind format e) := by
  obtain ⟨own, others, pockets, same, mem⟩ := s.setCell_effect 0 (.holding (newBook s t kind format e))
  unfold State.born
  generalize hv : s.setCell 0 (.holding (newBook s t kind format e)) = v at *
  have sched : v.sched = s.sched := same .sched (by decide)
  refine ⟨own, others, pockets, ?_, State.word_putWord_same _ _ _, ?_, ?_⟩
  · rw [← sched]
    rfl
  · refine (same.trans (w := [.sched]) fun p hp => ?_).mono (by decide)
    cases p <;> simp [Part.same] at hp ⊢
  · refine ((BytesBut.of_mem (w := []) mem).trans ((BytesBut.of_mem (w := []) rfl).trans (State.putWord_bytes _ _ _))).mono
      fun _ h => h

theorem State.unlisted_effect (kind : BookKind) (s : State) :
    (s.unlisted kind).sched = { s.sched with remakes := if kind = .remake then s.sched.remakes.tail else s.sched.remakes } ∧
      SameBut [.sched] s (s.unlisted kind) ∧ BytesBut [Header.remakeLength] s (s.unlisted kind) ∧
      (kind ≠ .remake → s.unlisted kind = s) := by
  unfold State.unlisted
  by_cases remake : kind = .remake
  · rw [if_pos remake, if_pos remake]
    exact ⟨(s.setRemakes_effect _).1, s.setRemakes_same _, (s.setRemakes_effect _).2, fun k => absurd remake k⟩
  · rw [if_neg remake, if_neg remake]
    exact ⟨rfl, SameBut.refl _ s, BytesBut.refl _ s, fun _ => rfl⟩

/-- What a launch makes of the card (R30, R58). -/
structure Launched (x : HeldTicket) (kind : BookKind) (format : FormatState) (e : Fin 16) (s t : State) : Prop where
  book : t.cell 0 = .holding (newBook s x kind format e)
  cells : ∀ p : Fin 18, p ≠ 0 → t.cell p = s.cell p
  pockets : t.gathering.pockets = s.gathering.pockets
  serialWord : t.word Header.nextSerial = t.sched.nextSerial
  listWord : kind = .remake → s.sched.remakes ≠ [] → t.word Header.remakeLength = BitVec.ofNat 32 s.sched.remakes.tail.length
  held : t.held x.index = some (x.afterLaunch kind s.sched.nextSerial)
  others : ∀ i, i ≠ x.index → t.held i = s.held i
  fields : ∀ f, t.mem.ticket x.index f =
    if f ∈ x.changed (x.afterLaunch kind s.sched.nextSerial) then (x.afterLaunch kind s.sched.nextSerial).value f
    else s.mem.ticket x.index f
  cursorWord : x.stage = .active → (x.afterLaunch kind s.sched.nextSerial).stage = .draining →
    t.word Header.cursor = BitVec.ofNat 32 t.sched.cursor
  sched : t.sched = { s.sched with
    held := t.sched.held
    nextSerial := serialAfter s.sched.nextSerial
    remakes := if kind = .remake then s.sched.remakes.tail else s.sched.remakes
    cursor :=
      if x.stage = .active ∧ (x.afterLaunch kind s.sched.nextSerial).stage = .draining then (s.sched.cursor + 1) % 256
      else s.sched.cursor }
  entry : t.cache.entries[e] = { s.cache.entries[e] with locks := s.cache.entries[e].locks + 1, used := true }
  entries : ∀ f : Fin 16, f ≠ e → t.cache.entries[f] = s.cache.entries[f]
  stock : t.cache.stock = s.cache.stock
  fetch : t.cache.fetch = s.cache.fetch
  same : SameBut [.sched, .cache, .gathering] s t
  bytes : BytesBut ((Header.nextSerial :: (if kind = .remake then [Header.remakeLength] else [])) ++
    Header.cursor :: launchedFields.map (ticketAddr x.index)) s t

theorem State.launched {x : HeldTicket} {s : State} (held : s.held x.index = some x) (kind : BookKind) (format : FormatState)
    (e : Fin 16) : Launched x kind format e s (s.launch x kind format e) := by
  obtain ⟨own, cells, pockets, schedB, serial, sameB, bytesB⟩ := s.born_effect x kind format e
  rw [State.launch_eq]
  generalize s.born x kind format e = b at *
  obtain ⟨schedU, sameU, bytesU, kept⟩ := b.unlisted_effect kind
  have length : kind = .remake → s.sched.remakes ≠ [] →
      (b.unlisted kind).word Header.remakeLength = BitVec.ofNat 32 s.sched.remakes.tail.length := fun remake some => by
    have list : b.sched.remakes = s.sched.remakes := by rw [schedB]
    rw [State.unlisted, if_pos remake, State.word_setRemakes, list]
    rw [list, List.length_tail]
    have := List.length_pos_iff.mpr some
    omega
  have bytesU' : BytesBut (if kind = .remake then [Header.remakeLength] else []) b (b.unlisted kind) := by
    split
    · exact bytesU
    · next other => rw [kept other]; exact BytesBut.refl _ b
  generalize b.unlisted kind = u at *
  have cacheU : u.cache = s.cache := (sameU .cache (by decide)).trans (sameB .cache (by decide))
  obtain ⟨entry, entries, stock, fetch, sameL, -⟩ := u.setEntry_effect e
    { u.cache.entries[e] with locks := u.cache.entries[e].locks + 1, used := true }
  have memL : (u.locked e).mem = u.mem := State.setEntry_mem rfl
  rw [← State.locked] at entry entries stock fetch sameL
  rw [cacheU] at entry entries stock fetch
  generalize u.locked e = l at *
  obtain ⟨y, hy⟩ : ∃ y, y = x.afterLaunch kind s.sched.nextSerial := ⟨_, rfl⟩
  have index : y.index = x.index := by rw [hy]; exact HeldTicket.afterLaunch_index _ _ _
  have schedL : l.sched = u.sched := sameL .sched (by decide)
  have heldL : ∀ i, l.held i = s.held i := State.held_of_sched (by rw [schedL, schedU, schedB])
  have put := (l.changeTicket_effect x y).1
  have sameT := l.changeTicket_same x y
  have fields := l.ticket_changeTicket x y
  have bytesT := l.changeTicket_bytes x y
  rw [← hy]
  generalize l.changeTicket x y = v at *
  rw [index] at fields bytesT
  have bytesV : BytesBut (launchedFields.map (ticketAddr x.index)) l v := bytesT.mono fun a ha => by
    obtain ⟨f, hf, rfl⟩ := List.mem_map.mp ha
    rw [hy] at hf
    exact List.mem_map_of_mem (HeldTicket.changed_afterLaunch _ _ _ f hf)
  obtain ⟨t, ht⟩ : ∃ t, t = if x.stage = .active ∧ y.stage = .draining then v.advanceCursor else v := ⟨_, rfl⟩
  have after : t.sched = { v.sched with
        cursor := if x.stage = .active ∧ y.stage = .draining then (v.sched.cursor + 1) % 256 else v.sched.cursor } ∧
      (x.stage = .active ∧ y.stage = .draining → t.word Header.cursor = BitVec.ofNat 32 t.sched.cursor) ∧
      SameBut [.sched] v t ∧ BytesBut [Header.cursor] v t := by
    rw [ht]
    by_cases moves : x.stage = .active ∧ y.stage = .draining
    · rw [if_pos moves, if_pos moves]
      exact ⟨rfl, fun _ => (v.setCursor_effect _).2.1, v.setCursor_sameBut _, (v.setCursor_effect _).2.2⟩
    · rw [if_neg moves, if_neg moves]
      exact ⟨rfl, fun k => absurd k moves, SameBut.refl _ v, BytesBut.refl _ v⟩
  obtain ⟨schedT, cursor, sameC, bytesC⟩ := after
  change Launched x kind format e s (if x.stage = .active ∧ y.stage = .draining then v.advanceCursor else v)
  rw [← ht]
  have gathering : t.gathering = b.gathering :=
    (((sameC .gathering (by decide)).trans (sameT .gathering (by decide))).trans (sameL .gathering (by decide))).trans
      (sameU .gathering (by decide))
  have cell : ∀ p, t.cell p = b.cell p := fun p => by rw [State.cell, State.cell, gathering]
  have cache : t.cache = l.cache := (sameC .cache (by decide)).trans (sameT .cache (by decide))
  have heldT : ∀ i, t.held i = v.held i := State.held_of_sched (by rw [schedT])
  have low : ∀ a, a + 4 ≤ 0x0200 → ∀ w ∈ launchedFields.map (ticketAddr x.index), a + 4 ≤ w ∨ w + 4 ≤ a := fun a ha w hw => by
    obtain ⟨f, -, rfl⟩ := List.mem_map.mp hw
    have := ticketAddr_low x.index f
    omega
  have header : ∀ a, a + 4 ≤ 0x0200 → a ≠ Header.cursor → a + 4 ≤ Header.cursor ∨ Header.cursor + 4 ≤ a →
      t.word a = u.word a := fun a ha _ apart => by
    rw [bytesC.word fun w hw => by rw [List.mem_singleton.mp hw]; exact apart, bytesV.word (low a ha), State.word, memL]
    rfl
  have above : ∀ f, t.mem.ticket x.index f = v.mem.ticket x.index f := fun f => bytesC.word fun w hw => by
    have := ticketAddr_low x.index f
    rw [List.mem_singleton.mp hw]
    exact .inr (le_trans (by decide) this)
  have before : ∀ f, l.mem.ticket x.index f = s.mem.ticket x.index f := fun f => by
    rw [memL]
    have := ticketAddr_low x.index f
    exact (bytesB.trans bytesU).word fun w hw => by
      have : w + 4 ≤ 0x0200 := by
        revert w
        decide
      omega
  refine
    { book := (cell 0).trans own
      cells := fun p hp => (cell p).trans (cells p hp)
      pockets := (congrArg Gathering.pockets gathering).trans pockets
      serialWord := ?_
      listWord := fun remake some => (header _ (by decide) (by decide) (by decide)).trans (length remake some)
      held := ?_
      others := fun i hi => ?_
      fields := fun f => by rw [above, fields, before, ← hy]
      cursorWord := fun active draining => cursor ⟨active, by rw [hy]; exact draining⟩
      sched := ?_
      entry := (congrArg (fun c : JobCache => c.entries[e]) cache).trans entry
      entries := fun f hf => (congrArg (fun c : JobCache => c.entries[f]) cache).trans (entries f hf)
      stock := (congrArg JobCache.stock cache).trans stock
      fetch := (congrArg JobCache.fetch cache).trans fetch
      same := ((((sameB.trans sameU).trans sameL).trans sameT).trans sameC).mono (by decide)
      bytes := ((((bytesB.trans bytesU').trans (BytesBut.of_mem (w := []) memL)).trans bytesV).trans bytesC).mono fun a ha => ?_ }
  · have schedN : t.sched.nextSerial = serialAfter s.sched.nextSerial := by
      rw [schedT, put, schedL, schedU, schedB]
      rfl
    rw [header _ (by decide) (by decide) (by decide), schedN, ← serial]
    exact bytesU.word fun w hw => by
      rw [List.mem_singleton.mp hw]
      decide
  · rw [heldT, State.held, put, ← hy, ← index]
    exact Schedule.find_put_same (x := x) (by rw [index]; exact (heldL _).trans held)
  · rw [heldT, State.held, put, Schedule.find_put_of_ne (by rw [index]; exact hi)]
    exact heldL i
  · rw [schedT, put, schedL, schedU, schedB, ← hy]
    rfl
  · simp only [List.mem_append, List.mem_cons, List.not_mem_nil, or_false] at ha ⊢
    tauto

theorem newBook_atLaunch (s : State) (x : HeldTicket) (kind : BookKind) (format : FormatState) (e : Fin 16) :
    (newBook s x kind format e).atLaunch =
      if format = .present then s.cache.entries[e].copy.map fun r => launchFormat r x.personal s.cache.stockPlace else none := by
  unfold newBook
  dsimp only
  generalize s.cache.entries[e].copy = copy
  cases format <;> cases copy <;> rfl

/-- Settles O20: the parts of the launch in its order. -/
theorem launchMakesABook : Obligations.LaunchMakesABook := by
  intro s x kind format e held t ht
  obtain ⟨book, cells, pockets, serialWord, -, heldNow, others, fields, cursorWord, sched, entry, entries, stock, fetch, same,
    bytes⟩ := State.launched held kind format e
  rw [ht] at book cells pockets serialWord heldNow others fields cursorWord sched entry entries stock fetch same bytes
  have stage : (x.afterLaunch kind s.sched.nextSerial).stage =
      if kind = .first ∧ (x.qty : Int) = x.launched + 1 - x.remade then .draining else x.stage := by
    rw [HeldTicket.afterLaunch_eq]
  refine ⟨?_, cells, pockets, by rw [sched]; rfl, serialWord, by rw [sched], by rw [sched], by rw [heldNow, HeldTicket.afterLaunch_eq],
    others, ?_, fun fresh => ?_, ?_, entry, entries, stock, fetch, same, bytes.mono fun a ha => ?_⟩
  · rw [book, ← newBook_atLaunch s x kind format e]
    rfl
  · rw [fields, if_pos (x.launched_changed _ _), HeldTicket.afterLaunch_eq]
    rfl
  · have changed : TicketField.lastSerial ∈ x.changed (x.afterLaunch kind s.sched.nextSerial) :=
      HeldTicket.mem_changed.mpr ⟨by decide, by rw [HeldTicket.afterLaunch_eq]; exact fresh⟩
    rw [fields, if_pos changed, HeldTicket.afterLaunch_eq]
    rfl
  · by_cases drains : kind = .first ∧ (x.qty : Int) = x.launched + 1 - x.remade ∧ x.stage = .active
    · have draining : (x.afterLaunch kind s.sched.nextSerial).stage = .draining := by
        rw [stage, if_pos ⟨drains.1, drains.2.1⟩]
      have changed : TicketField.stage ∈ x.changed (x.afterLaunch kind s.sched.nextSerial) :=
        HeldTicket.mem_changed.mpr ⟨by decide, by
          rw [HeldTicket.value, HeldTicket.value, draining, drains.2.2]
          decide⟩
      rw [if_pos drains]
      refine ⟨by rw [sched, if_pos ⟨drains.2.2, draining⟩], cursorWord drains.2.2 draining, ?_⟩
      rw [fields, if_pos changed, HeldTicket.value, draining]
      rfl
    · rw [if_neg drains, sched, if_neg]
      rintro ⟨active, draining⟩
      rw [stage] at draining
      split at draining
      · next last => exact drains ⟨last.1, last.2, active⟩
      · rw [active] at draining
        cases draining
  · simp only [List.cons_append, List.nil_append, List.mem_append, List.mem_cons] at ha ⊢
    rcases ha with rfl | h | rfl | h
    · exact .inl rfl
    · split at h
      · exact .inr (.inl (List.mem_singleton.mp h))
      · cases h
    · exact .inr (.inr (.inl rfl))
    · exact .inr (.inr (.inr h))

end Sys2Proof.Machine
end

section
/-!
The parts of a launch demand: the count that makes it, the fetch it may start, the hold checks, and what it leaves (R23, R29,
R31, R45, R46, R166).
-/

namespace Sys2Proof.Machine

/-! ### The start of a fetch (R45, R46) -/

theorem JobCache.lowest_eq_some_iff {c : JobCache} {p : CacheEntry → Bool} {e : Fin 16} :
    c.lowest p = some e ↔ p c.entries[e] = true ∧ ∀ f : Fin 16, f < e → p c.entries[f] = false := by
  rw [JobCache.lowest, List.find?_eq_some_iff_getElem]
  constructor
  · rintro ⟨hit, i, below, place, before⟩
    have own : e.val = i := by rw [← place]; simp
    refine ⟨hit, fun f hf => ?_⟩
    have := before f.val (own ▸ hf)
    simpa using this
  · rintro ⟨hit, before⟩
    refine ⟨hit, e.val, by simp, by simp, fun j hj => ?_⟩
    have := before ⟨j, hj.trans e.isLt⟩ hj
    simpa using this

theorem JobCache.lowest_eq_none_iff {c : JobCache} {p : CacheEntry → Bool} :
    c.lowest p = none ↔ ∀ e : Fin 16, p c.entries[e] = false := by
  rw [JobCache.lowest, List.find?_eq_none]
  simp

theorem JobCache.allLocked_iff (c : JobCache) : c.allLocked = true ↔ ∀ e : Fin 16, c.entries[e].locks ≠ 0 := by
  rw [JobCache.allLocked, List.all_eq_true]
  simp only [decide_eq_true_eq, Vector.mem_toList_iff, Vector.mem_iff_getElem]
  exact ⟨fun h e => h _ ⟨e.val, e.isLt, rfl⟩, fun h _ ⟨i, hi, same⟩ => same ▸ h ⟨i, hi⟩⟩

/-- The used marks as the choice of a target leaves them (R45). -/
def JobCache.usedAfterTarget (c : JobCache) (f : Fin 16) : CacheEntry :=
  if c.entries[f].locks = 0 ∧ ∀ g : Fin 16, c.entries[g].locks = 0 → c.entries[g].state ≠ .empty ∧ c.entries[g].used = true then
    { c.entries[f] with used := false }
  else c.entries[f]

theorem JobCache.target_free {c : JobCache} (free : ∃ e : Fin 16, c.entries[e].locks = 0) :
    ∃ e d, c.target = (some e, d) ∧ FetchTarget c e ∧ d.stock = c.stock ∧
      ∀ f : Fin 16, d.entries[f] = c.usedAfterTarget f := by
  unfold JobCache.target
  split
  · next e found =>
    obtain ⟨hit, before⟩ := JobCache.lowest_eq_some_iff.mp found
    simp only [Bool.and_eq_true, decide_eq_true_eq] at hit
    refine ⟨e, c, rfl, ⟨hit.1, ?_⟩, rfl, fun f => ?_⟩
    · rw [if_pos ⟨e, hit⟩]
      exact ⟨hit.2, fun f hf k => by have := before f hf; rw [k.1, k.2] at this; cases this⟩
    · exact (if_neg fun k => (k.2 e hit.1).1 hit.2).symm
  · next noEmpty =>
    have taken : ¬ ∃ f : Fin 16, c.entries[f].locks = 0 ∧ c.entries[f].state = .empty := fun ⟨f, h⟩ => by
      have := JobCache.lowest_eq_none_iff.mp noEmpty f
      rw [h.1, h.2] at this
      cases this
    split
    · next e found =>
      obtain ⟨hit, before⟩ := JobCache.lowest_eq_some_iff.mp found
      simp only [Bool.and_eq_true, decide_eq_true_eq, Bool.not_eq_true'] at hit
      refine ⟨e, c, rfl, ⟨hit.1, ?_⟩, rfl, fun f => ?_⟩
      · rw [if_neg taken, if_pos ⟨e, hit⟩]
        exact ⟨hit.2, fun f hf k => by have := before f hf; rw [k.1, k.2] at this; cases this⟩
      · exact (if_neg fun k => by rw [(k.2 e hit.1).2] at hit; cases hit.2).symm
    · next noFresh =>
      have used : ∀ f : Fin 16, c.entries[f].locks = 0 → c.entries[f].used = true := fun f hf => by
        have := JobCache.lowest_eq_none_iff.mp noFresh f
        rw [hf] at this
        simpa using this
      have locks : ∀ f : Fin 16, c.clearUsed.entries[f].locks = c.entries[f].locks := fun f => by rw [c.clearUsed_entry f]
      cases found : c.clearUsed.lowest fun x => decide (x.locks = 0) with
      | none =>
        obtain ⟨e, he⟩ := free
        have := JobCache.lowest_eq_none_iff.mp found e
        rw [locks e, he] at this
        cases this
      | some e =>
        obtain ⟨hit, before⟩ := JobCache.lowest_eq_some_iff.mp found
        refine ⟨e, c.clearUsed, rfl, ⟨(locks e).symm.trans (of_decide_eq_true hit), ?_⟩, rfl, fun f => ?_⟩
        · rw [if_neg taken, if_neg fun ⟨f, free, fresh⟩ => by rw [used f free] at fresh; cases fresh]
          exact fun f hf k => by
            have := before f hf
            rw [locks f, k] at this
            cases this
        · have all : ∀ g : Fin 16, c.entries[g].locks = 0 → c.entries[g].state ≠ .empty ∧ c.entries[g].used = true :=
            fun g hg => ⟨fun k => taken ⟨g, hg, k⟩, used g hg⟩
          rw [JobCache.usedAfterTarget, JobCache.clearUsed]
          simp only [Fin.getElem_fin, Vector.getElem_ofFn]
          exact if_congr ⟨fun k => ⟨k, all⟩, fun k => k.1⟩ rfl rfl

/-- An EMPTY entry taken raises the occupancy. -/
theorem JobCache.occupancy_taken {c : JobCache} {e : Fin 16} {x : CacheEntry} (empty : c.entries[e].state = .empty)
    (taken : x.state ≠ .empty) : ({ c with entries := c.entries.set e x } : JobCache).occupancy = c.occupancy + 1 := by
  have place : e.val < c.entries.toList.length := by simp
  have before : decide (c.entries[e].state ≠ .empty) = false := by rw [empty]; rfl
  have after : decide (x.state ≠ .empty) = true := decide_eq_true taken
  rw [JobCache.occupancy, JobCache.occupancy, ← List.countP_eq_length_filter, ← List.countP_eq_length_filter,
    Vector.toList_set, List.countP_set place, Vector.getElem_toList]
  change _ - (if decide (c.entries[e].state ≠ .empty) = true then 1 else 0) +
    (if decide (x.state ≠ .empty) = true then 1 else 0) = _
  rw [before, after]
  rfl

theorem State.startFetch_started {s : State} (free : ∃ e : Fin 16, s.cache.entries[e].locks = 0) (j : Nat) :
    FetchStarted j s (s.startFetch j) ∧ SameBut [.cache] s (s.startFetch j) ∧
      BytesBut [Header.occupancy] s (s.startFetch j) := by
  obtain ⟨e, d, target, chosen, stock, entries⟩ := JobCache.target_free free
  obtain ⟨c, hc⟩ : ∃ c : JobCache, c = { d with
    entries := d.entries.set e ⟨.filling, some j, none, 0, true, false⟩, fetch := some ⟨j, e, s.now, none, []⟩ } := ⟨_, rfl⟩
  have run : s.startFetch j = s.changeCache fun _ => c := by rw [State.startFetch, target, hc]
  obtain ⟨cache, same, bytes⟩ := s.changeCache_effect fun _ => c
  rw [run]
  have now : (s.changeCache fun _ => c).now = s.now := same .now (by decide)
  refine ⟨⟨e, chosen, ?_, ?_, fun f hf => ?_, ?_, fun empty => ?_⟩, same, bytes⟩
  · rw [cache, now, hc]
  · rw [cache, hc]
    simp
  · rw [cache, hc]
    have : e.val ≠ f.val := fun k => hf (Fin.ext k.symm)
    have other : (d.entries.set e ⟨.filling, some j, none, 0, true, false⟩)[f] = d.entries[f] := by simp [this]
    exact other.trans (entries f)
  · rw [cache, hc]
    exact stock
  · have states : ∀ f : Fin 16, d.entries[f].state = s.cache.entries[f].state := fun f => by
      rw [entries f, JobCache.usedAfterTarget]
      split <;> rfl
    have counted : d.occupancy = s.cache.occupancy := by
      rw [JobCache.occupancy_eq, JobCache.occupancy_eq]
      simp only [states]
    have grown : c.occupancy = s.cache.occupancy + 1 := by
      rw [hc, ← counted]
      exact JobCache.occupancy_taken ((states e).trans empty) (by simp)
    have written : (s.changeCache fun _ => c) = (s.updCache fun _ => c).putNat Header.occupancy c.occupancy :=
      if_neg (by rw [State.updCache_cache, grown]; omega)
    rw [cache, ← JobCache.occupancy_eq, written]
    exact State.word_putWord_same _ _ _

/-! ### The count at which the demand falls (R7, R12) -/

/-- A card at its launch demand: the time, the Phase unit and the stations of the count. -/
def State.atDemand (dt : Nat) (p : PhaseUnit) (x : Stations) (s : State) : State :=
  { s with now := s.now + dt, phase := p, stations := x }

theorem State.atDemand_same (dt : Nat) (p : PhaseUnit) (x : Stations) (s : State) :
    SameBut [.now, .phase, .stations] s (s.atDemand dt p x) := fun q hq => by
  cases q <;> simp [Part.same, State.atDemand] at hq ⊢

/-- A forward count whose one event is the LAUNCH start. -/
theorem exec_forward_launch {s : State} (only : OnlyEvent (.opens .launch) s) (dt : Nat) (io : CountInputs) :
    ∃ p, exec (.forwardEncoderCount dt io) s = .next (s.atDemand dt p
      (if s.line.mode.acting then { s.stations with engaged := .launch :: s.stations.engaged } else s.stations)).launchDemand := by
  have line : (s.counting dt).line = s.line := s.counting_same dt .line (by decide)
  have work : ∀ u : State, u.startWork .launch io = u := fun _ => rfl
  refine ⟨((s.counting dt).starting .launch).phase, (exec_forward_only only dt io).trans (congrArg Host.Outcome.next ?_)⟩
  refine (State.windowStart_eq .launch io _).trans ?_
  rw [work, ite_self, State.opened, line]
  dsimp only
  rw [if_pos (show Window.launch = .launch from rfl), if_neg (show ¬ Window.launch = .pocket by decide)]
  congr 1
  cases s.line.mode.acting <;> rfl

/-! ### The end of a demand (R23, R31, R166) -/

/-- The hold reason kept and written, the idle count taken on. -/
def State.decided (hold : HoldReason) (s : State) : State := (s.setHold hold).updLine (countIdle hold)

theorem State.setHold_effect (hold : HoldReason) (s : State) :
    (s.setHold hold).sched = { s.sched with hold := hold } ∧
      (s.setHold hold).word Header.hold = BitVec.ofNat 32 hold.number ∧ SameBut [.sched] s (s.setHold hold) ∧
      BytesBut [Header.hold] s (s.setHold hold) :=
  ⟨rfl, State.word_putWord_same _ _ _, fun p hp => (by cases p <;> simp [Part.same, State.setHold] at hp ⊢),
    (BytesBut.of_mem (w := []) (s := s) rfl).trans (State.putWord_bytes _ _ _)⟩

/-- What the end of a demand makes of the card that the decision has left. -/
structure Decided (hold : HoldReason) (u t : State) : Prop where
  sched : t.sched = { u.sched with hold := hold }
  word : t.word Header.hold = BitVec.ofNat 32 hold.number
  line : t.line = countIdle hold u.line
  same : SameBut [.sched, .line] u t
  bytes : BytesBut [Header.hold] u t

theorem State.decided_decided (hold : HoldReason) (u : State) : Decided hold u (u.decided hold) := by
  obtain ⟨sched, word, same, bytes⟩ := u.setHold_effect hold
  have line : (u.setHold hold).line = u.line := same .line (by decide)
  exact
    { sched := sched
      word := word
      line := congrArg (countIdle hold) line
      same := same.trans (SameBut.updLine _ _)
      bytes := (bytes.trans (BytesBut.of_mem (w := []) rfl)).mono (by simp) }

theorem State.launchDemand_running {s u : State} {hold : HoldReason} (running : s.line.mode = .running)
    (decision : s.decision = (u, hold)) : s.launchDemand = (u.decided hold).prefetch := by
  rw [State.launchDemand, if_pos running, decision]
  rfl

theorem State.prefetch_busy {s : State} (busy : s.cache.fetch.isSome = true) : s.prefetch = s := by
  unfold State.prefetch
  split
  · rfl
  · rw [if_neg (by rw [Option.isNone_eq_false_iff.mpr busy]; simp)]

theorem State.prefetch_locked {s : State} (locked : ∀ e : Fin 16, s.cache.entries[e].locks ≠ 0) : s.prefetch = s := by
  unfold State.prefetch
  split
  · rfl
  · rw [if_neg (by rw [(JobCache.allLocked_iff _).mpr locked]; simp)]

/-! ### The hold checks (R29) -/

theorem pocketStarved_iff (pockets : Vector Pocket 16) (n : Nat) :
    pocketStarved pockets n = true ↔ ∃ k : Fin 16, n = k.val + 1 ∧ pockets[k].starved = true := by
  unfold pocketStarved
  constructor
  · intro h
    split at h
    · next p found =>
      obtain ⟨below, place⟩ := Vector.getElem?_eq_some_iff.mp found
      rw [Bool.and_eq_true, decide_eq_true_eq] at h
      exact ⟨⟨n - 1, below⟩, by dsimp only; omega, by rw [← h.2, ← place]; rfl⟩
    · cases h
  · rintro ⟨k, rfl, starved⟩
    have found : pockets[k.val + 1 - 1]? = some pockets[k] := by simp
    rw [found]
    simpa using starved

theorem JobRecord.hasCover_iff (r : JobRecord) : r.hasCover = true ↔ r.coverMode = 1 ∨ r.coverMode = 2 := by
  simp [JobRecord.hasCover]

theorem State.starved_iff (r : JobRecord) (s : State) :
    (r.entries.any fun g => pocketStarved s.gathering.pockets g.pocket) = true ↔
      ∃ g ∈ r.entries, ∃ k : Fin 16, g.pocket = k.val + 1 ∧ s.gathering.pockets[k].starved = true := by
  rw [List.any_eq_true]
  simp only [pocketStarved_iff]

/-- No hold check applies to a launch on a job copy. -/
theorem State.holdCheck_none {r : JobRecord} {s : State} (clear : NoHold r s) : s.holdCheck (some r) = none := by
  obtain ⟨pockets, covers, band, cell⟩ := clear
  have fed : (r.entries.any fun g => pocketStarved s.gathering.pockets g.pocket) = false := by
    refine Bool.eq_false_iff.mpr fun h => ?_
    obtain ⟨g, hg, k, place, starved⟩ := (s.starved_iff r).mp h
    rw [pockets g hg k place] at starved
    cases starved
  have covered : (r.hasCover && s.magazineEmpty r.mag) = false := by
    refine Bool.eq_false_iff.mpr fun h => ?_
    obtain ⟨cover, empty⟩ := (Bool.and_eq_true _ _).mp h
    have full : s.magazineEmpty r.mag = false := covers (r.hasCover_iff.mp cover)
    rw [full] at empty
    cases empty
  unfold State.holdCheck
  simp [fed, covered, band, cell]

theorem State.holdCheck_pending {s : State} (band : s.pot.inBand = true) (cell : s.cell 0 = .empty) :
    s.holdCheck none = none := by
  unfold State.holdCheck
  simp [band, cell]

theorem holdApplies_iff (r : JobRecord) (hold : HoldReason) (s : State) :
    HoldApplies r hold s ↔
      (if ∃ g ∈ r.entries, ∃ k : Fin 16, g.pocket = k.val + 1 ∧ s.gathering.pockets[k].starved = true then
        hold = .pocketStarved
      else if (r.hasCover && s.magazineEmpty r.mag) = true then hold = .magazineEmpty
      else if s.pot.inBand = false then hold = .glueTemp
      else s.cell 0 = .unknown ∧ hold = .cellUnknown) := by
  have covers := Bool.and_eq_true_iff (x := r.hasCover) (y := s.magazineEmpty r.mag)
  rw [r.hasCover_iff] at covers
  exact Iff.of_eq (if_congr Iff.rfl rfl (if_congr covers.symm rfl rfl))

/-- The first hold check that applies to a launch on a job copy. -/
theorem State.holdCheck_some {r : JobRecord} {hold : HoldReason} {s : State} (applies : HoldApplies r hold s) :
    s.holdCheck (some r) = some hold := by
  rw [holdApplies_iff] at applies
  unfold State.holdCheck
  dsimp only
  split at applies
  · next starved => rw [if_pos ((s.starved_iff r).mpr starved), applies]
  · next fed =>
    rw [if_neg fun h => fed ((s.starved_iff r).mp h)]
    split at applies
    · next empty => rw [if_pos empty, applies]
    · next full =>
      rw [if_neg full]
      split at applies
      · next out => rw [out, applies]; rfl
      · next band =>
        rw [Bool.not_eq_false _ |>.mp band, if_neg (by decide), if_pos (by rw [applies.1]; decide), applies.2]

theorem State.holdOrLaunch_launches {i : Nat} {x : HeldTicket} {kind : BookKind} {format : FormatState} {e : Fin 16} {s : State}
    (held : s.held i = some x)
    (clear : s.holdCheck (match format with | .present => s.cache.entries[e].copy | _ => none) = none) :
    s.holdOrLaunch i kind format e = (s.launch x kind format e, .launched) := by
  unfold State.holdOrLaunch
  dsimp only
  rw [held]
  cases format <;> simp_all

theorem State.holdOrLaunch_holds {i : Nat} {kind : BookKind} {e : Fin 16} {s : State} {hold : HoldReason}
    (applies : s.holdCheck s.cache.entries[e].copy = some hold) : s.holdOrLaunch i kind .present e = (s, hold) := by
  unfold State.holdOrLaunch
  dsimp only
  rw [applies]

end Sys2Proof.Machine
end

section
/-!
The decision of a launch demand: the candidates, the lookups, and what a launch or a gap leaves (R23 to R31).
-/

namespace Sys2Proof.Machine

/-! ### Consults that change nothing (R36) -/

theorem State.consult_standing {i : Nat} {x : HeldTicket} {s : State} (held : s.held i = some x)
    (standing : s.mem.cancelled i = false) (k : Nat) : (s.consult i).held k = s.held k := by
  obtain ⟨own, others, -⟩ := s.consult_effect i
  by_cases same : k = i
  · rw [same, own, held, standing, Option.map_some, HeldTicket.consulted_of_standing]
  · exact others k same

theorem State.consult_unheld {i : Nat} {s : State} (free : s.held i = none) : s.consult i = s := by
  rw [State.consult, free]

/-- A consult that leaves its ticket as it is leaves the state, no ticket being held twice. -/
theorem State.consult_fixed {i : Nat} {s : State} (once : (s.sched.held.map (·.index)).Nodup)
    (fixed : ∀ x, s.held i = some x → x.consulted (s.mem.cancelled i) = x) : s.consult i = s := by
  cases held : s.held i with
  | none => exact State.consult_unheld held
  | some x =>
    obtain ⟨p, l, split⟩ := List.append_of_mem (List.mem_of_find?_eq_some held)
    have put : s.updSched (Schedule.put x) = s.updSched fun c => { c with held := s.sched.held } := by
      unfold State.updSched Schedule.put
      rw [split, Schedule.put_split rfl (by rw [← split]; exact once)]
    rw [State.consult, held]
    dsimp only
    rw [fixed x held, put]
    rfl

/-! ### The candidates (R23 to R25) -/

theorem State.decision_full {s : State} (full : s.config.settings.highMark ≤ s.trim.queue.length) :
    s.decision = (s, .noRoom) := by
  rw [State.decision, if_pos full]

theorem State.decision_cursor {s : State} (room : s.trim.queue.length < s.config.settings.highMark)
    (none : s.sched.remakes = []) : s.decision = s.cursorCandidate := by
  rw [State.decision, if_neg (by omega), none]

theorem State.decision_remake {s : State} (room : s.trim.queue.length < s.config.settings.highMark) {i : Nat} {rest : List Nat}
    (list : s.sched.remakes = i :: rest) : s.decision = s.remakeCandidate i := by
  rw [State.decision, if_neg (by omega), list]

theorem State.remakeCandidate_runs {i : Nat} {x : HeldTicket} {s : State} (held : s.held i = some x) (running : x.stop = .noStop)
    (standing : s.mem.cancelled i = false) : s.remakeCandidate i = (s.consult i).heldLookup x .remake := by
  unfold State.remakeCandidate
  dsimp only
  rw [State.consult_standing held standing, held]
  dsimp only
  rw [if_neg (by simp [HeldTicket.stopped, running])]

theorem State.cursorCandidate_runs {x : HeldTicket} {s : State} (held : s.held s.sched.cursor = some x)
    (active : x.stage = .active) (running : x.stop = .noStop) (standing : s.mem.cancelled s.sched.cursor = false) :
    s.cursorCandidate = (s.consult s.sched.cursor).heldLookup x .first := by
  unfold State.cursorCandidate
  dsimp only
  rw [State.consult_standing held standing, held]
  dsimp only
  rw [active]
  dsimp only
  rw [if_neg (by simp [HeldTicket.stopped, running])]

theorem State.cursorCandidate_posted {s : State} (free : s.held s.sched.cursor = none)
    (posted : s.mem.ticket s.sched.cursor .stage = 1) :
    s.cursorCandidate =
      if s.mem.cancelled s.sched.cursor then s.refuse s.sched.cursor .cancelled 0 else s.postedLookup s.sched.cursor := by
  unfold State.cursorCandidate
  dsimp only
  rw [State.consult_unheld free, free]
  dsimp only
  rw [(Stage.ofWord_posted _).mpr posted]

/-- Under the cursor stands nothing that can be launched from. -/
theorem State.cursorCandidate_idle {s : State} (once : (s.sched.held.map (·.index)).Nodup)
    (idle : (∃ x, s.held s.sched.cursor = some x ∧ x.stage = .draining ∧
        (x.stop ≠ .noStop ∨ s.mem.cancelled s.sched.cursor = false)) ∨
      (s.held s.sched.cursor = none ∧ s.mem.ticket s.sched.cursor .stage ≠ 1)) : s.cursorCandidate = (s, .noWork) := by
  unfold State.cursorCandidate
  dsimp only
  rcases idle with ⟨x, held, draining, marked⟩ | ⟨free, other⟩
  · have fixed : s.consult s.sched.cursor = s := State.consult_fixed once fun y hy => by
      rw [held, Option.some_inj] at hy
      rw [← hy, HeldTicket.consulted_eq, if_neg]
      rintro ⟨cancelled, running⟩
      rcases marked with stopped | standing
      · exact stopped running
      · rw [standing] at cancelled
        cases cancelled
    rw [fixed, held]
    dsimp only
    rw [draining]
    dsimp only
    rw [if_pos rfl]
  · rw [State.consult_unheld free, free]
    dsimp only
    cases stage : Stage.ofWord (s.mem.ticket s.sched.cursor .stage) with
    | posted => exact absurd ((Stage.ofWord_posted _).mp stage) other
    | free => rfl
    | active => rfl
    | draining => rfl
    | done => rfl
    | failed => rfl

/-! ### The lookups (R26, R27) -/

theorem State.heldLookup_found {x : HeldTicket} {kind : BookKind} {e : Fin 16} {s : State} (found : s.cache.lookup x.job = some e) :
    s.heldLookup x kind = s.holdOrLaunch x.index kind .present e := by
  rw [State.heldLookup, found]

theorem State.heldLookup_fetched {x : HeldTicket} {kind : BookKind} {f : Fetch} {s : State} (missing : s.cache.lookup x.job = none)
    (fetching : s.cache.fetch = some f) (job : f.job = x.job) (personal : x.mode ≠ .personal) :
    s.heldLookup x kind = s.holdOrLaunch x.index kind .pending f.target := by
  rw [State.heldLookup, missing]
  dsimp only
  rw [fetching]
  dsimp only
  rw [if_pos job, State.provisional, if_neg personal, fetching]

theorem State.heldLookup_misses {x : HeldTicket} {kind : BookKind} {f : Fetch} {s : State} (missing : s.cache.lookup x.job = none)
    (fetching : s.cache.fetch = some f) (other : f.job = x.job ∧ x.mode = .personal ∨ f.job ≠ x.job) :
    s.heldLookup x kind =
      (s, if f.job ≠ x.job ∧ ∀ e : Fin 16, s.cache.entries[e].locks ≠ 0 then .cacheLocked else .cacheMiss) := by
  rw [State.heldLookup, missing]
  dsimp only
  rw [fetching]
  dsimp only
  by_cases job : f.job = x.job
  · rw [if_pos job, State.provisional, if_pos (other.resolve_right fun k => k job).2, if_neg fun k => k.1 job]
  · rw [if_neg job]
    by_cases locked : ∀ e : Fin 16, s.cache.entries[e].locks ≠ 0
    · rw [if_pos ((JobCache.allLocked_iff _).mpr locked), if_pos ⟨job, locked⟩]
    · rw [if_neg fun k => locked ((JobCache.allLocked_iff _).mp k), if_neg fun k => locked k.2]

theorem State.heldLookup_starts {x : HeldTicket} {kind : BookKind} {s : State} (missing : s.cache.lookup x.job = none)
    (idle : s.cache.fetch = none) (free : ∃ e : Fin 16, s.cache.entries[e].locks = 0) :
    s.heldLookup x kind = (s.startFetch x.job).provisional x kind := by
  rw [State.heldLookup, missing]
  dsimp only
  rw [idle]
  dsimp only
  obtain ⟨e, he⟩ := free
  rw [if_neg fun k => (JobCache.allLocked_iff _).mp k e he]

/-! ### A gap (R23, R166) -/

theorem ticket_of_header {ws : List Nat} {s t : State} (low : ∀ w ∈ ws, w + 4 ≤ 0x0200) (bytes : BytesBut ws s t) (i : Nat)
    (f : TicketField) : t.mem.ticket i f = s.mem.ticket i f :=
  bytes.word fun w hw => .inr ((low w hw).trans (ticketAddr_low i f))

/-- A demand in RUNNING after which nothing is fetched ahead. -/
theorem exec_launch_decided {s : State} (only : OnlyEvent (.opens .launch) s) (running : s.line.mode = .running) (dt : Nat)
    (io : CountInputs) :
    ∃ p, ∀ u hold,
      (s.atDemand dt p { s.stations with engaged := .launch :: s.stations.engaged }).decision = (u, hold) →
      u.cache.fetch.isSome = true ∨ (∀ e : Fin 16, u.cache.entries[e].locks ≠ 0) →
      exec (.forwardEncoderCount dt io) s = .next (u.decided hold) := by
  obtain ⟨p, run⟩ := exec_forward_launch only dt io
  have acting : s.line.mode.acting = true := by rw [running]; rfl
  rw [acting, if_pos rfl] at run
  refine ⟨p, fun u hold decision rest => run.trans (congrArg Host.Outcome.next ?_)⟩
  have cache : (u.decided hold).cache = u.cache := (u.decided_decided hold).same .cache (by decide)
  have mode : (s.atDemand dt p { s.stations with engaged := .launch :: s.stations.engaged }).line.mode = .running := running
  rw [State.launchDemand_running mode decision]
  rcases rest with busy | locked
  · exact State.prefetch_busy (by rw [cache]; exact busy)
  · exact State.prefetch_locked (by rw [cache]; exact locked)

/-- What a decision without a launch makes of the line and the stations. -/
theorem Decided.gap {hold : HoldReason} {s u t : State} {dt : Nat} {p : PhaseUnit} {ps : List Part} (done : Decided hold u t)
    (gap : hold ≠ .launched)
    (same : SameBut ps (s.atDemand dt p { s.stations with engaged := .launch :: s.stations.engaged }) u)
    (apart : ∀ q ∈ ps, q ∉ [Part.now, .phase, .stations, .line]) :
    Later dt s t ∧ GapTaken hold s t ∧ SameBut ([.now, .phase, .stations] ++ ps ++ [.sched, .line]) s t := by
  have kept : ∀ q ∈ [Part.now, .phase, .stations, .line], q ∉ ps := fun q hq hp => apart q hp hq
  obtain ⟨sched, word, line, sameDone, -⟩ := done
  have lineU : u.line = s.line := same .line (kept _ (by decide))
  refine ⟨(sameDone .now (by decide)).trans (same .now (kept _ (by decide))), ⟨by rw [sched], word, ?_, ?_⟩,
    ((s.atDemand_same dt p _).trans same).trans sameDone⟩
  · rw [line, lineU, countIdle, if_neg gap]
  · exact (sameDone .stations (by decide)).trans (same .stations (kept _ (by decide)))

/-! ### A launch (R30) -/

/-- What a demand that launches makes of the card it launches in. -/
structure LaunchTaken (x : HeldTicket) (kind : BookKind) (format : FormatState) (e : Fin 16) (b t : State) : Prop where
  book : t.cell 0 = .holding (newBook b x kind format e)
  cells : ∀ p : Fin 18, p ≠ 0 → t.cell p = b.cell p
  pockets : t.gathering.pockets = b.gathering.pockets
  listWord : kind = .remake → b.sched.remakes ≠ [] → t.word Header.remakeLength = BitVec.ofNat 32 b.sched.remakes.tail.length
  held : t.held x.index = some (x.afterLaunch kind b.sched.nextSerial)
  others : ∀ i, i ≠ x.index → t.held i = b.held i
  fields : ∀ f, t.mem.ticket x.index f =
    if f ∈ x.changed (x.afterLaunch kind b.sched.nextSerial) then (x.afterLaunch kind b.sched.nextSerial).value f
    else b.mem.ticket x.index f
  remakes : t.sched.remakes = if kind = .remake then b.sched.remakes.tail else b.sched.remakes
  cursor : t.sched.cursor =
    if x.stage = .active ∧ (x.afterLaunch kind b.sched.nextSerial).stage = .draining then (b.sched.cursor + 1) % 256
    else b.sched.cursor
  hold : t.sched.hold = .launched
  word : t.word Header.hold = 0
  line : t.line = { b.line with idle := 0 }
  entry : t.cache.entries[e] = { b.cache.entries[e] with locks := b.cache.entries[e].locks + 1, used := true }
  entries : ∀ f : Fin 16, f ≠ e → t.cache.entries[f] = b.cache.entries[f]
  fetch : t.cache.fetch = b.cache.fetch
  same : SameBut [.sched, .cache, .gathering, .line] b t
  bytes : BytesBut ((Header.nextSerial :: (if kind = .remake then [Header.remakeLength] else [])) ++
    [Header.cursor, Header.hold] ++ launchedFields.map (ticketAddr x.index)) b t

theorem State.launchTaken {x : HeldTicket} {b : State} (held : b.held x.index = some x) (kind : BookKind) (format : FormatState)
    (e : Fin 16) : LaunchTaken x kind format e b ((b.launch x kind format e).decided .launched) := by
  have launched := State.launched held kind format e
  generalize b.launch x kind format e = u at *
  obtain ⟨sched, word, line, same, bytes⟩ := u.decided_decided .launched
  generalize u.decided .launched = t at *
  have cache : t.cache = u.cache := same .cache (by decide)
  have gathering : t.gathering = u.gathering := same .gathering (by decide)
  have cell : ∀ p, t.cell p = u.cell p := fun p => by rw [State.cell, State.cell, gathering]
  have holds : ∀ i, t.held i = u.held i := State.held_of_sched (by rw [sched])
  have lineU : u.line = b.line := launched.same .line (by decide)
  exact
    { book := (cell 0).trans launched.book
      cells := fun p hp => (cell p).trans (launched.cells p hp)
      pockets := (congrArg Gathering.pockets gathering).trans launched.pockets
      listWord := fun remake some => (bytes.word (by decide)).trans (launched.listWord remake some)
      held := (holds _).trans launched.held
      others := fun i hi => (holds i).trans (launched.others i hi)
      fields := fun f => (ticket_of_header (by decide) bytes x.index f).trans (launched.fields f)
      remakes := by rw [sched, launched.sched]
      cursor := by rw [sched, launched.sched]
      hold := by rw [sched]
      word := word
      line := by rw [line, lineU]; rfl
      entry := (congrArg (fun c : JobCache => c.entries[e]) cache).trans launched.entry
      entries := fun f hf => (congrArg (fun c : JobCache => c.entries[f]) cache).trans (launched.entries f hf)
      fetch := (congrArg JobCache.fetch cache).trans launched.fetch
      same := (launched.same.trans same).mono (by decide)
      bytes := (launched.bytes.trans bytes).mono fun a ha => by
        simp only [List.mem_append, List.mem_cons, List.not_mem_nil, or_false] at ha ⊢
        tauto }

/-! ### From the card at its demand to the card before the count -/

/-- The card at its demand with LAUNCH engaged. -/
def State.demanded (dt : Nat) (p : PhaseUnit) (s : State) : State :=
  s.atDemand dt p { s.stations with engaged := .launch :: s.stations.engaged }

theorem State.demanded_same (dt : Nat) (p : PhaseUnit) (s : State) : SameBut [.now, .phase, .stations] s (s.demanded dt p) :=
  s.atDemand_same dt p _

/-- What a demand that launches makes of the time and the line. -/
theorem LaunchTaken.after {x : HeldTicket} {kind : BookKind} {format : FormatState} {e : Fin 16} {s b t : State} {dt : Nat}
    {p : PhaseUnit} {ps : List Part} (taken : LaunchTaken x kind format e b t) (same : SameBut ps (s.demanded dt p) b)
    (apart : ∀ q ∈ ps, q ∉ [Part.now, .line]) :
    Later dt s t ∧ t.line = { s.line with idle := 0 } ∧
      SameBut ([.now, .phase, .stations] ++ ps ++ [.sched, .cache, .gathering, .line]) s t := by
  have now : b.now = s.now + dt := same .now fun h => apart _ h (by decide)
  have line : b.line = s.line := same .line fun h => apart _ h (by decide)
  refine ⟨(taken.same .now (by decide)).trans now, ?_, ((s.demanded_same dt p).trans same).trans taken.same⟩
  rw [taken.line, line]

theorem newBook_congr {s b : State} (serial : b.sched.nextSerial = s.sched.nextSerial) (cache : b.cache = s.cache)
    (x : HeldTicket) (kind : BookKind) (format : FormatState) (e : Fin 16) :
    newBook b x kind format e = newBook s x kind format e := by
  unfold newBook
  rw [serial, cache]

theorem newBook_pending {s b : State} (serial : b.sched.nextSerial = s.sched.nextSerial) (x : HeldTicket) (kind : BookKind)
    (e : Fin 16) : newBook b x kind .pending e = newBook s x kind .pending e := by
  unfold newBook
  rw [serial]

theorem NoHold.congr {r : JobRecord} {s b : State} (clear : NoHold r s) (gathering : b.gathering = s.gathering)
    (cover : b.cover = s.cover) (pot : b.pot = s.pot) : NoHold r b := by
  unfold NoHold State.cell
  rw [gathering, cover, pot]
  exact clear

theorem HoldApplies.congr {r : JobRecord} {hold : HoldReason} {s b : State} (applies : HoldApplies r hold s)
    (gathering : b.gathering = s.gathering) (cover : b.cover = s.cover) (pot : b.pot = s.pot) : HoldApplies r hold b := by
  unfold HoldApplies State.cell
  rw [gathering, cover, pot]
  exact applies

/-- The card after the consult of a standing ticket: nothing that a launch reads has changed. -/
structure Consulted (i : Nat) (s b : State) : Prop where
  held : ∀ k, b.held k = s.held k
  sched : b.sched = { s.sched with held := b.sched.held }
  mem : b.mem = s.mem
  same : SameBut [.sched] s b

theorem State.consulted_standing {i : Nat} {x : HeldTicket} {s : State} (held : s.held i = some x)
    (standing : s.mem.cancelled i = false) : Consulted i s (s.consult i) := by
  obtain ⟨-, -, mem, sched, same⟩ := s.consult_effect i
  exact ⟨State.consult_standing held standing, sched, mem, same⟩

/-! ### A held ticket whose job is cached (R27, R29, R30) -/

section
variable {s : State} {dt : Nat} {io : CountInputs} (only : OnlyEvent (.opens .launch) s) (running : s.line.mode = .running)
  {i : Nat} {x : HeldTicket} {kind : BookKind} {e : Fin 16} {r : JobRecord}

include only running in
theorem exec_launch_present (busy : s.cache.fetch.isSome = true) (held : s.held i = some x)
    (standing : s.mem.cancelled i = false)
    (decision : ∀ p, (s.demanded dt p).decision = ((s.demanded dt p).consult i).heldLookup x kind)
    (found : s.cache.lookup x.job = some e) (copy : s.cache.entries[e].copy = some r) (clear : NoHold r s) :
    ∃ p b t, exec (.forwardEncoderCount dt io) s = .next t ∧ Consulted i (s.demanded dt p) b ∧
      LaunchTaken x kind .present e b t := by
  obtain ⟨p, run⟩ := exec_launch_decided only running dt io
  have consulted : Consulted i (s.demanded dt p) ((s.demanded dt p).consult i) := State.consulted_standing held standing
  have way := decision p
  generalize (s.demanded dt p).consult i = b at *
  have cache : b.cache = s.cache := consulted.same .cache (by decide)
  have here : b.held x.index = some x := by rw [State.held_index held]; exact (consulted.held i).trans held
  have launch : b.heldLookup x kind = (b.launch x kind .present e, .launched) := by
    rw [State.heldLookup_found (by rw [cache]; exact found)]
    refine State.holdOrLaunch_launches here ?_
    dsimp only
    rw [cache, copy]
    exact State.holdCheck_none (clear.congr (consulted.same .gathering (by decide)) (consulted.same .cover (by decide))
      (consulted.same .pot (by decide)))
  have taken := State.launchTaken here kind .present e
  refine ⟨p, b, _, run _ _ (way.trans launch) (.inl ?_), consulted, taken⟩
  rw [(State.launched here kind .present e).fetch, cache]
  exact busy

end

theorem State.consult_standing_eq {i : Nat} {x : HeldTicket} {s : State} (once : (s.sched.held.map (·.index)).Nodup)
    (held : s.held i = some x) (standing : s.mem.cancelled i = false) : s.consult i = s :=
  State.consult_fixed once fun y hy => by
    rw [held, Option.some_inj] at hy
    rw [← hy, standing, HeldTicket.consulted_of_standing]

theorem HoldApplies.gap {r : JobRecord} {hold : HoldReason} {s : State} (applies : HoldApplies r hold s) : hold ≠ .launched := by
  rintro rfl
  rw [holdApplies_iff] at applies
  split at applies
  · cases applies
  · split at applies
    · cases applies
    · split at applies
      · cases applies
      · cases applies.2

end Sys2Proof.Machine
end

section
/-!
The launch demand, clause by clause (R7, R12, R20, R23 to R31, R33, R40, R45, R46, R166).
-/

namespace Sys2Proof.Machine

section
variable {s : State} {dt : Nat} {io : CountInputs} (only : OnlyEvent (.opens .launch) s)

/-! ### No decision, and no room (R23) -/

include only in
theorem launchDemand_notRunning (stands : s.line.mode ≠ .running) :
    ∃ t, exec (.forwardEncoderCount dt io) s = .next t ∧ Later dt s t ∧ t.sched = { s.sched with hold := .notRunning } ∧
      t.word Header.hold = 1 ∧ SameBut [.now, .phase, .stations, .sched] s t ∧ BytesBut [Header.hold] s t := by
  obtain ⟨p, run⟩ := exec_forward_launch only dt io
  generalize (if s.line.mode.acting then { s.stations with engaged := .launch :: s.stations.engaged } else s.stations) = x at run
  have atDemand := s.atDemand_same dt p x
  have mode : (s.atDemand dt p x).line.mode ≠ .running := stands
  have mem : (s.atDemand dt p x).mem = s.mem := rfl
  have now : (s.atDemand dt p x).now = s.now + dt := rfl
  have schedBefore : (s.atDemand dt p x).sched = s.sched := rfl
  rw [State.launchDemand, if_neg mode] at run
  generalize s.atDemand dt p x = v at *
  obtain ⟨sched, word, same, bytes⟩ := v.setHold_effect .notRunning
  exact ⟨_, run, (same .now (by decide)).trans now, by rw [sched, schedBefore], word, (atDemand.trans same).mono (by decide),
    ((BytesBut.of_mem (w := []) mem).trans bytes).mono fun _ h => h⟩

variable (running : s.line.mode = .running)

include only running in
theorem launchDemand_noRoom (busy : s.cache.fetch.isSome = true) (full : s.config.settings.highMark ≤ s.trim.queue.length)
    (bound : s.line.idle ≤ 65535) :
    ∃ t, exec (.forwardEncoderCount dt io) s = .next t ∧ Later dt s t ∧ t.sched = { s.sched with hold := .noRoom } ∧
      t.word Header.hold = 2 ∧ t.line = { s.line with idle := if s.line.idle = 65535 then 65535 else s.line.idle + 1 } ∧
      t.stations = { s.stations with engaged := .launch :: s.stations.engaged } ∧
      SameBut [.now, .phase, .stations, .sched, .line] s t ∧ BytesBut [Header.hold] s t := by
  obtain ⟨p, run⟩ := exec_launch_decided only running dt io
  have run := run _ _ (State.decision_full full) (.inl busy)
  have done := (s.demanded dt p).decided_decided .noRoom
  obtain ⟨later, ⟨-, -, line, stations⟩, same⟩ := done.gap (by decide) (SameBut.refl [] _) (by simp)
  refine ⟨_, run, later, done.sched, done.word, line.trans ?_, stations, same.mono (by decide),
    ((BytesBut.of_mem (w := []) rfl).trans done.bytes).mono fun _ h => h⟩
  have idle : min 65535 (s.line.idle + 1) = if s.line.idle = 65535 then 65535 else s.line.idle + 1 := by
    split <;> omega
  rw [idle]

/-! ### The cursor's ticket, its job cached (R25, R27, R29, R30) -/

variable {i : Nat} {x : HeldTicket} {kind : BookKind} {e : Fin 16} {r : JobRecord}

include only running in
/-- A demand in RUNNING whose decision launches nothing and changes nothing. -/
theorem launchDemand_gap {hold : HoldReason} (gap : hold ≠ .launched)
    (decision : ∀ p, (s.demanded dt p).decision = (s.demanded dt p, hold))
    (rest : s.cache.fetch.isSome = true ∨ ∀ e : Fin 16, s.cache.entries[e].locks ≠ 0) :
    ∃ t, exec (.forwardEncoderCount dt io) s = .next t ∧ Later dt s t ∧ GapTaken hold s t ∧
      t.sched = { s.sched with hold := hold } ∧ SameBut [.now, .phase, .stations, .sched, .line] s t ∧
      BytesBut [Header.hold] s t := by
  obtain ⟨p, run⟩ := exec_launch_decided only running dt io
  have done := (s.demanded dt p).decided_decided hold
  obtain ⟨later, taken, same⟩ := done.gap gap (SameBut.refl [] _) (by simp)
  exact ⟨_, run _ _ (decision p) rest, later, taken, done.sched, same.mono (by decide),
    ((BytesBut.of_mem (w := []) rfl).trans done.bytes).mono fun _ h => h⟩

include only running in
theorem launchDemand_first (busy : s.cache.fetch.isSome = true) (room : s.trim.queue.length < s.config.settings.highMark)
    (none : s.sched.remakes = []) (held : s.held s.sched.cursor = some x) (active : x.stage = .active) (stop : x.stop = .noStop)
    (standing : s.mem.cancelled s.sched.cursor = false) (found : s.cache.lookup x.job = some e)
    (copy : s.cache.entries[e].copy = some r) (clear : NoHold r s) :
    ∃ t, exec (.forwardEncoderCount dt io) s = .next t ∧ Later dt s t ∧
      t.cell 0 = .holding (newBook s x .first .present e) ∧ t.sched.hold = .launched ∧ t.word Header.hold = 0 ∧
      t.line = { s.line with idle := 0 } ∧
      t.cache.entries[e] = { s.cache.entries[e] with locks := s.cache.entries[e].locks + 1, used := true } ∧
      (∀ p : Fin 18, p ≠ 0 → t.cell p = s.cell p) ∧ t.gathering.pockets = s.gathering.pockets ∧
      SameBut [.now, .phase, .stations, .sched, .cache, .gathering, .line] s t ∧
      BytesBut
        ([Header.nextSerial, Header.cursor, Header.hold] ++
          [TicketField.launched, .remade, .firstSerial, .lastSerial, .stage].map (ticketAddr x.index)) s t := by
  obtain ⟨p, b, t, run, consulted, taken⟩ := exec_launch_present (kind := .first) only running (dt := dt) (io := io) busy held
    standing (fun p => (State.decision_cursor (s := s.demanded dt p) room none).trans
      (State.cursorCandidate_runs (s := s.demanded dt p) held active stop standing))
    found copy clear
  obtain ⟨later, line, same⟩ := taken.after consulted.same (by decide)
  have cache : b.cache = s.cache := consulted.same .cache (by decide)
  have gathering : b.gathering = s.gathering := consulted.same .gathering (by decide)
  have serial : b.sched.nextSerial = s.sched.nextSerial := by rw [consulted.sched]; rfl
  have cell : ∀ q, b.cell q = s.cell q := fun q => by rw [State.cell, State.cell, gathering]
  refine ⟨t, run, later, ?_, taken.hold, taken.word, line, ?_, fun q hq => (taken.cells q hq).trans (cell q),
    taken.pockets.trans (congrArg Gathering.pockets gathering), same.mono (by decide), ?_⟩
  · rw [taken.book, newBook_congr serial cache]
  · rw [taken.entry, cache]
  · refine ((BytesBut.of_mem (w := []) consulted.mem).trans taken.bytes).mono fun a ha => ?_
    simpa [launchedFields] using ha

include only running in
theorem launchDemand_held (busy : s.cache.fetch.isSome = true) (room : s.trim.queue.length < s.config.settings.highMark)
    (none : s.sched.remakes = []) (held : s.held s.sched.cursor = some x) (active : x.stage = .active) (stop : x.stop = .noStop)
    (standing : s.mem.cancelled s.sched.cursor = false) (found : s.cache.lookup x.job = some e)
    (copy : s.cache.entries[e].copy = some r) {hold : HoldReason} (applies : HoldApplies r hold s) (inv : ScheduleInv s) :
    ∃ t, exec (.forwardEncoderCount dt io) s = .next t ∧ Later dt s t ∧ GapTaken hold s t ∧
      t.sched = { s.sched with hold := hold } ∧ SameBut [.now, .phase, .stations, .sched, .line] s t ∧
      BytesBut [Header.hold] s t := by
  refine launchDemand_gap only running applies.gap (fun p => ?_) (.inl busy)
  have fixed : (s.demanded dt p).consult s.sched.cursor = s.demanded dt p := 
    State.consult_standing_eq (s := s.demanded dt p) inv.2.2 held standing
  refine (State.decision_cursor (s := s.demanded dt p) room none).trans
    ((State.cursorCandidate_runs (s := s.demanded dt p) held active stop standing).trans ?_)
  have check : (s.demanded dt p).holdCheck s.cache.entries[e].copy = some hold := by
    rw [copy]
    exact State.holdCheck_some applies
  exact (congrArg (fun u : State => u.heldLookup x .first) fixed).trans ((State.heldLookup_found (s := s.demanded dt p) found).trans
    (State.holdOrLaunch_holds check))

end

/-! ### A remake launched or counted short (R24) -/

section
variable {s : State} {dt : Nat} {io : CountInputs} (only : OnlyEvent (.opens .launch) s) (running : s.line.mode = .running)
  {i : Nat} {x : HeldTicket} {e : Fin 16} {r : JobRecord} {rest : List Nat}

include only running in
theorem launchDemand_remake (busy : s.cache.fetch.isSome = true) (room : s.trim.queue.length < s.config.settings.highMark)
    (list : s.sched.remakes = i :: rest) (held : s.held i = some x) (stop : x.stop = .noStop)
    (standing : s.mem.cancelled i = false) (found : s.cache.lookup x.job = some e)
    (copy : s.cache.entries[e].copy = some r) (clear : NoHold r s) :
    ∃ t, exec (.forwardEncoderCount dt io) s = .next t ∧ Later dt s t ∧
      t.cell 0 = .holding (newBook s x .remake .present e) ∧ (∀ p : Fin 18, p ≠ 0 → t.cell p = s.cell p) ∧
      t.sched.remakes = rest ∧ t.word Header.remakeLength = BitVec.ofNat 32 rest.length ∧
      t.held i = some
        { x with
          launched := x.launched + 1
          remade := x.remade + 1
          firstSerial := if x.launched = 0 then s.sched.nextSerial else x.firstSerial
          lastSerial := s.sched.nextSerial } ∧
      (∀ k, k ≠ i → t.held k = s.held k) ∧ t.sched.cursor = s.sched.cursor ∧
      t.mem.ticket i .launched = BitVec.ofNat 32 (x.launched + 1) ∧
      t.mem.ticket i .remade = BitVec.ofNat 32 (x.remade + 1) ∧ t.sched.hold = .launched ∧
      t.word Header.hold = 0 ∧ t.line = { s.line with idle := 0 } ∧
      t.cache.entries[e] = { s.cache.entries[e] with locks := s.cache.entries[e].locks + 1, used := true } ∧
      (∀ f : Fin 16, f ≠ e → t.cache.entries[f] = s.cache.entries[f]) ∧
      SameBut [.now, .phase, .stations, .sched, .cache, .gathering, .line] s t := by
  obtain ⟨p, b, t, run, consulted, taken⟩ := exec_launch_present (kind := .remake) only running (dt := dt) (io := io) busy held
    standing (fun p => (State.decision_remake (s := s.demanded dt p) room list).trans
      (State.remakeCandidate_runs (s := s.demanded dt p) held stop standing)) found copy clear
  obtain ⟨later, line, same⟩ := taken.after consulted.same (by decide)
  have cache : b.cache = s.cache := consulted.same .cache (by decide)
  have gathering : b.gathering = s.gathering := consulted.same .gathering (by decide)
  have serial : b.sched.nextSerial = s.sched.nextSerial := by rw [consulted.sched]; rfl
  have remakes : b.sched.remakes = i :: rest := by rw [consulted.sched]; exact list
  have cursor : b.sched.cursor = s.sched.cursor := by rw [consulted.sched]; rfl
  have cell : ∀ q, b.cell q = s.cell q := fun q => by rw [State.cell, State.cell, gathering]
  have index := State.held_index held
  obtain ⟨y, hy⟩ : ∃ y, y = x.afterLaunch .remake s.sched.nextSerial := ⟨_, rfl⟩
  have after : y =
      { x with
        launched := x.launched + 1
        remade := x.remade + 1
        firstSerial := if x.launched = 0 then s.sched.nextSerial else x.firstSerial
        lastSerial := s.sched.nextSerial } := by
    rw [hy, HeldTicket.afterLaunch_eq, if_pos rfl, if_neg (by simp)]
  have stage : y.stage = x.stage := by rw [after]
  have fields := taken.fields
  have heldNow := taken.held
  have cursorNow := taken.cursor
  have others := taken.others
  rw [serial, ← hy] at fields heldNow cursorNow
  rw [index] at fields heldNow others
  have launched : TicketField.launched ∈ x.changed y := by rw [hy]; exact x.launched_changed _ _
  have remade : TicketField.remade ∈ x.changed y :=
    HeldTicket.mem_changed.mpr ⟨by decide, by rw [after]; exact ofNat32_succ_ne x.remade⟩
  refine ⟨t, run, later, ?_, fun q hq => (taken.cells q hq).trans (cell q), ?_, ?_, by rw [heldNow, after],
    fun k hk => (others k hk).trans (consulted.held k), ?_, ?_, ?_, taken.hold, taken.word, line, ?_, fun f hf => ?_,
    same.mono (by decide)⟩
  · rw [taken.book, newBook_congr serial cache]
  · rw [taken.remakes, if_pos rfl, remakes, List.tail_cons]
  · rw [taken.listWord rfl (by rw [remakes]; simp), remakes, List.tail_cons]
  · rw [cursorNow, stage, if_neg (by rintro ⟨active, draining⟩; rw [active] at draining; cases draining), cursor]
  · rw [fields, if_pos launched, after]; rfl
  · rw [fields, if_pos remade, after]; rfl
  · rw [taken.entry, cache]
  · rw [taken.entries f hf, cache]

end

/-! ### A stopped ticket under the cursor or in the remake list (R24, R25, R36) -/

theorem HeldTicket.consulted_stopped {x : HeldTicket} {cancel : Bool} (stopped : x.stop ≠ .noStop ∨ cancel = true) :
    x.consulted cancel = { x with stop := if x.stop = .noStop then .cancelled else x.stop } ∧
      (x.consulted cancel).stopped = true := by
  by_cases none : x.stop = .noStop
  · have cancelled : cancel = true := stopped.resolve_left fun k => k none
    simp [HeldTicket.consulted_eq, HeldTicket.stopped, none, cancelled]
  · simp [HeldTicket.consulted_eq, HeldTicket.stopped, none]

/-- A change of the only word `f` of a ticket. -/
theorem HeldTicket.changed_only {x y : HeldTicket} {f : TicketField} (only : ∀ g ∈ HeldTicket.written, g ≠ f → x.value g = y.value g) :
    ∀ g ∈ x.changed y, g = f := fun g hg => by
  obtain ⟨written, differs⟩ := HeldTicket.mem_changed.mp hg
  by_contra other
  exact differs (only g written other)

/-- A held ticket changed in one word, other than by ending: the state between a consult and the end of the demand. -/
structure TicketChanged (y z : HeldTicket) (f : TicketField) (b u : State) : Prop where
  held : u.held y.index = some z
  others : ∀ k, k ≠ y.index → u.held k = b.held k
  word : u.mem.ticket y.index f = z.value f
  sched : u.sched = { b.sched with held := u.sched.held }
  same : SameBut [.sched] b u
  bytes : BytesBut [ticketAddr y.index f] b u

theorem State.changeTicket_changed {y z : HeldTicket} {f : TicketField} {b : State} (held : b.held y.index = some y)
    (index : z.index = y.index) (written : f ∈ HeldTicket.written) (differs : y.value f ≠ z.value f)
    (only : ∀ g ∈ HeldTicket.written, g ≠ f → y.value g = z.value g) : TicketChanged y z f b (b.changeTicket y z) := by
  obtain ⟨sched, -⟩ := b.changeTicket_effect y z
  have fields := b.ticket_changeTicket y z
  have bytes := b.changeTicket_bytes y z
  have same := b.changeTicket_same y z
  generalize b.changeTicket y z = u at *
  rw [index] at fields bytes
  refine ⟨?_, fun k hk => ?_, ?_, by rw [sched]; rfl, same, bytes.mono fun a ha => ?_⟩
  · rw [State.held, sched, ← index]
    exact Schedule.find_put_same (x := y) (by rw [index]; exact held)
  · rw [State.held, sched, Schedule.find_put_of_ne (by rw [index]; exact hk)]
    rfl
  · rw [fields, if_pos (HeldTicket.mem_changed.mpr ⟨written, differs⟩)]
  · obtain ⟨g, hg, rfl⟩ := List.mem_map.mp ha
    rw [HeldTicket.changed_only only g hg]
    exact List.mem_singleton_self _

section
variable {s : State} {dt : Nat} {io : CountInputs} (only : OnlyEvent (.opens .launch) s) (running : s.line.mode = .running)
  {i : Nat} {x : HeldTicket} {rest : List Nat}

include only running in
theorem launchDemand_remakeStopped (busy : s.cache.fetch.isSome = true) (room : s.trim.queue.length < s.config.settings.highMark)
    (list : s.sched.remakes = i :: rest) (held : s.held i = some x) (stopped : x.stop ≠ .noStop ∨ s.mem.cancelled i = true)
    (stays : x.stays) :
    ∃ t, exec (.forwardEncoderCount dt io) s = .next t ∧ Later dt s t ∧ GapTaken .noWork s t ∧
      t.sched.remakes = rest ∧ t.word Header.remakeLength = BitVec.ofNat 32 rest.length ∧
      t.held i = some { x with stop := if x.stop = .noStop then .cancelled else x.stop, short := x.short + 1 } ∧
      (∀ k, k ≠ i → t.held k = s.held k) ∧ t.mem.ticket i .short = BitVec.ofNat 32 (x.short + 1) ∧
      t.sched.cursor = s.sched.cursor ∧ SameBut [.now, .phase, .stations, .sched, .line] s t ∧
      BytesBut [Header.hold, Header.remakeLength, ticketAddr i .short] s t := by
  obtain ⟨p, run⟩ := exec_launch_decided only running dt io
  have way := State.decision_remake (s := s.demanded dt p) room list
  obtain ⟨own, others, mem, sched, same⟩ := (s.demanded dt p).consult_effect i
  have index := State.held_index held
  have before : (s.demanded dt p).held i = some x := held
  obtain ⟨marked, mark⟩ := HeldTicket.consulted_stopped stopped
  have memBefore : (s.demanded dt p).mem = s.mem := rfl
  rw [before, Option.map_some, memBefore] at own
  obtain ⟨y, hy⟩ : ∃ y, y = x.consulted (s.mem.cancelled i) := ⟨_, rfl⟩
  rw [← hy] at own marked mark
  rw [State.remakeCandidate] at way
  generalize (s.demanded dt p).consult i = c at *
  rw [own] at way
  dsimp only at way
  have remakes : c.sched.remakes = i :: rest := by rw [sched]; exact list
  rw [if_pos mark, remakes, List.tail_cons] at way
  obtain ⟨schedR, bytesR⟩ := c.setRemakes_effect rest
  have sameR := c.setRemakes_same rest
  have lengthR : (c.setRemakes rest).word Header.remakeLength = BitVec.ofNat 32 rest.length :=
    State.word_setRemakes (by rw [remakes, List.length_cons]; omega)
  generalize c.setRemakes rest = d at *
  obtain ⟨z, hz⟩ : ∃ z : HeldTicket, z = { y with short := y.short + 1 } := ⟨_, rfl⟩
  have indexY : y.index = i := by rw [marked]; exact index
  have heldD : ∀ k, d.held k = c.held k := State.held_of_sched (by rw [schedR])
  have changed : TicketChanged y z .short d (d.changeTicket y z) :=
    State.changeTicket_changed (by rw [indexY, heldD, own]) (by rw [hz]) (by decide) (by rw [hz]; exact ofNat32_succ_ne y.short)
      fun g hg other => by rw [hz]; cases g <;> first | rfl | exact absurd rfl other
  rw [← hz] at way
  generalize d.changeTicket y z = u at *
  have lasts : u.endCheck i = u := by
    refine State.endCheck_stays (x := z) (by rw [← indexY]; exact changed.held) ?_ (HeldTicket.exhausted_of_inFlight ?_)
    · rw [hz, marked]; exact stays.1
    · rw [hz, marked]; exact stays.2
  rw [lasts] at way
  have sameU : SameBut [.sched] (s.demanded dt p) u := ((same.trans sameR).trans changed.same).mono (by decide)
  have cacheU : u.cache = s.cache := sameU .cache (by decide)
  have done := u.decided_decided .noWork
  have run := run u .noWork way (.inl (by rw [cacheU]; exact busy))
  generalize u.decided .noWork = t at *
  obtain ⟨later, gap, sameT⟩ := done.gap (by decide) sameU (by decide)
  have heldT : ∀ k, t.held k = u.held k := State.held_of_sched (by rw [done.sched])
  have heldU := changed.held
  have othersU := changed.others
  have wordU := changed.word
  have bytesU := changed.bytes
  rw [indexY] at heldU othersU wordU bytesU
  have low := ticketAddr_low i .short
  refine ⟨t, run, later, gap, ?_, ?_, ?_, fun k hk => ?_, ?_, ?_, sameT.mono (by decide), ?_⟩
  · rw [done.sched, changed.sched, schedR]
  · rw [done.bytes.word (by decide), ← lengthR]
    exact bytesU.word fun w hw => by
      rw [List.mem_singleton.mp hw]
      exact .inl (le_trans (by decide) low)
  · rw [heldT, heldU, hz, marked]
  · rw [heldT, othersU k hk, heldD, others k hk]
    rfl
  · rw [ticket_of_header (by decide) done.bytes, wordU, hz, marked]
    rfl
  · rw [done.sched, changed.sched, schedR, sched]
    rfl
  · refine ((((BytesBut.of_mem (w := []) mem).trans bytesR).trans bytesU).trans done.bytes).mono fun a ha => ?_
    simp only [List.mem_append, List.mem_cons, List.not_mem_nil, or_false] at ha ⊢
    tauto

include only running in
theorem launchDemand_drains (busy : s.cache.fetch.isSome = true) (room : s.trim.queue.length < s.config.settings.highMark)
    (none : s.sched.remakes = []) (cursor : i = s.sched.cursor) (held : s.held i = some x) (active : x.stage = .active)
    (stopped : x.stop ≠ .noStop ∨ s.mem.cancelled i = true) (stays : x.stays) :
    ∃ t, exec (.forwardEncoderCount dt io) s = .next t ∧ Later dt s t ∧ GapTaken .noWork s t ∧
      t.held i = some { x with stop := if x.stop = .noStop then .cancelled else x.stop, stage := .draining } ∧
      (∀ k, k ≠ i → t.held k = s.held k) ∧ t.mem.ticket i .stage = 3 ∧ t.sched.cursor = (i + 1) % 256 ∧
      t.word Header.cursor = BitVec.ofNat 32 ((i + 1) % 256) ∧ t.sched.remakes = [] ∧
      SameBut [.now, .phase, .stations, .sched, .line] s t ∧
      BytesBut [Header.hold, Header.cursor, ticketAddr i .stage] s t := by
  obtain ⟨p, run⟩ := exec_launch_decided only running dt io
  have way := State.decision_cursor (s := s.demanded dt p) room none
  obtain ⟨own, others, mem, sched, same⟩ := (s.demanded dt p).consult_effect i
  have index := State.held_index held
  have before : (s.demanded dt p).held i = some x := held
  have cursorBefore : (s.demanded dt p).sched.cursor = i := cursor.symm
  obtain ⟨marked, mark⟩ := HeldTicket.consulted_stopped stopped
  have memBefore : (s.demanded dt p).mem = s.mem := rfl
  rw [before, Option.map_some, memBefore] at own
  obtain ⟨y, hy⟩ : ∃ y, y = x.consulted (s.mem.cancelled i) := ⟨_, rfl⟩
  rw [← hy] at own marked mark
  have stage : y.stage = .active := by rw [marked]; exact active
  rw [State.cursorCandidate] at way
  rw [cursorBefore] at way
  generalize (s.demanded dt p).consult i = c at *
  rw [own] at way
  dsimp only at way
  rw [stage] at way
  have remakes : c.sched.remakes = [] := by rw [sched]; exact none
  rw [if_pos mark, State.drain, remakes] at way
  simp only [List.filter_nil, List.length_nil, Nat.sub_self, Nat.add_zero] at way
  obtain ⟨d, hd⟩ : ∃ d, d = c.setRemakes [] := ⟨_, rfl⟩
  have plain : d = c.updSched fun q => { q with remakes := [] } := by
    rw [hd, State.setRemakes, if_pos (by rw [remakes])]
  have schedD : d.sched = c.sched := by
    rw [plain, State.updSched_sched, ← remakes]
  have sameD : SameBut [.sched] c d := by rw [hd]; exact c.setRemakes_same []
  have memD : d.mem = c.mem := by rw [plain]; rfl
  rw [← hd] at way
  obtain ⟨z, hz⟩ : ∃ z : HeldTicket, z = { y with stage := .draining } := ⟨_, rfl⟩
  have indexY : y.index = i := by rw [marked]; exact index
  have heldD : ∀ k, d.held k = c.held k := State.held_of_sched (by rw [schedD])
  have changed : TicketChanged y z .stage d (d.changeTicket y z) :=
    State.changeTicket_changed (by rw [indexY, heldD, own]) (by rw [hz]) (by decide)
      (by rw [hz, HeldTicket.value, HeldTicket.value, stage]; exact (by decide : Stage.active.word ≠ Stage.draining.word))
      fun g hg other => by rw [hz]; cases g <;> first | rfl | exact absurd rfl other
  have value : z.value .stage = 3 := by rw [hz]; rfl
  rw [← hz] at way
  generalize d.changeTicket y z = v at *
  have cursorV : v.sched.cursor = i := by rw [changed.sched, schedD, sched]; exact cursorBefore
  obtain ⟨schedA, wordA, bytesA⟩ := v.setCursor_effect ((v.sched.cursor + 1) % 256)
  have sameA := v.setCursor_sameBut ((v.sched.cursor + 1) % 256)
  rw [← State.advanceCursor, cursorV] at schedA wordA
  rw [← State.advanceCursor] at bytesA sameA
  generalize v.advanceCursor = u at *
  have heldU : ∀ k, u.held k = v.held k := State.held_of_sched (by rw [schedA])
  have lasts : u.endCheck y.index = u := by
    refine State.endCheck_stays (x := z) ((heldU _).trans changed.held) ?_ (HeldTicket.exhausted_of_inFlight ?_)
    · rw [hz, marked]; exact stays.1
    · rw [hz, marked]; exact stays.2
  rw [lasts] at way
  have sameU : SameBut [.sched] (s.demanded dt p) u := (((same.trans sameD).trans changed.same).trans sameA).mono (by decide)
  have cacheU : u.cache = s.cache := sameU .cache (by decide)
  have done := u.decided_decided .noWork
  have run := run u .noWork way (.inl (by rw [cacheU]; exact busy))
  generalize u.decided .noWork = t at *
  obtain ⟨later, gap, sameT⟩ := done.gap (by decide) sameU (by decide)
  have heldT : ∀ k, t.held k = u.held k := State.held_of_sched (by rw [done.sched])
  have heldV := changed.held
  have othersV := changed.others
  have wordV := changed.word
  have bytesV := changed.bytes
  rw [indexY] at heldV othersV wordV bytesV
  refine ⟨t, run, later, gap, ?_, fun k hk => ?_, ?_, ?_, ?_, ?_, sameT.mono (by decide), ?_⟩
  · rw [heldT, heldU, heldV, hz, marked]
  · rw [heldT, heldU, othersV k hk, heldD, others k hk]
    rfl
  · rw [ticket_of_header (by decide) done.bytes, ticket_of_header (by decide) bytesA, wordV, value]
  · rw [done.sched, schedA]
  · rw [done.bytes.word (by decide), wordA]
  · rw [done.sched, schedA, changed.sched, schedD, remakes]
  · refine ((((BytesBut.of_mem (w := []) (memD.trans mem)).trans bytesV).trans bytesA).trans done.bytes).mono fun a ha => ?_
    simp only [List.mem_append, List.mem_cons, List.not_mem_nil, or_false] at ha ⊢
    tauto

end

end Sys2Proof.Machine
end

section
/-!
The launch demand where the job is not cached, and at a POSTED ticket (R25 to R28, R31, R45).
-/

namespace Sys2Proof.Machine

theorem FetchStarted.between {j : Nat} {v u s t : State} (started : FetchStarted j v u) (before : v.cache = s.cache)
    (after : t.cache = u.cache) (now : t.now = u.now) (word : t.word Header.occupancy = u.word Header.occupancy) :
    FetchStarted j s t := by
  unfold FetchStarted at started ⊢
  rw [after, now, word, ← before]
  exact started

theorem FetchStarted.busy {j : Nat} {s t : State} (started : FetchStarted j s t) : t.cache.fetch.isSome = true := by
  obtain ⟨e, -, fetch, -⟩ := started
  rw [fetch]
  rfl

section
variable {s : State} {dt : Nat} {io : CountInputs} (only : OnlyEvent (.opens .launch) s) (running : s.line.mode = .running)

/-! ### A fetch begun by the demand (R26, R27, R45) -/

include only running in
/-- A demand whose decision starts a fetch and launches nothing. -/
theorem launchDemand_starts {j : Nat} (free : ∃ e : Fin 16, s.cache.entries[e].locks = 0)
    (decision : ∀ p, (s.demanded dt p).decision = ((s.demanded dt p).startFetch j, .cacheMiss)) :
    ∃ t, exec (.forwardEncoderCount dt io) s = .next t ∧ Later dt s t ∧ FetchStarted j s t ∧ GapTaken .cacheMiss s t ∧
      t.sched = { s.sched with hold := .cacheMiss } ∧ SameBut [.now, .phase, .stations, .sched, .cache, .line] s t ∧
      BytesBut [Header.hold, Header.occupancy] s t := by
  obtain ⟨p, run⟩ := exec_launch_decided only running dt io
  obtain ⟨started, same, bytes⟩ := State.startFetch_started (s := s.demanded dt p) free j
  have run := run _ _ (decision p) (.inl started.busy)
  have sched : ((s.demanded dt p).startFetch j).sched = s.sched := same .sched (by decide)
  generalize (s.demanded dt p).startFetch j = u at *
  have done := u.decided_decided .cacheMiss
  generalize u.decided .cacheMiss = t at *
  obtain ⟨later, gap, sameT⟩ := done.gap (by decide) same (by decide)
  refine ⟨t, run, later, ?_, gap, by rw [done.sched, sched], sameT.mono (by decide), ?_⟩
  · exact started.between rfl (done.same .cache (by decide)) (done.same .now (by decide)) (done.bytes.word (by decide))
  · refine (((BytesBut.of_mem (w := []) (s := s) (t := s.demanded dt p) rfl).trans bytes).trans done.bytes).mono fun a ha => ?_
    simp only [List.mem_append, List.mem_cons, List.not_mem_nil, or_false] at ha ⊢
    tauto

/-! ### The cursor's ticket, its job not cached (R27) -/

variable (room : s.trim.queue.length < s.config.settings.highMark) (none : s.sched.remakes = [])

include only running room none in
/-- Nothing under the cursor can be launched from. -/
theorem launchDemand_idle (busy : s.cache.fetch.isSome = true) (inv : ScheduleInv s)
    (idle : (∃ x, s.held s.sched.cursor = some x ∧ x.stage = .draining ∧
        (x.stop ≠ .noStop ∨ s.mem.cancelled s.sched.cursor = false)) ∨
      (s.held s.sched.cursor = .none ∧ s.mem.ticket s.sched.cursor .stage ≠ 1)) :
    ∃ t, exec (.forwardEncoderCount dt io) s = .next t ∧ Later dt s t ∧ GapTaken .noWork s t ∧
      t.sched = { s.sched with hold := .noWork } ∧ SameBut [.now, .phase, .stations, .sched, .line] s t ∧
      BytesBut [Header.hold] s t :=
  launchDemand_gap only running (by decide) (fun p => (State.decision_cursor (s := s.demanded dt p) room none).trans
    (State.cursorCandidate_idle (s := s.demanded dt p) inv.2.2 idle)) (.inl busy)

variable {x : HeldTicket} (held : s.held s.sched.cursor = some x) (active : x.stage = .active) (stop : x.stop = .noStop)
  (standing : s.mem.cancelled s.sched.cursor = false) (missing : s.cache.lookup x.job = .none)

include room none held active stop standing in
theorem State.decision_runs (p : PhaseUnit) :
    (s.demanded dt p).decision = ((s.demanded dt p).consult s.sched.cursor).heldLookup x .first :=
  (State.decision_cursor (s := s.demanded dt p) room none).trans
    (State.cursorCandidate_runs (s := s.demanded dt p) held active stop standing)

include only running room none held active stop standing missing in
theorem launchDemand_pending {f : Fetch} (fetching : s.cache.fetch = some f) (job : f.job = x.job) (personal : x.mode ≠ .personal)
    (band : s.pot.inBand = true) (empty : s.cell 0 = .empty) :
    ∃ t, exec (.forwardEncoderCount dt io) s = .next t ∧ Later dt s t ∧
      t.cell 0 = .holding (newBook s x .first .pending f.target) ∧ (∀ p : Fin 18, p ≠ 0 → t.cell p = s.cell p) ∧
      t.cache.fetch = some f ∧
      t.cache.entries[f.target] =
        { s.cache.entries[f.target] with locks := s.cache.entries[f.target].locks + 1, used := true } ∧
      t.sched.hold = .launched ∧ t.word Header.hold = 0 ∧ t.line = { s.line with idle := 0 } ∧
      t.mem.ticket s.sched.cursor .launched = BitVec.ofNat 32 (x.launched + 1) ∧
      SameBut [.now, .phase, .stations, .sched, .cache, .gathering, .line] s t := by
  obtain ⟨p, run⟩ := exec_launch_decided only running dt io
  have consulted : Consulted s.sched.cursor (s.demanded dt p) ((s.demanded dt p).consult s.sched.cursor) :=
    State.consulted_standing held standing
  have way := State.decision_runs (dt := dt) room none held active stop standing p
  generalize (s.demanded dt p).consult s.sched.cursor = b at *
  have cache : b.cache = s.cache := consulted.same .cache (by decide)
  have gathering : b.gathering = s.gathering := consulted.same .gathering (by decide)
  have pot : b.pot = s.pot := consulted.same .pot (by decide)
  have cell : ∀ q, b.cell q = s.cell q := fun q => by rw [State.cell, State.cell, gathering]
  have index := State.held_index held
  have here : b.held x.index = some x := by rw [index]; exact (consulted.held _).trans held
  have launch : b.heldLookup x .first = (b.launch x .first .pending f.target, .launched) :=
    (State.heldLookup_fetched (by rw [cache]; exact missing) (by rw [cache]; exact fetching) job personal).trans
      (State.holdOrLaunch_launches here (State.holdCheck_pending (by rw [pot]; exact band) (by rw [cell]; exact empty)))
  have taken := State.launchTaken here .first .pending f.target
  have run := run _ _ (way.trans launch) (.inl (by
    rw [(State.launched here .first .pending f.target).fetch, cache, fetching]
    rfl))
  generalize (b.launch x .first .pending f.target).decided .launched = t at *
  obtain ⟨later, line, same⟩ := taken.after consulted.same (by decide)
  have serial : b.sched.nextSerial = s.sched.nextSerial := by rw [consulted.sched]; rfl
  have fields := taken.fields
  rw [index] at fields
  refine ⟨t, run, later, ?_, fun q hq => (taken.cells q hq).trans (cell q), ?_, ?_, taken.hold, taken.word, line, ?_,
    same.mono (by decide)⟩
  · rw [taken.book, newBook_pending serial]
  · rw [taken.fetch, cache, fetching]
  · rw [taken.entry, cache]
  · rw [fields, if_pos (x.launched_changed _ _), HeldTicket.afterLaunch_eq]
    rfl

include only running room none held active stop standing missing in
theorem launchDemand_misses {f : Fetch} (fetching : s.cache.fetch = some f)
    (other : f.job = x.job ∧ x.mode = .personal ∨ f.job ≠ x.job) (inv : ScheduleInv s) :
    ∃ t, exec (.forwardEncoderCount dt io) s = .next t ∧ Later dt s t ∧
      GapTaken (if f.job ≠ x.job ∧ ∀ e : Fin 16, s.cache.entries[e].locks ≠ 0 then .cacheLocked else .cacheMiss) s t ∧
      t.sched = { s.sched with hold := t.sched.hold } ∧ SameBut [.now, .phase, .stations, .sched, .line] s t ∧
      BytesBut [Header.hold] s t := by
  obtain ⟨hold, hh⟩ : ∃ hold : HoldReason, hold =
    if f.job ≠ x.job ∧ ∀ e : Fin 16, s.cache.entries[e].locks ≠ 0 then .cacheLocked else .cacheMiss := ⟨_, rfl⟩
  have gap : hold ≠ .launched := by
    rw [hh]
    split <;> decide
  have decision : ∀ p, (s.demanded dt p).decision = (s.demanded dt p, hold) := fun p => by
    have fixed := State.consult_standing_eq (s := s.demanded dt p) inv.2.2 held standing
    rw [State.decision_runs (dt := dt) room none held active stop standing p, hh]
    exact (congrArg (fun u : State => u.heldLookup x .first) fixed).trans
      (State.heldLookup_misses (s := s.demanded dt p) missing fetching other)
  obtain ⟨t, run, later, taken, sched, same, bytes⟩ := launchDemand_gap only running gap decision (.inl (by rw [fetching]; rfl))
  rw [← hh]
  exact ⟨t, run, later, taken, by rw [sched], same, bytes⟩

include only running room none held active stop standing missing in
theorem launchDemand_fetchesPersonal (idle : s.cache.fetch = .none) (free : ∃ e : Fin 16, s.cache.entries[e].locks = 0)
    (personal : x.mode = .personal) (inv : ScheduleInv s) :
    ∃ t, exec (.forwardEncoderCount dt io) s = .next t ∧ Later dt s t ∧ FetchStarted x.job s t ∧
      GapTaken .cacheMiss s t ∧ t.sched = { s.sched with hold := .cacheMiss } ∧
      SameBut [.now, .phase, .stations, .sched, .cache, .line] s t ∧
      BytesBut [Header.hold, Header.occupancy] s t := by
  refine launchDemand_starts only running free fun p => ?_
  have fixed := State.consult_standing_eq (s := s.demanded dt p) inv.2.2 held standing
  refine (State.decision_runs (dt := dt) room none held active stop standing p).trans
    ((congrArg (fun u : State => u.heldLookup x .first) fixed).trans
      ((State.heldLookup_starts (s := s.demanded dt p) missing idle free).trans ?_))
  rw [State.provisional, if_pos personal]

include only running room none held active stop standing missing in
theorem launchDemand_fetches (idle : s.cache.fetch = .none) (free : ∃ e : Fin 16, s.cache.entries[e].locks = 0)
    (personal : x.mode ≠ .personal) (band : s.pot.inBand = true) (empty : s.cell 0 = .empty) :
    ∃ t, exec (.forwardEncoderCount dt io) s = .next t ∧ Later dt s t ∧
      (∃ e, FetchTarget s.cache e ∧ t.cache.fetch = some ⟨x.job, e, t.now, .none, []⟩ ∧
        t.cache.entries[e] = ⟨.filling, some x.job, .none, 1, true, false⟩ ∧
        t.cell 0 = .holding (newBook s x .first .pending e)) ∧
      (∀ p : Fin 18, p ≠ 0 → t.cell p = s.cell p) ∧ t.sched.hold = .launched ∧ t.word Header.hold = 0 ∧
      t.line = { s.line with idle := 0 } ∧
      SameBut [.now, .phase, .stations, .sched, .cache, .gathering, .line] s t := by
  obtain ⟨p, run⟩ := exec_launch_decided only running dt io
  have consulted : Consulted s.sched.cursor (s.demanded dt p) ((s.demanded dt p).consult s.sched.cursor) :=
    State.consulted_standing held standing
  have way := State.decision_runs (dt := dt) room none held active stop standing p
  generalize (s.demanded dt p).consult s.sched.cursor = c at *
  have cacheC : c.cache = s.cache := consulted.same .cache (by decide)
  have freeC : ∃ e : Fin 16, c.cache.entries[e].locks = 0 := by rw [cacheC]; exact free
  rw [State.heldLookup_starts (by rw [cacheC]; exact missing) (by rw [cacheC]; exact idle) freeC] at way
  obtain ⟨⟨e, target, fetch, entry, -⟩, sameF, -⟩ := State.startFetch_started freeC x.job
  generalize c.startFetch x.job = b at *
  have sameB : SameBut [.sched, .cache] (s.demanded dt p) b := (consulted.same.trans sameF).mono (by decide)
  have gathering : b.gathering = s.gathering := sameB .gathering (by decide)
  have pot : b.pot = s.pot := sameB .pot (by decide)
  have schedB : b.sched = c.sched := sameF .sched (by decide)
  have cell : ∀ q, b.cell q = s.cell q := fun q => by rw [State.cell, State.cell, gathering]
  have here : b.held x.index = some x := by
    rw [State.held_index held, State.held, schedB]
    exact (consulted.held _).trans held
  have launch : b.provisional x .first = (b.launch x .first .pending e, .launched) := by
    rw [State.provisional, if_neg personal, fetch]
    exact State.holdOrLaunch_launches here (State.holdCheck_pending (by rw [pot]; exact band) (by rw [cell]; exact empty))
  have taken := State.launchTaken here .first .pending e
  have run := run _ _ (way.trans launch) (.inl (by
    rw [(State.launched here .first .pending e).fetch, fetch]
    rfl))
  generalize (b.launch x .first .pending e).decided .launched = t at *
  obtain ⟨later, line, same⟩ := taken.after sameB (by decide)
  have now : t.now = b.now := taken.same .now (by decide)
  have serial : b.sched.nextSerial = s.sched.nextSerial := by rw [schedB, consulted.sched]; rfl
  refine ⟨t, run, later, ⟨e, by rw [← cacheC]; exact target, by rw [taken.fetch, fetch, now], ?_, ?_⟩,
    fun q hq => (taken.cells q hq).trans (cell q), taken.hold, taken.word, line, same.mono (by decide)⟩
  · rw [taken.entry, entry]
  · rw [taken.book, newBook_pending serial]

end

end Sys2Proof.Machine
end

section
/-!
The launch demand at a POSTED ticket, and the fetch ahead (R26, R28, R31).
-/

namespace Sys2Proof.Machine

/-! ### The lookup and the preflight (R26, R28) -/

theorem badQty_iff (r : JobRecord) (qty limit code : Nat) : badQty r.mode qty limit = some code ↔ QtyFault r qty limit code := by
  have range : (!within 1 9999 qty) = true ↔ qty < 1 ∨ 9999 < qty := by
    unfold within
    simp
  unfold badQty QtyFault
  by_cases bad : qty < 1 ∨ 9999 < qty
  · rw [if_pos (range.mpr bad), if_pos bad, Option.some_inj]
    exact eq_comm
  · rw [if_neg fun k => bad (range.mp k), if_neg bad]
    by_cases personal : r.mode = .personal ∧ qty ≠ 1
    · rw [if_pos personal, if_pos personal, Option.some_inj]
      exact eq_comm
    · rw [if_neg personal, if_neg personal]
      by_cases much : 15 < limit
      · rw [if_pos much, Option.some_inj]
        exact ⟨fun h => ⟨much, h.symm⟩, fun h => h.2.symm⟩
      · rw [if_neg much]
        exact ⟨fun h => (by cases h), fun h => absurd h.1 much⟩

theorem State.postedLookup_wrong {i : Nat} {s : State} (job : 63 < (s.mem.ticket i .job).toNat) :
    s.postedLookup i = s.refuse i .badJob 1 := if_pos job

theorem State.postedLookup_found {i : Nat} {e : Fin 16} {r : JobRecord} {s : State} (job : (s.mem.ticket i .job).toNat ≤ 63)
    (found : s.cache.lookup (s.mem.ticket i .job).toNat = some e) (copy : s.cache.entries[e].copy = some r) :
    s.postedLookup i = s.preflight i e r := by
  unfold State.postedLookup
  dsimp only
  rw [if_neg (by omega), found]
  dsimp only
  rw [copy]

theorem State.postedLookup_starts {i : Nat} {s : State} (job : (s.mem.ticket i .job).toNat ≤ 63)
    (missing : s.cache.lookup (s.mem.ticket i .job).toNat = none) (idle : s.cache.fetch = none)
    (free : ∃ e : Fin 16, s.cache.entries[e].locks = 0) :
    s.postedLookup i = (s.startFetch (s.mem.ticket i .job).toNat, .cacheMiss) := by
  obtain ⟨e, he⟩ := free
  unfold State.postedLookup
  dsimp only
  rw [if_neg (by omega), missing]
  dsimp only
  rw [if_neg fun k => (JobCache.allLocked_iff _).mp k e he, idle]

theorem State.postedLookup_waits {i : Nat} {s : State} (job : (s.mem.ticket i .job).toNat ≤ 63)
    (missing : s.cache.lookup (s.mem.ticket i .job).toNat = none)
    (busy : s.cache.fetch.isSome = true ∨ ∀ e : Fin 16, s.cache.entries[e].locks ≠ 0) :
    s.postedLookup i = (s, if ∀ e : Fin 16, s.cache.entries[e].locks ≠ 0 then .cacheLocked else .cacheMiss) := by
  unfold State.postedLookup
  dsimp only
  rw [if_neg (by omega), missing]
  dsimp only
  by_cases locked : ∀ e : Fin 16, s.cache.entries[e].locks ≠ 0
  · rw [if_pos ((JobCache.allLocked_iff _).mpr locked), if_pos locked]
  · rw [if_neg fun k => locked ((JobCache.allLocked_iff _).mp k), if_neg locked]
    obtain ⟨f, fetch⟩ := Option.isSome_iff_exists.mp (busy.resolve_right locked)
    rw [fetch]

theorem State.preflight_badJob {i : Nat} {e : Fin 16} {r : JobRecord} {code : Nat} {s : State}
    (bad : badJob r s.cache.stockPlace = some code) : s.preflight i e r = s.refuse i .badJob code := by
  unfold State.preflight
  dsimp only
  rw [bad]

theorem State.preflight_badQty {i : Nat} {e : Fin 16} {r : JobRecord} {code : Nat} {s : State}
    (good : badJob r s.cache.stockPlace = none)
    (bad : badQty r.mode (s.mem.ticket i .qty).toNat (s.mem.ticket i .remakeLimit).toNat = some code) :
    s.preflight i e r = s.refuse i .badQty code := by
  have quantity : badQty r.mode (activated s i r.mode).qty (activated s i r.mode).remakeLimit = some code := bad
  unfold State.preflight
  dsimp only
  rw [good]
  dsimp only
  rw [quantity]

/-- A POSTED ticket goes ACTIVE (R20, R26). -/
def State.activate (i : Nat) (x : HeldTicket) (s : State) : State :=
  (s.updSched fun c => { c with held := c.held ++ [x] }).putWord (ticketAddr i .stage) Stage.active.word

theorem State.preflight_activates {i : Nat} {e : Fin 16} {r : JobRecord} {s : State} (good : badJob r s.cache.stockPlace = none)
    (passes : badQty r.mode (s.mem.ticket i .qty).toNat (s.mem.ticket i .remakeLimit).toNat = none) :
    s.preflight i e r = (s.activate i (activated s i r.mode)).holdOrLaunch i .first .present e := by
  have quantity : badQty r.mode (activated s i r.mode).qty (activated s i r.mode).remakeLimit = none := passes
  unfold State.preflight
  dsimp only
  rw [good]
  dsimp only
  rw [quantity]
  rfl

theorem State.activate_effect {i : Nat} {x : HeldTicket} {s : State} (index : x.index = i) (free : s.held i = none) :
    (s.activate i x).held i = some x ∧ (∀ k, k ≠ i → (s.activate i x).held k = s.held k) ∧
      (s.activate i x).mem.ticket i .stage = 2 ∧ (s.activate i x).sched = { s.sched with held := s.sched.held ++ [x] } ∧
      SameBut [.sched] s (s.activate i x) ∧ BytesBut [ticketAddr i .stage] s (s.activate i x) := by
  have find : ∀ k, (s.activate i x).held k = (s.held k).or (if i = k then some x else none) := fun k => by
    change (s.sched.held ++ [x]).find? _ = ((s.sched.held.find? _).or _)
    rw [List.find?_append, List.find?_singleton, index]
    simp only [decide_eq_true_eq]
  refine ⟨?_, fun k hk => ?_, State.word_putWord_same _ _ _, rfl,
    fun p hp => (by cases p <;> simp [Part.same, State.activate] at hp ⊢),
    (BytesBut.of_mem (w := []) (s := s) rfl).trans (State.putWord_bytes _ _ _)⟩
  · rw [find, free, if_pos rfl]
    rfl
  · rw [find, if_neg fun h => hk h.symm, Option.or_none]

/-! ### The demand at a POSTED ticket -/

section
variable {s : State} {dt : Nat} {io : CountInputs} (only : OnlyEvent (.opens .launch) s) (running : s.line.mode = .running)
  (room : s.trim.queue.length < s.config.settings.highMark) (none : s.sched.remakes = []) {i : Nat} (cursor : i = s.sched.cursor)
  (free : s.held i = .none) (posted : s.mem.ticket i .stage = 1)

include room none cursor free posted in
theorem State.decision_posted (p : PhaseUnit) :
    (s.demanded dt p).decision =
      if s.mem.cancelled i then (s.demanded dt p).refuse i .cancelled 0 else (s.demanded dt p).postedLookup i := by
  subst cursor
  exact (State.decision_cursor (s := s.demanded dt p) room none).trans
    (State.cursorCandidate_posted (s := s.demanded dt p) free posted)

theorem State.not_cancelled (request : s.mem.ticket i .request ≠ 1) : s.mem.cancelled i = false := decide_eq_false request

include only running in
/-- A demand that refuses the ticket under the cursor. -/
theorem launchDemand_refused (busy : s.cache.fetch.isSome = true) {reason : EndReason} {code : Nat}
    (decision : ∀ p, (s.demanded dt p).decision = (s.demanded dt p).refuse i reason code) :
    ∃ t, exec (.forwardEncoderCount dt io) s = .next t ∧ Later dt s t ∧ RefusedTicket i reason.number code s t ∧
      GapTaken .noWork s t ∧ t.sched = { s.sched with cursor := t.sched.cursor, hold := .noWork } ∧
      t.port = { s.port with counts := t.port.counts, attention := t.port.attention } ∧
      SameBut [.now, .phase, .stations, .sched, .line, .port] s t ∧
      BytesBut ([Header.hold, Header.count 1, Header.cursor] ++ ticketWordsAt i) s t := by
  obtain ⟨p, run⟩ := exec_launch_decided only running dt io
  obtain ⟨⟨stage, endReason, defect, zeros, finish, noticed, cursorU, cursorWord⟩, sched, port, same, bytes⟩ :=
    State.refuse_effect i reason code (s.demanded dt p)
  have cacheU : ((s.demanded dt p).refuse i reason code).1.cache = s.cache := same .cache (by decide)
  have run := run ((s.demanded dt p).refuse i reason code).1 .noWork (decision p) (.inl (by rw [cacheU]; exact busy))
  generalize ((s.demanded dt p).refuse i reason code).1 = u at *
  have done := u.decided_decided .noWork
  generalize u.decided .noWork = t at *
  obtain ⟨later, gap, sameT⟩ := done.gap (by decide) same (by decide)
  have ticket := ticket_of_header (by decide) done.bytes i
  have portT : t.port = u.port := done.same .port (by decide)
  have schedT : t.sched.cursor = u.sched.cursor := by rw [done.sched]
  refine ⟨t, run, later, ⟨(ticket _).trans stage, (ticket _).trans endReason, (ticket _).trans defect,
    fun f hf => (ticket f).trans (zeros f hf), (ticket _).trans finish, fun c => ?_, schedT.trans cursorU, ?_⟩, gap, ?_, ?_,
    sameT.mono (by decide), ?_⟩
  · rw [portT, done.bytes.word fun w hw => ?_]
    · exact noticed c
    · rw [List.mem_singleton.mp hw]
      revert c
      decide
  · rw [done.bytes.word (by decide), schedT]
    exact cursorWord
  · rw [done.sched, sched]
    rfl
  · rw [portT]
    exact port
  · refine (((BytesBut.of_mem (w := []) (s := s) (t := s.demanded dt p) rfl).trans bytes).trans done.bytes).mono fun a ha => ?_
    simp only [List.mem_append, List.mem_cons, List.not_mem_nil, or_false] at ha ⊢
    tauto

include only running room none cursor free posted in
theorem launchDemand_refuses {reason code : Nat} (busy : s.cache.fetch.isSome = true)
    (fault : (s.mem.ticket i .request = 1 ∧ reason = 64 ∧ code = 0) ∨
      (s.mem.ticket i .request ≠ 1 ∧ 63 < (s.mem.ticket i .job).toNat ∧ reason = 66 ∧ code = 1) ∨
      (s.mem.ticket i .request ≠ 1 ∧ (s.mem.ticket i .job).toNat ≤ 63 ∧ ∃ e r,
        s.cache.lookup (s.mem.ticket i .job).toNat = some e ∧ s.cache.entries[e].copy = some r ∧
        ((badJob r s.cache.stockPlace = some code ∧ reason = 66) ∨
          (badJob r s.cache.stockPlace = .none ∧
            QtyFault r (s.mem.ticket i .qty).toNat (s.mem.ticket i .remakeLimit).toNat code ∧ reason = 67)))) :
    ∃ t, exec (.forwardEncoderCount dt io) s = .next t ∧ Later dt s t ∧ RefusedTicket i reason code s t ∧
      GapTaken .noWork s t ∧ t.sched = { s.sched with cursor := t.sched.cursor, hold := .noWork } ∧
      t.port = { s.port with counts := t.port.counts, attention := t.port.attention } ∧
      SameBut [.now, .phase, .stations, .sched, .line, .port] s t ∧
      BytesBut ([Header.hold, Header.count 1, Header.cursor] ++ ticketWordsAt i) s t := by
  have decision := State.decision_posted (dt := dt) room none cursor free posted
  rcases fault with ⟨request, rfl, rfl⟩ | ⟨request, job, rfl, rfl⟩ | ⟨request, job, e, r, found, copy, checks⟩
  · have cancelled : s.mem.cancelled i = true := decide_eq_true request
    simp only [cancelled, if_true] at decision
    exact launchDemand_refused only running (reason := .cancelled) busy decision
  · simp only [State.not_cancelled request, Bool.false_eq_true, if_false] at decision
    exact launchDemand_refused only running (reason := .badJob) busy fun p =>
      (decision p).trans (State.postedLookup_wrong (s := s.demanded dt p) job)
  · simp only [State.not_cancelled request, Bool.false_eq_true, if_false] at decision
    have found : ∀ p, (s.demanded dt p).decision = (s.demanded dt p).preflight i e r := fun p =>
      (decision p).trans (State.postedLookup_found (s := s.demanded dt p) job found copy)
    rcases checks with ⟨bad, rfl⟩ | ⟨good, bad, rfl⟩
    · exact launchDemand_refused only running (reason := .badJob) busy fun p =>
        (found p).trans (State.preflight_badJob (s := s.demanded dt p) bad)
    · exact launchDemand_refused only running (reason := .badQty) busy fun p =>
        (found p).trans (State.preflight_badQty (s := s.demanded dt p) good ((badQty_iff r _ _ code).mpr bad))

variable (request : s.mem.ticket i .request ≠ 1) (job : (s.mem.ticket i .job).toNat ≤ 63)

section
variable (missing : s.cache.lookup (s.mem.ticket i .job).toNat = .none)

include only running room none cursor free posted request job missing in
theorem launchDemand_postedFetches (idle : s.cache.fetch = .none) (unlocked : ∃ e : Fin 16, s.cache.entries[e].locks = 0) :
    ∃ t, exec (.forwardEncoderCount dt io) s = .next t ∧ Later dt s t ∧ FetchStarted (s.mem.ticket i .job).toNat s t ∧
      GapTaken .cacheMiss s t ∧ t.sched = { s.sched with hold := .cacheMiss } ∧
      SameBut [.now, .phase, .stations, .sched, .cache, .line] s t ∧
      BytesBut [Header.hold, Header.occupancy] s t := by
  refine launchDemand_starts only running unlocked fun p => ?_
  rw [State.decision_posted (dt := dt) room none cursor free posted p, State.not_cancelled request, if_neg (by decide)]
  exact State.postedLookup_starts (s := s.demanded dt p) job missing idle unlocked

include only running room none cursor free posted request job missing in
theorem launchDemand_postedWaits (busy : s.cache.fetch.isSome = true ∨ (∀ e : Fin 16, s.cache.entries[e].locks ≠ 0)) :
    ∃ t, exec (.forwardEncoderCount dt io) s = .next t ∧ Later dt s t ∧
      GapTaken (if ∀ e : Fin 16, s.cache.entries[e].locks ≠ 0 then .cacheLocked else .cacheMiss) s t ∧
      t.sched = { s.sched with hold := t.sched.hold } ∧ SameBut [.now, .phase, .stations, .sched, .line] s t ∧
      BytesBut [Header.hold] s t := by
  obtain ⟨hold, hh⟩ : ∃ hold : HoldReason, hold =
    if ∀ e : Fin 16, s.cache.entries[e].locks ≠ 0 then .cacheLocked else .cacheMiss := ⟨_, rfl⟩
  have gap : hold ≠ .launched := by
    rw [hh]
    split <;> decide
  have decision : ∀ p, (s.demanded dt p).decision = (s.demanded dt p, hold) := fun p => by
    rw [State.decision_posted (dt := dt) room none cursor free posted p, State.not_cancelled request, if_neg (by decide), hh]
    exact State.postedLookup_waits (s := s.demanded dt p) job missing busy
  obtain ⟨t, run, later, taken, sched, same, bytes⟩ := launchDemand_gap only running gap decision busy
  rw [← hh]
  exact ⟨t, run, later, taken, by rw [sched], same, bytes⟩

end

variable (busy : s.cache.fetch.isSome = true) {e : Fin 16} {r : JobRecord}
  (found : s.cache.lookup (s.mem.ticket i .job).toNat = some e) (copy : s.cache.entries[e].copy = some r)
  (good : badJob r s.cache.stockPlace = .none)
  (passes : ∀ code, ¬ QtyFault r (s.mem.ticket i .qty).toNat (s.mem.ticket i .remakeLimit).toNat code)
  {x : HeldTicket} (activation : x = activated s i r.mode)

include room none cursor free posted request job found copy good passes activation in
theorem State.decision_activates (p : PhaseUnit) :
    (s.demanded dt p).decision = ((s.demanded dt p).activate i x).holdOrLaunch i .first .present e := by
  have quantity : badQty r.mode (s.mem.ticket i .qty).toNat (s.mem.ticket i .remakeLimit).toNat = .none :=
    Option.eq_none_iff_forall_ne_some.mpr fun code h => passes code ((badQty_iff r _ _ code).mp h)
  rw [State.decision_posted (dt := dt) room none cursor free posted p, State.not_cancelled request, if_neg (by decide),
    activation]
  exact (State.postedLookup_found (s := s.demanded dt p) job found copy).trans
    (State.preflight_activates (s := s.demanded dt p) good quantity)

include only running room none cursor free posted request job busy found copy good passes activation in
theorem launchDemand_activatedHeld {hold : HoldReason} (applies : HoldApplies r hold s) :
    ∃ t, exec (.forwardEncoderCount dt io) s = .next t ∧ Later dt s t ∧ GapTaken hold s t ∧
      t.held i = some x ∧ (∀ k, k ≠ i → t.held k = s.held k) ∧ t.mem.ticket i .stage = 2 ∧
      t.sched.cursor = i ∧ SameBut [.now, .phase, .stations, .sched, .line] s t ∧
      BytesBut [Header.hold, ticketAddr i .stage] s t := by
  obtain ⟨p, run⟩ := exec_launch_decided only running dt io
  have way := State.decision_activates (dt := dt) room none cursor free posted request job found copy good passes activation p
  have index : x.index = i := by rw [activation]; rfl
  obtain ⟨held, others, stage, sched, same, bytes⟩ := State.activate_effect (s := s.demanded dt p) index free
  generalize (s.demanded dt p).activate i x = a at *
  have cache : a.cache = s.cache := same .cache (by decide)
  have check : a.holdCheck a.cache.entries[e].copy = some hold := by
    rw [cache, copy]
    exact State.holdCheck_some (applies.congr (same .gathering (by decide)) (same .cover (by decide)) (same .pot (by decide)))
  have run := run a hold (way.trans (State.holdOrLaunch_holds check)) (.inl (by rw [cache]; exact busy))
  have done := a.decided_decided hold
  generalize a.decided hold = t at *
  obtain ⟨later, gap, sameT⟩ := done.gap applies.gap same (by decide)
  have heldT : ∀ k, t.held k = a.held k := State.held_of_sched (by rw [done.sched])
  refine ⟨t, run, later, gap, (heldT i).trans held, fun k hk => (heldT k).trans (others k hk), ?_, ?_, sameT.mono (by decide), ?_⟩
  · rw [ticket_of_header (by decide) done.bytes, stage]
  · rw [done.sched, sched, cursor]
    rfl
  · refine (((BytesBut.of_mem (w := []) (s := s) (t := s.demanded dt p) rfl).trans bytes).trans done.bytes).mono fun a ha => ?_
    simp only [List.mem_append, List.mem_cons, List.not_mem_nil, or_false] at ha ⊢
    tauto

include only running room none cursor free posted request job busy found copy good passes activation in
theorem launchDemand_activatedLaunches (clear : NoHold r s) {qty : Nat} (quantity : qty = (s.mem.ticket i .qty).toNat) :
    ∃ t, exec (.forwardEncoderCount dt io) s = .next t ∧ Later dt s t ∧
      t.cell 0 = .holding (newBook s x .first .present e) ∧ (∀ p : Fin 18, p ≠ 0 → t.cell p = s.cell p) ∧
      t.held i = some
        { x with
          launched := 1
          firstSerial := s.sched.nextSerial
          lastSerial := s.sched.nextSerial
          stage := if qty = 1 then .draining else .active } ∧
      (∀ k, k ≠ i → t.held k = s.held k) ∧ t.mem.ticket i .stage = (if qty = 1 then 3 else 2) ∧
      t.mem.ticket i .launched = 1 ∧ t.sched.cursor = (if qty = 1 then (i + 1) % 256 else i) ∧
      t.sched.hold = .launched ∧ t.word Header.hold = 0 ∧ t.line = { s.line with idle := 0 } ∧
      t.cache.entries[e] = { s.cache.entries[e] with locks := s.cache.entries[e].locks + 1, used := true } ∧
      SameBut [.now, .phase, .stations, .sched, .cache, .gathering, .line] s t := by
  obtain ⟨p, run⟩ := exec_launch_decided only running dt io
  have way := State.decision_activates (dt := dt) room none cursor free posted request job found copy good passes activation p
  have index : x.index = i := by rw [activation]; rfl
  obtain ⟨held, others, stage, sched, same, -⟩ := State.activate_effect (s := s.demanded dt p) index free
  generalize (s.demanded dt p).activate i x = a at *
  have cache : a.cache = s.cache := same .cache (by decide)
  have gathering : a.gathering = s.gathering := same .gathering (by decide)
  have cell : ∀ q, a.cell q = s.cell q := fun q => by rw [State.cell, State.cell, gathering]
  have serial : a.sched.nextSerial = s.sched.nextSerial := by rw [sched]; rfl
  have cursorA : a.sched.cursor = i := by rw [sched, cursor]; rfl
  have launch : a.holdOrLaunch i .first .present e = (a.launch x .first .present e, .launched) := by
    refine State.holdOrLaunch_launches held ?_
    dsimp only
    rw [cache, copy]
    exact State.holdCheck_none (clear.congr gathering (same .cover (by decide)) (same .pot (by decide)))
  have here : a.held x.index = some x := by rw [index]; exact held
  have taken := State.launchTaken here .first .present e
  have run := run _ _ (way.trans launch) (.inl (by
    rw [(State.launched here .first .present e).fetch, cache]
    exact busy))
  generalize (a.launch x .first .present e).decided .launched = t at *
  obtain ⟨later, line, sameT⟩ := taken.after same (by decide)
  obtain ⟨y, hy⟩ : ∃ y, y = x.afterLaunch .first s.sched.nextSerial := ⟨_, rfl⟩
  have last : (x.qty : Int) = x.launched + 1 - x.remade ↔ qty = 1 := by
    rw [activation, quantity]
    simp only [activated]
    omega
  have after : y =
      { x with
        launched := 1
        firstSerial := s.sched.nextSerial
        lastSerial := s.sched.nextSerial
        stage := if qty = 1 then .draining else .active } := by
    rw [hy, HeldTicket.afterLaunch_eq, if_congr ((and_iff_right rfl).trans last) rfl rfl, activation]
    rfl
  have active : x.stage = .active := by rw [activation]; rfl
  have fields := taken.fields
  have heldNow := taken.held
  have cursorNow := taken.cursor
  have othersNow := taken.others
  rw [serial, ← hy] at fields heldNow cursorNow
  rw [index] at fields heldNow othersNow
  have launched : TicketField.launched ∈ x.changed y := by rw [hy]; exact x.launched_changed _ _
  refine ⟨t, run, later, ?_, fun q hq => (taken.cells q hq).trans (cell q), by rw [heldNow, after],
    fun k hk => (othersNow k hk).trans (others k hk), ?_, ?_, ?_, taken.hold, taken.word, line, ?_, sameT.mono (by decide)⟩
  · rw [taken.book, newBook_congr serial cache]
  · by_cases one : qty = 1
    · have stageY : y.stage = .draining := by rw [after, if_pos one]
      have changed : TicketField.stage ∈ x.changed y :=
        HeldTicket.mem_changed.mpr ⟨by decide, by
          rw [HeldTicket.value, HeldTicket.value, stageY, active]
          decide⟩
      rw [fields, if_pos changed, if_pos one, HeldTicket.value, stageY]
      rfl
    · have stageY : y.stage = .active := by rw [after, if_neg one]
      rw [fields, if_neg one, stage, HeldTicket.value, stageY]
      split <;> rfl
  · rw [fields, if_pos launched, after]
    rfl
  · rw [cursorNow, cursorA, active, after]
    by_cases one : qty = 1
    · simp [one]
    · simp [one]
  · rw [taken.entry, cache]

end

/-! ### The fetch ahead (R31) -/

theorem State.prefetchJob_eq {s : State} {next job : Nat}
    (ticket : (s.held next = none ∧ s.mem.ticket next .stage = 1 ∧ job = (s.mem.ticket next .job).toNat) ∨
      (∃ x, s.held next = some x ∧ x.stage = .active ∧ job = x.job)) : s.prefetchJob next = some job := by
  rcases ticket with ⟨free, posted, rfl⟩ | ⟨x, held, active, rfl⟩
  · rw [State.prefetchJob, free]
    exact if_pos ((Stage.ofWord_posted _).mpr posted)
  · rw [State.prefetchJob, held]
    exact if_pos active

theorem State.prefetch_eq {s : State} {job : Nat} (ticket : s.prefetchJob ((s.sched.cursor + 1) % 256) = some job)
    (idle : s.cache.fetch = none) :
    s.prefetch =
      if job ≤ 63 ∧ s.cache.lookup job = none ∧ ∃ e : Fin 16, s.cache.entries[e].locks = 0 then s.startFetch job else s := by
  have free : s.cache.allLocked = false ↔ ∃ e : Fin 16, s.cache.entries[e].locks = 0 := by
    rw [← Bool.not_eq_true, JobCache.allLocked_iff]
    simp
  rw [State.prefetch, ticket]
  refine if_congr ?_ rfl rfl
  rw [idle]
  simp only [Option.isNone_none, Bool.true_and, Bool.and_eq_true, decide_eq_true_eq, Option.isNone_iff_eq_none,
    Bool.not_eq_true', free, and_assoc]

theorem launchDemand_prefetches {s : State} {dt : Nat} {io : CountInputs} (only : OnlyEvent (.opens .launch) s)
    (running : s.line.mode = .running) (full : s.config.settings.highMark ≤ s.trim.queue.length) (idle : s.cache.fetch = none)
    {next job : Nat} (after : next = (s.sched.cursor + 1) % 256)
    (ticket : (s.held next = none ∧ s.mem.ticket next .stage = 1 ∧ job = (s.mem.ticket next .job).toNat) ∨
      (∃ x, s.held next = some x ∧ x.stage = .active ∧ job = x.job)) :
    ∃ t, exec (.forwardEncoderCount dt io) s = .next t ∧ Later dt s t ∧ GapTaken .noRoom s t ∧
      t.sched = { s.sched with hold := .noRoom } ∧
      (if job ≤ 63 ∧ s.cache.lookup job = none ∧ ∃ e : Fin 16, s.cache.entries[e].locks = 0 then FetchStarted job s t
       else t.cache = s.cache) ∧
      SameBut [.now, .phase, .stations, .sched, .cache, .line] s t ∧ BytesBut [Header.hold, Header.occupancy] s t := by
  obtain ⟨p, run⟩ := exec_forward_launch only dt io
  have acting : s.line.mode.acting = true := by rw [running]; rfl
  rw [acting, if_pos rfl] at run
  replace run : exec (.forwardEncoderCount dt io) s = .next (s.demanded dt p).launchDemand := run
  rw [State.launchDemand_running (s := s.demanded dt p) running (State.decision_full full)] at run
  have done := (s.demanded dt p).decided_decided .noRoom
  generalize (s.demanded dt p).decided .noRoom = d at *
  obtain ⟨later, ⟨hold, word, line, stations⟩, same⟩ := done.gap (by decide) (SameBut.refl [] _) (by simp)
  have cache : d.cache = s.cache := done.same .cache (by decide)
  have held : ∀ k, d.held k = s.held k := fun k => by rw [State.held, done.sched]; rfl
  have words : ∀ f, d.mem.ticket next f = s.mem.ticket next f := ticket_of_header (by decide) done.bytes next
  have cursor : (d.sched.cursor + 1) % 256 = next := by rw [after, done.sched]; rfl
  rw [← held, ← words, ← words] at ticket
  rw [State.prefetch_eq (by rw [cursor]; exact State.prefetchJob_eq ticket) (by rw [cache]; exact idle), cache] at run
  have bytes : BytesBut [Header.hold] s d := ((BytesBut.of_mem (w := []) rfl).trans done.bytes).mono fun _ h => h
  by_cases fetches : job ≤ 63 ∧ s.cache.lookup job = none ∧ ∃ e : Fin 16, s.cache.entries[e].locks = 0
  · rw [if_pos fetches] at run
    obtain ⟨started, sameF, bytesF⟩ := State.startFetch_started (s := d) (by rw [cache]; exact fetches.2.2) job
    generalize d.startFetch job = t at *
    have sched : t.sched = d.sched := sameF .sched (by decide)
    refine ⟨t, run, (sameF .now (by decide)).trans later, ⟨by rw [sched, hold], ?_, (sameF .line (by decide)).trans line,
      (sameF .stations (by decide)).trans stations⟩, by rw [sched, done.sched]; rfl, (if_pos fetches).mpr ?_, (same.trans sameF).mono (by decide),
      (bytes.trans bytesF).mono fun _ h => h⟩
    · exact (bytesF.word (by decide)).trans word
    · exact started.between cache rfl rfl rfl
  · rw [if_neg fetches] at run
    exact ⟨d, run, later, ⟨hold, word, line, stations⟩, done.sched, (if_neg fetches).mpr cache, same.mono (by decide), bytes.mono (by decide)⟩

/-- Settles O21: the demand by the mode, the room, the remake list, and the ticket under the cursor. -/
theorem launchDemandDecides : Obligations.LaunchDemandDecides := by
  intro s dt io only
  refine ⟨launchDemand_notRunning only, fun running busy full bound => launchDemand_noRoom only running busy full bound, ?cached,
    ?listed, fun running full idle next after job ticket => launchDemand_prefetches only running full idle after ticket⟩
  case cached =>
    intro running busy room none x held active stop standing e found r copy
    exact ⟨fun clear => launchDemand_first only running busy room none held active stop standing found copy clear,
      fun hold applies inv =>
        launchDemand_held only running busy room none held active stop standing found copy applies inv⟩
  case listed =>
    intro running room _
    refine ⟨fun i rest list busy x held =>
      ⟨fun stop standing e found r copy clear =>
        launchDemand_remake only running busy room list held stop standing found copy clear,
       fun stopped stays => launchDemand_remakeStopped only running busy room list held stopped stays⟩,
      fun none i cursor => ⟨fun x held active stopped stays busy =>
        launchDemand_drains only running busy room none cursor held active stopped stays, ?idle, ?uncached, ?posted⟩⟩
    case idle =>
      subst cursor
      exact fun busy inv idle => launchDemand_idle only running room none busy inv idle
    case uncached =>
      subst cursor
      intro x held active stop standing missing
      exact ⟨fun f fetching job personal band empty =>
          launchDemand_pending only running room none held active stop standing missing fetching job personal band empty,
        fun f fetching other inv =>
          launchDemand_misses only running room none held active stop standing missing fetching other inv,
        fun idle free personal inv =>
          launchDemand_fetchesPersonal only running room none held active stop standing missing idle free personal inv,
        fun idle free personal band empty =>
          launchDemand_fetches only running room none held active stop standing missing idle free personal band empty⟩
    case posted =>
      rintro free posted job qty limit rfl rfl rfl
      refine ⟨fun reason code busy fault => launchDemand_refuses only running room none cursor free posted busy fault,
        fun request job busy e found r copy good passes x activation =>
          ⟨fun clear => launchDemand_activatedLaunches only running room none cursor free posted request job busy found copy good
              passes activation clear rfl,
            fun hold applies => launchDemand_activatedHeld only running room none cursor free posted request job busy found copy
              good passes activation applies⟩,
        fun request job missing =>
          ⟨fun idle unlocked =>
              launchDemand_postedFetches only running room none cursor free posted request job missing idle unlocked,
            fun busy => launchDemand_postedWaits only running room none cursor free posted request job missing busy⟩⟩

end Sys2Proof.Machine
end

section
/-!
No event of the counter's values reads the counter or the count since index (R1, R7): it leaves the same card, whatever the
two counts are.
-/

namespace Sys2Proof.Machine

/-- The card with other values of the counter and the count since index. -/
def State.counters (c k : Nat) (s : State) : State := s.updPhase fun p => { p with counter := c, sinceIndex := k }

section
variable (c k : Nat) (s : State)

@[simp] theorem State.counters_ite {p : Prop} {_ : Decidable p} (t : State) :
    (if p then s.counters c k else t.counters c k) = (if p then s else t).counters c k := (apply_ite _ _ _ _).symm

/-! ### What is read of the card -/

@[simp] theorem State.counters_fields :
    (s.counters c k).now = s.now ∧ (s.counters c k).stations = s.stations ∧ (s.counters c k).sched = s.sched ∧
      (s.counters c k).cache = s.cache ∧ (s.counters c k).gathering = s.gathering ∧ (s.counters c k).carousel = s.carousel ∧
      (s.counters c k).format = s.format ∧ (s.counters c k).miller = s.miller ∧ (s.counters c k).pot = s.pot ∧
      (s.counters c k).glue = s.glue ∧ (s.counters c k).cover = s.cover ∧ (s.counters c k).trim = s.trim ∧
      (s.counters c k).line = s.line ∧ (s.counters c k).port = s.port ∧ (s.counters c k).config = s.config ∧
      (s.counters c k).mem = s.mem :=
  ⟨rfl, rfl, rfl, rfl, rfl, rfl, rfl, rfl, rfl, rfl, rfl, rfl, rfl, rfl, rfl, rfl⟩

@[simp] theorem State.counters_cell (p : Fin 18) : (s.counters c k).cell p = s.cell p := rfl

@[simp] theorem State.counters_clampAt (p : Fin 24) : (s.counters c k).clampAt p = s.clampAt p := rfl

@[simp] theorem State.counters_held (i : Nat) : (s.counters c k).held i = s.held i := rfl

/-! ### The parts changed -/

@[simp] theorem State.updStations_counters (f : Stations → Stations) :
    (s.counters c k).updStations f = (s.updStations f).counters c k := rfl

@[simp] theorem State.updSched_counters (f : Schedule → Schedule) :
    (s.counters c k).updSched f = (s.updSched f).counters c k := rfl

@[simp] theorem State.updCache_counters (f : JobCache → JobCache) :
    (s.counters c k).updCache f = (s.updCache f).counters c k := rfl

@[simp] theorem State.updGathering_counters (f : Gathering → Gathering) :
    (s.counters c k).updGathering f = (s.updGathering f).counters c k := rfl

@[simp] theorem State.updCarousel_counters (f : Carousel → Carousel) :
    (s.counters c k).updCarousel f = (s.updCarousel f).counters c k := rfl

@[simp] theorem State.updFormat_counters (f : FormatUnit → FormatUnit) :
    (s.counters c k).updFormat f = (s.updFormat f).counters c k := rfl

@[simp] theorem State.updMiller_counters (f : Miller → Miller) :
    (s.counters c k).updMiller f = (s.updMiller f).counters c k := rfl

@[simp] theorem State.updPot_counters (f : GluePot → GluePot) : (s.counters c k).updPot f = (s.updPot f).counters c k := rfl

@[simp] theorem State.updGlue_counters (f : GlueStations → GlueStations) :
    (s.counters c k).updGlue f = (s.updGlue f).counters c k := rfl

@[simp] theorem State.updCover_counters (f : CoverStation → CoverStation) :
    (s.counters c k).updCover f = (s.updCover f).counters c k := rfl

@[simp] theorem State.updTrim_counters (f : Trimmer → Trimmer) : (s.counters c k).updTrim f = (s.updTrim f).counters c k := rfl

@[simp] theorem State.updLine_counters (f : LineControl → LineControl) :
    (s.counters c k).updLine f = (s.updLine f).counters c k := rfl

@[simp] theorem State.updPort_counters (f : Port → Port) : (s.counters c k).updPort f = (s.updPort f).counters c k := rfl

@[simp] theorem State.putWord_counters (a : Nat) (w : Word) : (s.counters c k).putWord a w = (s.putWord a w).counters c k := rfl

@[simp] theorem State.putNat_counters (a n : Nat) : (s.counters c k).putNat a n = (s.putNat a n).counters c k := rfl

@[simp] theorem State.notify_counters (a : Attention) : (s.counters c k).notify a = (s.notify a).counters c k := rfl

@[simp] theorem State.setCell_counters (p : Fin 18) (x : Slot) : (s.counters c k).setCell p x = (s.setCell p x).counters c k := rfl

@[simp] theorem State.modCell_counters (p : Fin 18) (f : Book → Book) :
    (s.counters c k).modCell p f = (s.modCell p f).counters c k := rfl

@[simp] theorem State.setClamp_counters (p : Fin 24) (x : Slot) :
    (s.counters c k).setClamp p x = (s.setClamp p x).counters c k := rfl

@[simp] theorem State.modClamp_counters (p : Fin 24) (f : Book → Book) :
    (s.counters c k).modClamp p f = (s.modClamp p f).counters c k := rfl

/-- What commutes with the counts at every step of a fold does so over the whole of it. -/
theorem State.foldl_counters {α : Type} {f : State → α → State} (each : ∀ (s : State) x, f (s.counters c k) x = (f s x).counters c k)
    (l : List α) : l.foldl f (s.counters c k) = (l.foldl f s).counters c k := by
  induction l generalizing s with
  | nil => rfl
  | cons x l ih => rw [List.foldl_cons, each, ih, List.foldl_cons]

end

section
variable (c k : Nat) (s : State)

@[simp] theorem State.putWords_counters (l : List (Nat × Word)) : (s.counters c k).putWords l = (s.putWords l).counters c k :=
  s.foldl_counters c k (fun _ _ => rfl) l

/-! ### The cache (R44, R51) -/

@[simp] theorem State.changeCache_counters (f : JobCache → JobCache) :
    (s.counters c k).changeCache f = (s.changeCache f).counters c k := by
  simp [State.changeCache]
  rfl

@[simp] theorem State.setEntry_counters (e : Fin 16) (x : CacheEntry) :
    (s.counters c k).setEntry e x = (s.setEntry e x).counters c k := by
  simp [State.setEntry]

@[simp] theorem State.freeLock_counters (b : Book) : (s.counters c k).freeLock b = (s.freeLock b).counters c k := by
  unfold State.freeLock
  cases b.entry <;> simp [State.dropLock]

@[simp] theorem State.releaseClamp_counters (p : Fin 24) :
    (s.counters c k).releaseClamp p = (s.releaseClamp p).counters c k := by
  simp only [State.releaseClamp, State.counters_clampAt]
  cases s.clampAt p <;> simp

@[simp] theorem State.startFetch_counters (j : Nat) : (s.counters c k).startFetch j = (s.startFetch j).counters c k := by
  simp only [State.startFetch, State.counters_fields]
  rcases s.cache.target with ⟨_ | e, d⟩ <;> simp

/-! ### Held tickets and postings (R33 to R40, R152) -/

@[simp] theorem State.setRemakes_counters (l : List Nat) : (s.counters c k).setRemakes l = (s.setRemakes l).counters c k := by
  simp [State.setRemakes]

@[simp] theorem State.changeTicket_counters (x y : HeldTicket) :
    (s.counters c k).changeTicket x y = (s.changeTicket x y).counters c k := by
  simp [State.changeTicket]

@[simp] theorem State.advanceCursor_counters : (s.counters c k).advanceCursor = s.advanceCursor.counters c k := rfl

@[simp] theorem State.writeEnd_counters (i : Nat) (l : List (TicketField × Word)) (r : EndReason) (g : Stage) :
    (s.counters c k).writeEnd i l r g = (s.writeEnd i l r g).counters c k := by
  simp [State.writeEnd]

@[simp] theorem State.endCheck_counters (i : Nat) : (s.counters c k).endCheck i = (s.endCheck i).counters c k := by
  simp only [State.endCheck, State.counters_held]
  cases s.held i with
  | none => rfl
  | some x => simp [State.endHeld]

@[simp] theorem State.consult_counters (i : Nat) : (s.counters c k).consult i = (s.consult i).counters c k := by
  simp only [State.consult, State.counters_held]
  cases s.held i <;> simp

@[simp] theorem State.logEntry_counters (b : Book) (e : LogEntry) :
    (s.counters c k).logEntry b e = (s.logEntry b e).counters c k := by
  simp [State.logEntry]

@[simp] theorem State.spoilHeld_counters (b : Book) (m : SpoilMark) (p : PostPoint) (x : HeldTicket) (queued : Bool) :
    (s.counters c k).spoilHeld b m p x queued = (s.spoilHeld b m p x queued).counters c k := by
  cases queued <;> simp [State.spoilHeld]

@[simp] theorem State.postBook_counters (b : Book) (p : PostPoint) :
    (s.counters c k).postBook b p = (s.postBook b p).counters c k := by
  unfold State.postBook
  cases b.spoil with
  | none => rfl
  | some m =>
    simp only [State.postSpoiled_eq, State.consult_counters, State.counters_held]
    cases (s.consult b.ticket).held b.ticket <;> simp

/-! ### The launch demand (R23 to R31) -/

@[simp] theorem State.launch_counters (x : HeldTicket) (kind : BookKind) (format : FormatState) (e : Fin 16) :
    (s.counters c k).launch x kind format e = (s.launch x kind format e).counters c k := by
  have book : newBook (s.counters c k) x kind format e = newBook s x kind format e := rfl
  simp only [State.launch, book]
  by_cases remake : kind = .remake <;> simp [remake]

/-- A decision with its hold reason, on the card with other counts. -/
def recounted (c k : Nat) (d : State × HoldReason) : State × HoldReason := (d.1.counters c k, d.2)

@[simp] theorem recounted_pair (h : HoldReason) : (s.counters c k, h) = recounted c k (s, h) := rfl

@[simp] theorem recounted_parts (d : State × HoldReason) : (recounted c k d).1 = d.1.counters c k ∧ (recounted c k d).2 = d.2 :=
  ⟨rfl, rfl⟩

@[simp] theorem recounted_ite {p : Prop} {_ : Decidable p} (d e : State × HoldReason) :
    (if p then recounted c k d else recounted c k e) = recounted c k (if p then d else e) := (apply_ite _ _ _ _).symm

@[simp] theorem State.holdOrLaunch_counters (i : Nat) (kind : BookKind) (format : FormatState) (e : Fin 16) :
    (s.counters c k).holdOrLaunch i kind format e = recounted c k (s.holdOrLaunch i kind format e) := by
  have check : ∀ copy, (s.counters c k).holdCheck copy = s.holdCheck copy := fun _ => rfl
  simp only [State.holdOrLaunch, check, State.counters_held, State.counters_fields]
  generalize s.holdCheck _ = checked
  cases checked with
  | some h => rfl
  | none => cases s.held i <;> simp

@[simp] theorem State.provisional_counters (x : HeldTicket) (kind : BookKind) :
    (s.counters c k).provisional x kind = recounted c k (s.provisional x kind) := by
  simp only [State.provisional, State.counters_fields]
  cases s.cache.fetch <;> simp

@[simp] theorem State.heldLookup_counters (x : HeldTicket) (kind : BookKind) :
    (s.counters c k).heldLookup x kind = recounted c k (s.heldLookup x kind) := by
  simp only [State.heldLookup, State.counters_fields]
  cases s.cache.lookup x.job with
  | some e => simp
  | none => cases s.cache.fetch <;> simp

@[simp] theorem State.refuse_counters (i : Nat) (r : EndReason) (d : Nat) :
    (s.counters c k).refuse i r d = recounted c k (s.refuse i r d) := by
  simp [State.refuse, State.endUnheld]

@[simp] theorem State.postedLookup_counters (i : Nat) :
    (s.counters c k).postedLookup i = recounted c k (s.postedLookup i) := by
  have active : ∀ e r, (s.counters c k).preflight i e r = recounted c k (s.preflight i e r) := fun e r => by
    have ticket : activated (s.counters c k) i r.mode = activated s i r.mode := rfl
    simp only [State.preflight, State.counters_fields, ticket]
    cases badJob r s.cache.stockPlace with
    | some code => simp
    | none => cases badQty r.mode (activated s i r.mode).qty (activated s i r.mode).remakeLimit <;> simp
  simp only [State.postedLookup, State.counters_fields]
  cases s.cache.lookup (s.mem.ticket i .job).toNat with
  | some e =>
    dsimp only
    cases s.cache.entries[e].copy <;> simp [active]
  | none => cases s.cache.fetch <;> simp

@[simp] theorem State.remakeCandidate_counters (i : Nat) :
    (s.counters c k).remakeCandidate i = recounted c k (s.remakeCandidate i) := by
  simp only [State.remakeCandidate, State.consult_counters, State.counters_held]
  cases (s.consult i).held i <;> simp

@[simp] theorem State.cursorCandidate_counters : (s.counters c k).cursorCandidate = recounted c k s.cursorCandidate := by
  simp only [State.cursorCandidate, State.consult_counters, State.counters_held, State.counters_fields]
  cases (s.consult s.sched.cursor).held s.sched.cursor with
  | some x =>
    dsimp only
    cases x.stage <;> simp [State.drain]
  | none =>
    dsimp only
    cases Stage.ofWord (s.mem.ticket s.sched.cursor .stage) <;> simp

@[simp] theorem State.decision_counters : (s.counters c k).decision = recounted c k s.decision := by
  simp only [State.decision, State.counters_fields]
  cases s.sched.remakes <;> simp

@[simp] theorem State.prefetch_counters : (s.counters c k).prefetch = s.prefetch.counters c k := by
  have job : ∀ i, (s.counters c k).prefetchJob i = s.prefetchJob i := fun _ => rfl
  simp only [State.prefetch, State.counters_fields, job]
  cases s.prefetchJob ((s.sched.cursor + 1) % 256) <;> simp

@[simp] theorem State.launchDemand_counters : (s.counters c k).launchDemand = s.launchDemand.counters c k := by
  simp [State.launchDemand, State.setHold]

end
end Sys2Proof.Machine
end

section
/-!
The stations' work at their windows does not read the counter or the count since index (R1, R7).
-/

namespace Sys2Proof.Machine

section
variable (c k : Nat) (s : State)

/-! ### Engagement, changeovers and mode changes (R12, R16, R156, R161) -/

@[simp] theorem State.counters_engagement (w : Window) :
    (s.counters c k).isEngaged w = s.isEngaged w ∧ (s.counters c k).isServing w = s.isServing w := ⟨rfl, rfl⟩

@[simp] theorem State.counters_inFlight : (s.counters c k).inFlight = s.inFlight := rfl

@[simp] theorem State.serve_counters (w : Window) : (s.counters c k).serve w = (s.serve w).counters c k := rfl

@[simp] theorem State.restStation_counters (w : Window) :
    (s.counters c k).restStation w = (s.restStation w).counters c k := by
  cases w <;> rfl

@[simp] theorem State.disengage_counters (w : Window) : (s.counters c k).disengage w = (s.disengage w).counters c k := by
  simp [State.disengage]

@[simp] theorem State.disengageAll_counters : (s.counters c k).disengageAll = s.disengageAll.counters c k :=
  s.foldl_counters c k (fun s w => s.disengage_counters c k w) allWindows

@[simp] theorem State.millChangeover_counters : (s.counters c k).millChangeover = s.millChangeover.counters c k := by
  simp only [State.millChangeover, State.counters_clampAt]
  cases (s.clampAt 3).goodFormat <;> simp

@[simp] theorem State.coverChangeover_counters : (s.counters c k).coverChangeover = s.coverChangeover.counters c k := by
  simp only [State.coverChangeover, State.counters_clampAt]
  cases (s.clampAt 8).goodFormat.bind (·.cover) <;> simp

@[simp] theorem State.takePending_counters : (s.counters c k).takePending = s.takePending.counters c k := by
  simp [State.takePending]

@[simp] theorem State.driveStart_counters : (s.counters c k).driveStart = s.driveStart.counters c k := rfl

@[simp] theorem State.changeDrive_counters (before mode : LineMode) :
    (s.counters c k).changeDrive before mode = (s.changeDrive before mode).counters c k := by
  unfold State.changeDrive
  cases before.acting <;> by_cases cold : mode = .cold <;> simp [cold]

@[simp] theorem State.snapshot_counters : (s.counters c k).snapshot = s.snapshot.counters c k := by
  have words : (s.counters c k).snapshotWords = s.snapshotWords := rfl
  simp [State.snapshot, words]

@[simp] theorem State.changeMode_counters (m : LineMode) : (s.counters c k).changeMode m = (s.changeMode m).counters c k := by
  unfold State.changeMode
  cases m.acting <;> by_cases halted : m = .halted <;> simp [halted]

@[simp] theorem State.raiseCause_counters (a : Cause) : (s.counters c k).raiseCause a = (s.raiseCause a).counters c k := by
  simp only [State.raiseCause, State.counters_fields, State.setCauses, State.enterHalt]
  cases s.line.causes.has a <;> simp

@[simp] theorem State.emptyingCheck_counters : (s.counters c k).emptyingCheck = s.emptyingCheck.counters c k := by
  simp [State.emptyingCheck]

/-! ### The chain's stations (R53, R61, R63, R71) -/

@[simp] theorem State.usePoint_counters (p : Fin 18) : (s.counters c k).usePoint p = (s.usePoint p).counters c k := by
  simp only [State.usePoint, State.counters_cell]
  cases s.cell p <;> simp

@[simp] theorem State.usePointClamp_counters (p : Fin 24) :
    (s.counters c k).usePointClamp p = (s.usePointClamp p).counters c k := by
  simp only [State.usePointClamp, State.counters_clampAt]
  cases s.clampAt p <;> simp

@[simp] theorem State.usePoints_counters : (s.counters c k).usePoints = s.usePoints.counters c k := by
  rw [State.usePoints, s.foldl_counters c k fun s p => s.usePoint_counters c k p]
  exact State.foldl_counters c k _ (fun s p => s.usePointClamp_counters c k p) _

@[simp] theorem State.feedAll_counters : (s.counters c k).feedAll = s.feedAll.counters c k := by
  have feed : (s.counters c k).feedDecision = s.feedDecision := rfl
  rw [State.feedAll, feed]
  rfl

@[simp] theorem State.pocketVerdict_counters (io : CountInputs) (n : Fin 16) :
    (s.counters c k).pocketVerdict io n = (s.pocketVerdict io n).counters c k := by
  have sheet : (s.counters c k).sheetOutcome = s.sheetOutcome := rfl
  simp only [State.pocketVerdict, State.counters_fields, State.counters_cell, sheet]
  cases s.gathering.pockets[n].feed <;> simp

@[simp] theorem State.pocketVerdicts_counters (io : CountInputs) :
    (s.counters c k).pocketVerdicts io = (s.pocketVerdicts io).counters c k :=
  s.foldl_counters c k (fun s n => s.pocketVerdict_counters c k io n) _

@[simp] theorem State.loadTransfer_counters : (s.counters c k).loadTransfer = s.loadTransfer.counters c k := by
  simp only [State.loadTransfer, State.counters_cell]
  cases s.cell 17 <;> simp

/-! ### The carousel's stations (R81, R91, R92, R107, R108, R115 to R118, R122, R124, R125) -/

@[simp] theorem State.gaugeStart_counters : (s.counters c k).gaugeStart = s.gaugeStart.counters c k := by
  simp only [State.gaugeStart, State.counters_clampAt]
  cases s.clampAt 2 <;> simp

@[simp] theorem State.gaugeEnd_counters : (s.counters c k).gaugeEnd = s.gaugeEnd.counters c k := by
  have copy : (s.counters c k).jobCopy = s.jobCopy := rfl
  simp only [State.gaugeEnd, State.counters_engagement, State.counters_clampAt, copy]
  cases s.isServing .gauge with
  | false => simp
  | true =>
    cases s.clampAt 2 with
    | holding b =>
      dsimp only
      cases s.jobCopy b <;> simp
    | empty => simp
    | unknown => simp

@[simp] theorem State.millStart_counters : (s.counters c k).millStart = s.millStart.counters c k := by
  simp only [State.millStart, State.counters_clampAt]
  cases (s.clampAt 4).goodFormat <;> simp

@[simp] theorem State.judgeWear_counters : (s.counters c k).judgeWear = s.judgeWear.counters c k := by
  simp [State.judgeWear]

@[simp] theorem State.millEnd_counters : (s.counters c k).millEnd = s.millEnd.counters c k := by
  simp only [State.millEnd, State.counters_fields, State.counters_clampAt]
  cases s.clampAt 4 with
  | holding b =>
    dsimp only
    cases b.gauged <;> simp
  | empty => simp
  | unknown => simp

@[simp] theorem State.spineStart_counters : (s.counters c k).spineStart = s.spineStart.counters c k := by
  have comp : (s.counters c k).phase.comp = s.phase.comp := rfl
  simp only [State.spineStart, State.counters_clampAt, comp]
  cases (s.clampAt 6).goodFormat <;> simp

@[simp] theorem State.spineCloses_counters : (s.counters c k).spineCloses = s.spineCloses.counters c k := rfl

@[simp] theorem State.spineEnd_counters : (s.counters c k).spineEnd = s.spineEnd.counters c k := by
  simp [State.spineEnd]

@[simp] theorem State.sideStart_counters : (s.counters c k).sideStart = s.sideStart.counters c k := by
  have comp : (s.counters c k).phase.comp = s.phase.comp := rfl
  simp only [State.sideStart, State.counters_clampAt, comp]
  cases (s.clampAt 7).goodFormat <;> simp

@[simp] theorem State.coverChecks_counters (l : LaunchFormat) (code : Option Word) (b : Book) :
    (s.counters c k).coverChecks l code b = (s.coverChecks l code b).counters c k := by
  have fed : ∀ scored b', (s.counters c k).feedCover l code scored b' = (s.feedCover l code scored b').counters c k :=
    fun _ _ => by simp [State.feedCover]
  have ready : (s.counters c k).scorerReady b = s.scorerReady b := rfl
  have magazine : (s.counters c k).magazineEmpty = s.magazineEmpty := rfl
  simp [State.coverChecks, fed, ready, magazine]

@[simp] theorem State.coverStart_counters (code : Option Word) :
    (s.counters c k).coverStart code = (s.coverStart code).counters c k := by
  simp only [State.coverStart, State.counters_clampAt]
  cases s.clampAt 9 with
  | holding b =>
    dsimp only
    cases b.atLaunch <;> simp
  | empty => rfl
  | unknown => rfl

@[simp] theorem State.coverEnd_counters : (s.counters c k).coverEnd = s.coverEnd.counters c k := by
  simp [State.coverEnd]

@[simp] theorem State.nipStart_counters : (s.counters c k).nipStart = s.nipStart.counters c k := by
  simp only [State.nipStart, State.counters_clampAt]
  cases s.clampAt 10 <;> simp

@[simp] theorem State.nipEnd_counters : (s.counters c k).nipEnd = s.nipEnd.counters c k := by
  simp [State.nipEnd]

@[simp] theorem State.openClamp_counters (g : Gate1) : (s.counters c k).openClamp g = (s.openClamp g).counters c k := rfl

@[simp] theorem State.testTake_counters : (s.counters c k).testTake = s.testTake.counters c k := by
  simp only [State.testTake, State.counters_fields]
  cases s.trim.queue with
  | nil => rfl
  | cons e l =>
    dsimp only
    cases e.book.knives <;> simp

@[simp] theorem State.deliverEnd_counters : (s.counters c k).deliverEnd = s.deliverEnd.counters c k := by
  simp only [State.deliverEnd, State.counters_clampAt]
  cases s.clampAt 17 <;> simp [State.appendBook]

@[simp] theorem State.deliverUnserved_counters : (s.counters c k).deliverUnserved = s.deliverUnserved.counters c k := by
  simp only [State.deliverUnserved, State.counters_clampAt]
  cases s.clampAt 17 <;> simp

/-! ### The events (R7, R116) -/

@[simp] theorem State.startWork_counters (w : Window) (io : CountInputs) :
    (s.counters c k).startWork w io = (s.startWork w io).counters c k := by
  cases w <;> simp [State.startWork]

@[simp] theorem State.endWork_counters (w : Window) (io : CountInputs) :
    (s.counters c k).endWork w io = (s.endWork w io).counters c k := by
  cases w <;> simp [State.endWork, State.sideEnd]

@[simp] theorem State.unservedEnd_counters (w : Window) :
    (s.counters c k).unservedEnd w = (s.unservedEnd w).counters c k := by
  cases w
  case pocket =>
    exact State.foldl_counters c k s (f := fun s p => s.modCell p (Book.inched (chainPoint p))) (fun s p => rfl) pocketPositions
  all_goals simp [State.unservedEnd, stationPosition]

@[simp] theorem State.changeover_counters (w : Window) : (s.counters c k).changeover w = (s.changeover w).counters c k := by
  cases w <;> simp [State.changeover]

theorem State.starting_counters (w : Window) : (s.counters c k).starting w = (s.starting w).counters c k := rfl

theorem State.ending_counters (w : Window) : (s.counters c k).ending w = (s.ending w).counters c k := rfl

@[simp] theorem State.windowStart_counters (w : Window) (io : CountInputs) :
    (s.counters c k).windowStart w io = (s.windowStart w io).counters c k := by
  simp [State.windowStart_eq, State.opened, State.starting_counters]

@[simp] theorem State.windowEnd_counters (w : Window) (io : CountInputs) :
    (s.counters c k).windowEnd w io = (s.windowEnd w io).counters c k := by
  simp [State.windowEnd_eq, State.ending_counters]

/-- An event leaves the same card, whatever the counter and the count since index are. -/
theorem State.takeEvent_counters (io : CountInputs) (e : PhaseEvent) :
    (s.counters c k).takeEvent io e = (s.takeEvent io e).counters c k := by
  cases e with
  | opens w => exact s.windowStart_counters c k w io
  | closes w => exact s.windowEnd_counters c k w io
  | spineOpen => rfl
  | spineClose => rfl
  | sideOpen => rfl
  | sideClose => rfl

end

end Sys2Proof.Machine
end

section
/-!
The index mark as forward counts in its place: the skipped span raised value by value (R3, R4, R6).
-/

namespace Sys2Proof.Machine

/-! ### The skipped span (R4) -/

section
variable (c k : Nat) (s : State)

theorem State.counters_eventValue (e : PhaseEvent) : (s.counters c k).eventValue e = s.eventValue e := by
  cases e <;> rfl

theorem State.skippedAt_counters (p : Nat) (io : CountInputs) :
    (s.counters c k).skippedAt p io = (s.skippedAt p io).counters c k := by
  refine State.foldl_counters c k s (fun u e => ?_) _
  rw [State.eventAt, State.eventAt, State.counters_eventValue, State.takeEvent_counters]
  exact State.counters_ite c k _ _

/-- The order in which events are taken is not theirs to read (assumption log, entry 6). -/
theorem State.takeEvent_startsFirst (io : CountInputs) (e : PhaseEvent) : s.takeEvent (startsFirst io) e = s.takeEvent io e := by
  cases e with
  | opens w => cases w <;> rfl
  | closes w => cases w <;> rfl
  | spineOpen | spineClose | sideOpen | sideClose => rfl

theorem State.skippedAt_eq (p : Nat) (io : CountInputs) : s.skippedAt p io = s.eventsAt p (startsFirst io) := by
  have each : ∀ (u : State) e, u.eventAt p (startsFirst io) e = u.eventAt p io e := fun u e => by
    rw [State.eventAt, State.eventAt, State.takeEvent_startsFirst]
  rw [State.skippedAt, State.eventsAt]
  simp only [each]
  rfl

theorem State.skippedAt_phase (p : Nat) (io : CountInputs) :
    (s.skippedAt p io).phase =
      { s.phase with startTaken := (s.skippedAt p io).phase.startTaken, endTaken := (s.skippedAt p io).phase.endTaken } :=
  s.eventList_phase p io _

theorem State.runSpan_phase (io : CountInputs) (n : Nat) :
    (s.runSpan io n).phase =
      { s.phase with startTaken := (s.runSpan io n).phase.startTaken, endTaken := (s.runSpan io n).phase.endTaken } := by
  induction n generalizing s with
  | zero => rfl
  | succ n ih => rw [State.runSpan, ih, s.skippedAt_phase]

theorem State.counters_counters (c' k' : Nat) : (s.counters c k).counters c' k' = s.counters c' k' := rfl

theorem State.counters_own {s : State} (counter : s.phase.counter = c) (since : s.phase.sinceIndex = k) : s.counters c k = s := by
  subst counter since
  rfl

theorem State.counting_counters (dt : Nat) :
    (s.counters c k).counting dt = (s.elapse dt).counters (if 4095 ≤ c then 0 else c + 1) (min 65 (k + 1)) := rfl

/-- Forward counts through the span leave what the span leaves, and the two counts. -/
theorem counted_span {s : State} (synced : s.phase.synced = true) (io : CountInputs) (n : Nat) {c k : Nat} (span : c + n = 4095)
    (bound : k ≤ 65) :
    Counted (startsFirst io) n (s.counters c k) ((s.runSpan io n).counters 4095 (min 65 (k + n))) := by
  induction n generalizing s c k with
  | zero =>
    have whole : c = 4095 := by omega
    have since : min 65 (k + 0) = k := by omega
    rw [whole, since]
    exact rfl
  | succ n ih =>
    have below : (s.counters c k).phase.counter < 4095 := by
      change c < 4095
      omega
    have value : 4095 - n = c + 1 := by omega
    have since : min 65 (k + (n + 1)) = min 65 (min 65 (k + 1) + n) := by omega
    refine ⟨(s.skippedAt (4095 - n) io).counters (c + 1) (min 65 (k + 1)), ?_, ?_⟩
    · rw [exec_forward_events 0 (startsFirst io) (s := s.counters c k) synced below, s.counting_counters c k, if_neg (by omega),
        ← State.skippedAt_counters, State.skippedAt_eq, value]
      rfl
    · rw [State.runSpan, since]
      exact ih (by rw [s.skippedAt_phase]; exact synced) (by omega) (by omega)

theorem Counted.snoc {io : CountInputs} {n : Nat} {s t u : State} (counted : Counted io n s t)
    (next : exec (.forwardEncoderCount 0 io) t = .next u) : Counted io (n + 1) s u := by
  induction n generalizing s with
  | zero =>
    cases counted
    exact ⟨u, next, rfl⟩
  | succ n ih =>
    obtain ⟨v, first, rest⟩ := counted
    exact ⟨v, first, ih rest⟩

/-- An early mark leaves what forward counts in its place leave, the counter and the count since index then 0 (R3, R4). -/
theorem State.forcePhase_early {s : State} (synced : s.phase.synced = true) (io : CountInputs) (early : 2048 ≤ s.phase.counter)
    (below : s.phase.counter ≤ 4095) (bound : s.phase.sinceIndex ≤ 65) :
    ∃ u, Counted (startsFirst io) (if s.phase.sinceIndex = 65 then 4096 - s.phase.counter else 4095 - s.phase.counter) s u ∧
      s.forcePhase io = u.counters 0 0 ∧ u.now = s.now := by
  obtain ⟨n, hn⟩ : ∃ n, n = 4095 - s.phase.counter := ⟨_, rfl⟩
  have counted := counted_span synced io n (c := s.phase.counter) (k := s.phase.sinceIndex) (by omega) bound
  have own : s.counters s.phase.counter s.phase.sinceIndex = s := rfl
  have phase := s.runSpan_phase io n
  have now : (s.runSpan io n).now = s.now := by simp
  rw [own] at counted
  rw [State.forcePhase, if_pos early, ← hn]
  generalize s.runSpan io n = r at *
  have forced : (r.updPhase fun p => { p with counter := 0 }) = r.counters 0 s.phase.sinceIndex := by
    have since : r.phase.sinceIndex = s.phase.sinceIndex := by rw [phase]
    rw [← since]
    rfl
  rw [forced]
  by_cases full : s.phase.sinceIndex = 65
  · have wrap : exec (.forwardEncoderCount 0 (startsFirst io)) (r.counters 4095 (min 65 (s.phase.sinceIndex + n))) =
        .next (r.counters 0 65).cycleIndex := by
      have synced' : (r.counters 4095 (min 65 (s.phase.sinceIndex + n))).phase.synced = true := by
        change r.phase.synced = true
        rw [phase]
        exact synced
      have most : min 65 (min 65 (s.phase.sinceIndex + n) + 1) = 65 := by omega
      have idle : r.elapse 0 = r := rfl
      rw [exec_forward_wrap 0 (startsFirst io) synced' (le_refl 4095), State.counting_counters,
        if_pos (le_refl 4095), idle, most]
    have all : 4096 - s.phase.counter = n + 1 := by omega
    have cleared : (r.counters 0 65).cycleIndex = (r.counters 0 65).cycleIndex.counters 0 0 := by
      have index := (r.counters 0 65).cycleIndex_phase
      generalize (r.counters 0 65).cycleIndex = x at *
      exact (State.counters_own 0 0 (by rw [index]; rfl) (by rw [index]; rfl)).symm
    rw [if_pos full, if_pos full, all, full]
    exact ⟨_, counted.snoc (by rw [wrap]), cleared, by simp [now]⟩
  · rw [if_neg full, if_neg full]
    exact ⟨_, counted, rfl, now⟩

end

end Sys2Proof.Machine
end

section
/-!
The index mark of a synchronised Phase unit: the deviation, the counter forced, JAM judged (R3, R4, R6).
-/

namespace Sys2Proof.Machine

/-! ### JAM judged (R6, R161, R162) -/

theorem SameBut.updPhase (f : PhaseUnit → PhaseUnit) (s : State) : SameBut [.phase] s (s.updPhase f) := fun p hp => by
  cases p <;> simp [Part.same] at hp ⊢

/-- A mark of a small deviation clears JAM. -/
theorem State.judgeJam_small {d : Nat} (small : d < 65) (s : State) :
    (s.judgeJam d).phase = { s.phase with jam := false } ∧
      (s.judgeJam d).line = { s.line with causes := { s.line.causes with jam := false } } ∧
      (s.line.causes.jam = true → (s.judgeJam d).word Header.causes = (s.judgeJam d).line.causes.word) ∧
      SameBut [.phase, .line] s (s.judgeJam d) ∧
      BytesBut (if s.line.causes.jam then [Header.causes] else []) s (s.judgeJam d) := by
  have judged : s.judgeJam d = (s.updPhase fun p => { p with jam := false }).clearCause .jam := if_neg (by omega)
  have before := SameBut.updPhase (fun p => { p with jam := false }) s
  have phase : (s.updPhase fun p => { p with jam := false }).phase = { s.phase with jam := false } := rfl
  have mem : (s.updPhase fun p => { p with jam := false }).mem = s.mem := rfl
  rw [judged]
  generalize (s.updPhase fun p => { p with jam := false }) = u at *
  have lineBefore : u.line = s.line := before .line (by decide)
  obtain ⟨line, word, same, bytes⟩ := u.clearCause_whole .jam
  have quiet : s.line.causes.jam = false → u.clearCause .jam = u := fun none => if_neg (by
    rw [lineBefore, Causes.has, none]
    decide)
  refine ⟨(same .phase (by decide)).trans phase, by rw [line, lineBefore]; rfl,
    fun has => word (by rw [lineBefore]; exact has), before.trans same, ?_⟩
  cases has : s.line.causes.jam with
  | true => exact (BytesBut.of_mem (w := []) mem).trans bytes
  | false =>
    rw [quiet has]
    exact BytesBut.of_mem mem

/-- What a mark of a deviation of 65 or more makes of the card: JAM set and reported. -/
structure Jammed (s t : State) : Prop where
  phase : t.phase = { s.phase with jam := true }
  raised : ∃ u, SameBut [.phase] s u ∧ CauseRaised .jam u t
  snapshot : (∀ x ∈ s.snapshotWords, s.word x.1 = x.2) → ∀ x ∈ t.snapshotWords, t.word x.1 = x.2
  bytes : BytesBut (Header.causes :: modeWords) s t

/-- The snapshot's words are not of the line and not of JAM. -/
theorem State.snapshotWords_line {s t : State} (same : SameBut [.line] s t) : t.snapshotWords = s.snapshotWords := by
  have gathering : t.gathering = s.gathering := same .gathering (by decide)
  have carousel : t.carousel = s.carousel := same .carousel (by decide)
  have trim : t.trim = s.trim := same .trim (by decide)
  have flight : t.inFlight = s.inFlight := State.inFlight_congr (by rw [gathering]) (by rw [carousel]) trim
  rw [State.snapshotWords, State.snapshotWords, show t.phase = s.phase from same .phase (by decide), trim,
    show t.pot = s.pot from same .pot (by decide), gathering, show t.cover = s.cover from same .cover (by decide),
    show t.miller = s.miller from same .miller (by decide), flight]

theorem snapshot_apart_causes {s : State} {x : Nat × Word} (h : x ∈ s.snapshotWords) :
    ∀ w ∈ [Header.causes], x.1 + 4 ≤ w ∨ w + 4 ≤ x.1 := by
  have all : ∀ a ∈ snapshotArea, ∀ w ∈ [Header.causes], a + 4 ≤ w ∨ w + 4 ≤ a := by decide
  exact all _ (State.snapshotWords_mem_area h).1

theorem State.causeSet_snapshot {a : Cause} {s : State} (told : ∀ x ∈ s.snapshotWords, s.word x.1 = x.2) :
    ∀ x ∈ (s.causeSet a).snapshotWords, (s.causeSet a).word x.1 = x.2 := by
  obtain ⟨same, -⟩ := s.causeSet_effect a
  have bytes : BytesBut [Header.causes] s (s.causeSet a) := by
    unfold State.causeSet
    split
    · exact BytesBut.refl _ s
    · exact (s.setCauses_effect _).2.2
  rw [State.snapshotWords_line same]
  intro x hx
  rw [bytes.word (snapshot_apart_causes hx)]
  exact told x hx

theorem State.judgeJam_small_snapshot {d : Nat} (small : d < 65) (s : State)
    (told : ∀ x ∈ s.snapshotWords, s.word x.1 = x.2) :
    ∀ x ∈ (s.judgeJam d).snapshotWords, (s.judgeJam d).word x.1 = x.2 := by
  have judged : s.judgeJam d = (s.updPhase fun p => { p with jam := false }).clearCause .jam := if_neg (by omega)
  have words : (s.updPhase fun p => { p with jam := false }).snapshotWords = s.snapshotWords := rfl
  have mem : (s.updPhase fun p => { p with jam := false }).mem = s.mem := rfl
  rw [judged]
  generalize (s.updPhase fun p => { p with jam := false }) = u at *
  obtain ⟨-, -, same, bytes⟩ := u.clearCause_whole .jam
  rw [State.snapshotWords_line same, words]
  intro x hx
  rw [bytes.word (snapshot_apart_causes hx), State.word, mem]
  exact told x hx

theorem State.raiseCause_snapshot {a : Cause} {s : State} (told : ∀ x ∈ s.snapshotWords, s.word x.1 = x.2) :
    ∀ x ∈ (s.raiseCause a).snapshotWords, (s.raiseCause a).word x.1 = x.2 := by
  rw [State.raiseCause_eq]
  split
  · exact State.changeMode_snapshotWords _ rfl
  · exact State.causeSet_snapshot told

theorem State.judgeJam_large {d : Nat} (large : 65 ≤ d) (s : State) : Jammed s (s.judgeJam d) := by
  have judged : s.judgeJam d = (s.updPhase fun p => { p with jam := true }).raiseCause .jam := if_pos large
  have before := SameBut.updPhase (fun p => { p with jam := true }) s
  have phase : (s.updPhase fun p => { p with jam := true }).phase = { s.phase with jam := true } := rfl
  have mem : (s.updPhase fun p => { p with jam := true }).mem = s.mem := rfl
  have words : (s.updPhase fun p => { p with jam := true }).snapshotWords = s.snapshotWords := rfl
  rw [judged]
  generalize (s.updPhase fun p => { p with jam := true }) = u at *
  have raised := u.raiseCause_whole .jam
  refine ⟨(State.raiseCause_phase .jam u).trans phase, ⟨u, before, raised⟩, fun told => ?_,
    ((BytesBut.of_mem (w := []) mem).trans raised.bytes).mono fun _ h => h⟩
  refine State.raiseCause_snapshot fun x hx => ?_
  rw [words] at hx
  rw [State.word, mem]
  exact told x hx

/-! ### The mark (R3, R4) -/

theorem exec_indexMark_near {s : State} (synced : s.phase.synced = true) (dt : Nat) (io : CountInputs)
    (near : deviation s.phase.counter ≤ 8) :
    exec (.indexMark dt io) s = .next ((s.elapse dt).judgeJam (deviation s.phase.counter)) := by
  refine congrArg Host.Outcome.next ((if_pos synced).trans ?_)
  dsimp only
  rw [State.elapse_phase, if_pos near]

theorem exec_indexMark_far {s : State} (synced : s.phase.synced = true) (dt : Nat) (io : CountInputs)
    (far : 8 < deviation s.phase.counter) :
    exec (.indexMark dt io) s = .next (((s.elapse dt).forcePhase io).judgeJam (deviation s.phase.counter)) := by
  refine congrArg Host.Outcome.next ((if_pos synced).trans ?_)
  dsimp only
  rw [State.elapse_phase, if_neg (by omega)]

theorem State.elapse_whole (dt : Nat) (s : State) : SameBut [.now] s (s.elapse dt) ∧ (s.elapse dt).mem = s.mem :=
  ⟨fun p hp => (by cases p <;> simp [Part.same] at hp ⊢), rfl⟩

/-- The cycle index event that a mark raises over an emptied chain end, every window end having been taken. -/
structure MarkIndexed (dt : Nat) (s c : State) : Prop where
  later : c.now = s.now + dt
  cells : ∀ p : Fin 18, c.cell p = s.cell (p - 1)
  places : ∀ p : Fin 24, c.carousel.places[p] = s.carousel.places[p - 1]
  phase : PhaseUnit.AtIndexEvent c.now s.config.settings.valveLead s.phase c.phase
  port : c.port = { s.port with snapSeq := s.port.snapSeq + 2 }
  snapshot : ∀ x ∈ c.snapshotWords, c.word x.1 = x.2
  same : SameBut [.now, .phase, .gathering, .carousel, .port] s c
  bytes : BytesBut snapshotArea s c

/-- It is the index event of a wrap (R2). -/
theorem State.cycleIndex_atMark {s : State} (synced : s.phase.synced = true) (taken : ∀ w : Window, w ∈ s.phase.endTaken)
    (vacant : (s.cell 17).isHolding = false) (stays : ModeStays s) (dt : Nat) (io : CountInputs) :
    MarkIndexed dt s ((s.elapse dt).counters 0 65).cycleIndex := by
  have before : SameBut [.phase] s (s.counters 4095 65) := SameBut.updPhase _ s
  obtain ⟨c, run, later, cells, -, places, -, -, phase, port, -, snapshot, same, bytes⟩ :=
    (wrapAdvancesTheLine (s.counters 4095 65) dt io synced rfl taken).1 vacant stays
  have event : c = ((s.elapse dt).counters 0 65).cycleIndex := by
    have most : min 65 (65 + 1) = 65 := rfl
    rw [exec_forward_wrap dt io (s := s.counters 4095 65) synced (le_refl 4095), State.counting_counters,
      if_pos (le_refl 4095), most] at run
    exact (Host.Outcome.next.inj run).symm
  rw [← event]
  exact ⟨later, cells, places, phase, port, snapshot, (before.trans same).mono (by decide), bytes⟩

/-! ### A mark with nothing left in its span -/

theorem State.skippedAt_idle {p : Nat} {s : State} (idle : ∀ e, s.eventValue e ≠ some p) (io : CountInputs) :
    s.skippedAt p io = s := by
  rw [State.skippedAt]
  generalize io.order.filter _ ++ startEvents ++ io.order ++ defaultOrder = l
  induction l with
  | nil => rfl
  | cons e l ih => rw [List.foldl_cons, State.eventAt, if_neg (idle e), ih]

theorem State.runSpan_idle {n : Nat} {s : State} (idle : ∀ e p, s.eventValue e = some p → p + n < 4096 ∨ 4095 < p)
    (io : CountInputs) : s.runSpan io n = s := by
  induction n with
  | zero => rfl
  | succ n ih =>
    have quiet : s.skippedAt (4095 - n) io = s := State.skippedAt_idle (fun e value => by
      have := idle e _ value
      omega) io
    rw [State.runSpan, quiet]
    exact ih fun e p value => by
      have := idle e p value
      omega

/-- A mark that raises nothing of its span and the index event (R4). -/
theorem State.forcePhase_indexes {s : State} (since : s.phase.sinceIndex = 65) (below : s.phase.counter ≤ 4095)
    (idle : 2048 ≤ s.phase.counter → ∀ e ∈ defaultOrder, ∀ v ∈ s.eventValue e, v ≤ s.phase.counter ∨ 4095 < v)
    (io : CountInputs) : s.forcePhase io = (s.counters 0 65).cycleIndex := by
  have span : (if 2048 ≤ s.phase.counter then s.runSpan io (4095 - s.phase.counter) else s) = s := by
    split
    · next early =>
      refine State.runSpan_idle (fun e p value => ?_) io
      have := idle early e (mem_defaultOrder e) p value
      omega
    · rfl
  have forced : (s.updPhase fun p => { p with counter := 0 }) = s.counters 0 65 := by
    rw [← since]
    rfl
  rw [State.forcePhase, span, forced, if_pos since]

/-- The index event of a mark finds the mode as it is (R160, R166). -/
theorem modeStays_of_mark {s : State} (emptying : s.line.mode = .emptying → s.inFlight ≠ 0)
    (running : s.line.mode = .running → s.config.settings.idleLimit = 0 ∨ s.line.idle < s.config.settings.idleLimit) :
    ModeStays s :=
  ⟨emptying, fun mode => (running mode).imp_right .inl⟩

/-! ### The obligations -/

/-- A mark after which JAM is not present, over the card that the counts in its place leave (R6). -/
theorem judgeJam_counted {d : Nat} (small : d < 65) {s u t : State} {dt : Nat} (now : u.now = s.now + dt)
    (ht : t = (u.counters 0 0).judgeJam d) :
    Later dt s t ∧ t.phase = { u.phase with counter := 0, sinceIndex := 0, jam := false } ∧
      t.line = { u.line with causes := { u.line.causes with jam := false } } ∧
      (u.line.causes.jam = true → t.word Header.causes = t.line.causes.word) ∧
      SameBut [.phase, .line] u t ∧ BytesBut (if u.line.causes.jam then [Header.causes] else []) u t := by
  have before : SameBut [.phase] u (u.counters 0 0) := SameBut.updPhase _ u
  obtain ⟨phase, line, word, same, bytes⟩ := (u.counters 0 0).judgeJam_small small
  rw [← ht] at phase line word same bytes
  exact ⟨(same .now (by decide)).trans now, phase, line, word, (before.trans same).mono (by decide), bytes⟩

/-- Settles O16: the deviation by its size, late or early. -/
theorem smallMarks : Obligations.SmallMarks := by
  intro s dt io synced
  obtain ⟨elapsed, mem⟩ := s.elapse_whole dt
  refine ⟨fun near => ?_, fun above below since => ?_, fun above below since idle taken vacant emptying running => ?_,
    fun above below bound => ?_⟩
  · have small : deviation s.phase.counter ≤ 8 := by
      unfold deviation
      omega
    obtain ⟨phase, line, word, same, bytes⟩ := (s.elapse dt).judgeJam_small (d := deviation s.phase.counter) (by omega)
    exact ⟨_, exec_indexMark_near synced dt io small, same .now (by decide), phase, line, word, (elapsed.trans same).mono (by decide),
      ((BytesBut.of_mem (w := []) mem).trans bytes).mono fun _ h => h⟩
  · have far : 8 < deviation s.phase.counter ∧ deviation s.phase.counter < 65 := by
      unfold deviation
      omega
    have forced : (s.elapse dt).forcePhase io = (s.elapse dt).counters 0 0 := by
      rw [State.forcePhase, State.elapse_phase, if_neg (by omega), if_neg (by omega)]
      rfl
    have run := exec_indexMark_far synced dt io far.1
    rw [forced] at run
    obtain ⟨later, phase, line, word, same, bytes⟩ := judgeJam_counted far.2 (s := s) (u := s.elapse dt) (dt := dt) rfl rfl
    exact ⟨_, run, later, phase, line, word, (elapsed.trans same).mono (by decide),
      ((BytesBut.of_mem (w := []) mem).trans bytes).mono fun _ h => h⟩
  · have far : 8 < deviation s.phase.counter ∧ deviation s.phase.counter < 65 := by
      unfold deviation
      omega
    have run := exec_indexMark_far synced dt io far.1
    rw [State.forcePhase_indexes (s := s.elapse dt) since (by rw [State.elapse_phase]; omega) (fun _ => idle) io] at run
    obtain ⟨later, cells, places, index, port, snapshot, same, bytes⟩ :=
      State.cycleIndex_atMark synced taken vacant (modeStays_of_mark emptying running) dt io
    generalize ((s.elapse dt).counters 0 65).cycleIndex = c at *
    have line : c.line = s.line := same .line (by decide)
    obtain ⟨phase, lineAfter, -, told, cleared⟩ := c.judgeJam_small far.2
    have words := c.judgeJam_small_snapshot far.2 snapshot
    generalize c.judgeJam (deviation s.phase.counter) = t at *
    have gathering : t.gathering = c.gathering := told .gathering (by decide)
    have carousel : t.carousel = c.carousel := told .carousel (by decide)
    unfold PhaseUnit.AtIndexEvent at index
    rw [later] at index
    rw [index] at phase
    refine ⟨t, run, (told .now (by decide)).trans later, by rw [phase], by rw [phase], by rw [phase], by rw [phase], by rw [phase],
      by rw [phase], by rw [phase], by rw [phase], ?_, by rw [phase], by rw [phase]; exact synced, fun p => ?_, fun p => ?_,
      by rw [lineAfter, line], words, (same.trans told).mono (by decide), ?_⟩
    · rw [phase]
      dsimp only
      rw [index]
    · rw [State.cell, gathering]
      exact cells p
    · rw [carousel]
      exact places p
    · refine (bytes.trans cleared).mono fun a ha => ?_
      rcases List.mem_append.mp ha with area | own
      · exact List.mem_cons_of_mem _ area
      · split at own
        · exact List.mem_cons.mpr (.inl (List.mem_singleton.mp own))
        · cases own
  · have far : 8 < deviation s.phase.counter ∧ deviation s.phase.counter < 65 := by
      unfold deviation
      omega
    obtain ⟨u, counted, forced, now⟩ := State.forcePhase_early (s := s.elapse dt) synced io
      (by rw [State.elapse_phase]; omega) (by rw [State.elapse_phase]; omega) bound
    have run := exec_indexMark_far synced dt io far.1
    rw [forced] at run
    obtain ⟨later, phase, line, word, same, bytes⟩ := judgeJam_counted far.2 (s := s) (dt := dt) now rfl
    exact ⟨_, u, run, later, counted, phase, line, word, same, bytes⟩

/-- Settles O17: the late mark over a line that stays, and the early one after its counts. -/
theorem jamMarkHalts : Obligations.JamMarkHalts := by
  refine ⟨fun s dt io synced above below since taken vacant emptying running => ?_,
    fun s dt io synced above below bound => ?_⟩
  · have large : 65 ≤ deviation s.phase.counter := by
      unfold deviation
      omega
    have run := exec_indexMark_far synced dt io (by omega)
    rw [State.forcePhase_indexes (s := s.elapse dt) since (by rw [State.elapse_phase]; omega)
      (fun early => by rw [State.elapse_phase] at early; omega) io] at run
    obtain ⟨later, cells, places, index, port, snapshot, same, bytes⟩ :=
      State.cycleIndex_atMark synced taken vacant (modeStays_of_mark emptying running) dt io
    generalize ((s.elapse dt).counters 0 65).cycleIndex = c at *
    obtain ⟨phase, ⟨u, judged, raised⟩, words, marked⟩ := c.judgeJam_large large
    generalize c.judgeJam (deviation s.phase.counter) = t at *
    have before : SameBut [.now, .phase, .gathering, .carousel, .port] s u := (same.trans judged).mono (by decide)
    have line : u.line = s.line := before .line (by decide)
    have now : u.now = s.now + dt := (judged .now (by decide)).trans later
    have counts : u.port.counts = s.port.counts := by rw [show u.port = c.port from judged .port (by decide), port]
    have kept : SameBut ([.now, .phase, .gathering, .carousel, .port] ++
        [.stations, .gathering, .carousel, .format, .miller, .glue, .cover, .line, .port]) s t := before.trans raised.same
    obtain ⟨chain, carousel, -⟩ := raised.works
    unfold PhaseUnit.AtIndexEvent at index
    rw [later] at index
    rw [index] at phase
    refine ⟨t, run, (raised.same .now (by decide)).trans now, by rw [phase], by rw [phase], by rw [phase], by rw [phase],
      by rw [phase], by rw [phase], by rw [phase], by rw [phase], fun p => ?_, fun p => ?_, ?_, fun fresh => ?_, fun halts => ?_,
      fun calm => ?_, words snapshot, kept .trim (by decide), kept .sched (by decide), kept .cache (by decide),
      kept .config (by decide), kept .pins (by decide), kept .pot (by decide), kept .pending (by decide),
      (bytes.trans marked).mono (by decide)⟩
    · rw [State.cell, chain, show u.gathering = c.gathering from judged .gathering (by decide)]
      exact cells p
    · rw [State.clampAt, carousel, show u.carousel = c.carousel from judged .carousel (by decide), places]
      rfl
    · rw [raised.causes, line]
      rfl
    · exact raised.word (by rw [line]; exact fresh)
    · obtain ⟨⟨mode, word, drive, -, -, -, -, -, rests, -⟩, start, noticed⟩ := raised.halted (by rw [line]; exact halts)
      exact ⟨mode, start.trans (by rw [now]), drive, word, fun acting => rests rfl (by rw [line]; exact acting),
        noticed.of_counts counts⟩
    · obtain ⟨stands, lineAfter⟩ := raised.stays (by rw [line]; exact calm)
      refine ⟨by rw [lineAfter, raised.causes, line]; rfl, fun a => ⟨?_, fun raises => absurd rfl raises⟩,
        (before.trans stands).mono (by decide)⟩
      rw [show t.port = u.port from stands .port (by decide), counts]
      exact (BitVec.add_zero _).symm
  · have large : 65 ≤ deviation s.phase.counter := by
      unfold deviation
      omega
    obtain ⟨u, counted, forced, now⟩ := State.forcePhase_early (s := s.elapse dt) synced io above
      (by rw [State.elapse_phase]; omega) bound
    have run := exec_indexMark_far synced dt io (by omega)
    rw [forced] at run
    have forcedSame : SameBut [.phase] u (u.counters 0 0) := SameBut.updPhase _ u
    have forcedPhase : (u.counters 0 0).phase = { u.phase with counter := 0, sinceIndex := 0 } := rfl
    have forcedMem : (u.counters 0 0).mem = u.mem := rfl
    generalize u.counters 0 0 = c at *
    obtain ⟨phase, ⟨v, judged, raised⟩, -, marked⟩ := c.judgeJam_large large
    generalize c.judgeJam (deviation s.phase.counter) = t at *
    have before : SameBut [.phase] u v := (forcedSame.trans judged).mono (by decide)
    have line : v.line = u.line := before .line (by decide)
    have port : v.port = u.port := before .port (by decide)
    have nowV : v.now = s.now + dt := (before .now (by decide)).trans now
    obtain ⟨chain, carousel, -⟩ := raised.works
    refine ⟨t, u, run, (raised.same .now (by decide)).trans nowV, counted, by rw [phase, forcedPhase], ?_, fun fresh => ?_,
      fun halts => ?_, fun calm => ?_, ?_, ?_, (before.trans raised.same).mono (by decide),
      ((BytesBut.of_mem (w := []) forcedMem).trans marked).mono fun _ h => h⟩
    · rw [raised.causes, line]
      rfl
    · exact raised.word (by rw [line]; exact fresh)
    · obtain ⟨entered, start, noticed⟩ := raised.halted (by rw [line]; exact halts)
      exact ⟨entered.between (by decide) before (by decide) (by rw [line]) (by rw [line]) (by rw [line]) (by rw [line])
        (by rw [port]) (SameBut.refl [] t) (by decide) rfl rfl, start.trans (by rw [nowV]), noticed.of_counts (by rw [port])⟩
    · obtain ⟨stands, lineAfter⟩ := raised.stays (by rw [line]; exact calm)
      exact ⟨by rw [lineAfter, line], (before.trans stands).mono (by decide)⟩
    · rw [chain, show v.gathering = u.gathering from before .gathering (by decide)]
    · rw [carousel, show v.carousel = u.carousel from before .carousel (by decide)]

end Sys2Proof.Machine
end
